-- ==== Sys2Proof/Word.lean ====
section
/-! DEFINITION. The word types of the EZ-G1024 and their plainest arithmetic (spec/00_scope.md, R8: little endian). -/

namespace Sys2Proof

/-- A byte of memory. -/
abbrev Byte := BitVec 8
/-- A register word. -/
abbrev Word32 := BitVec 32
/-- A flit of the mortar, a word of tile memory, the step counter. -/
abbrev Word64 := BitVec 64

end Sys2Proof
end

