-- ==== Sys2Proof/Syntax.lean ====
section
/-! DEFINITION. The commands of the EZ-G1024, one constructor of `Instr` per row of the opcode table, and the syntax their operands
use: mortar packets (R234–R248), neuron instructions (R184–R186), tie frames (R320–R323), host frames (R429–R445). -/

namespace Sys2Proof

/-! ## Mortar packets -/

/-- Flit 0 and the address of a request (R239): the router that delivers, the requester, the tag and the access size. -/
structure ReqHead where
  dtile : BitVec 10
  dchip : BitVec 10
  dgw : Bool
  stile : BitVec 10
  schip : BitVec 10
  sgw : Bool
  tag : BitVec 8
  size : BitVec 2
  addr : BitVec 38
deriving DecidableEq, Repr

/-- Flit 0 of a reply (R239): destination, status of R241, hod status and the request's tag and size. -/
structure RspHead where
  dtile : BitVec 10
  dchip : BitVec 10
  dgw : Bool
  status : BitVec 4
  hstat : BitVec 16
  tag : BitVec 8
  size : BitVec 2
deriving DecidableEq, Repr

/-- A mortar packet (R234), by type. `raw` is any flit sequence whose TYPE, CLASS or length R235 refuses. -/
inductive Packet
  | spikeUC (dtile dchip : BitVec 10) (axon : BitVec 16) (payload : BitVec 4) (prio : BitVec 2) (step : BitVec 8)
  | spikeMC (cmask : BitVec 16) (dchip : BitVec 10) (axon : BitVec 16) (payload : BitVec 4) (prio : BitVec 2)
      (step : BitVec 8) (tmask : BitVec 64)
  | psum (dtile dchip : BitVec 10) (neuron : BitVec 14) (step : BitVec 8) (ccount : BitVec 6) (sum : BitVec 20)
  | readReq (h : ReqHead)
  | writeReq (h : ReqHead) (data : List (BitVec 64))
  | readRsp (h : RspHead) (data : List (BitVec 64))
  | writeAck (h : RspHead)
  | close (step : BitVec 8) (short exh : Bool)
  | seal (step : BitVec 8)
  | poll (step : BitVec 8) (round : BitVec 4)
  | start (step : BitVec 64)
  | count (step : BitVec 8) (round : BitVec 4) (missing : Bool) (notEmitted notPassive : BitVec 21) (inj con : BitVec 32)
  | mgmt (mkind : BitVec 4) (dchip schip : BitVec 10) (seq : BitVec 8) (data : List (BitVec 64))
  | bcast (cmask : BitVec 16) (dchip : BitVec 10) (offset : BitVec 24) (data : List (BitVec 64))
  | hodMsg (h : ReqHead) (hop : BitVec 4) (svc : BitVec 16) (data : List (BitVec 64))
  | raw (flits : List (BitVec 64))
deriving DecidableEq, Repr

/-- Traffic classes (R234). -/
inductive Class | ev | rq | rp | cl | mg
deriving DecidableEq, Repr

/-- Ports of a router: the four neighbours, the tile's local port, the gateway port of R18. -/
inductive Port | north | south | east | west | loc | gw
deriving DecidableEq, Repr

/-- Escape lanes (R249). -/
inductive LaneId | x | y | h
deriving DecidableEq, Repr

/-! ## Neuron instructions -/

/-- A neuron instruction (R185), its fields decoded as R184 gives them. The predicate is kept beside it. -/
inductive NOp
  | nop
  | endTouch
  | alu (rd ra rb : BitVec 4) (fn : BitVec 11)
  | addi (rd ra : BitVec 4) (imm : BitVec 15)
  | andi (rd ra : BitVec 4) (imm : BitVec 15)
  | shi (rd ra : BitVec 4) (imm : BitVec 15)
  | ldi (rd : BitVec 4) (imm : BitVec 19)
  | ldih (rd : BitVec 4) (imm : BitVec 16)
  | cmp (rd ra rb : BitVec 4) (fn : BitVec 11)
  | br (mode prb : BitVec 2) (off : BitVec 19)
  | ldn (rd : BitVec 4) (fn : BitVec 11)
  | stn (ra : BitVec 4) (fn : BitVec 11)
  | ldacc (rd : BitVec 4)
  | fold (rd ra : BitVec 4)
  | decay (rd ra : BitVec 4)
  | decayx (rd ra : BitVec 4) (imm : BitVec 15)
  | fire (rd ra : BitVec 4)
  | emitk (ra : BitVec 4)
  | pend
  | mulsh (rd ra : BitVec 4) (fn : BitVec 11)
  | srnd (rd ra : BitVec 4) (imm : BitVec 15)
  | tlu (rd ra : BitVec 4) (imm : BitVec 15)
  | lds (rd ra : BitVec 4) (imm : BitVec 15)
  | sts (rd ra : BitVec 4) (imm : BitVec 15)
  | ldg (rd ra rb : BitVec 4)
  | stg (rd ra rb : BitVec 4)
  | bfx (rd ra : BitVec 4) (imm : BitVec 15)
  | bfi (rd ra : BitVec 4) (imm : BitVec 15)
  | hopen (rd ra : BitVec 4)
  | hsend (rd ra rb : BitVec 4)
  | hrecv (rd ra rb : BitVec 4)
  | waitstep
deriving DecidableEq, Repr

/-- A neuron instruction with its predicate (R180): register PR and the negation PN. BR carries none. -/
structure NInstr where
  op : NOp
  pr : BitVec 2
  pn : Bool
deriving DecidableEq, Repr

/-- A reporter of the step protocol other than a tile (R202, R259): the router sink of router `r`, the collar bridges, the host port,
sensor port `k` (0 to 3 CSI, 4 and 5 AER, 6 to 9 T1S), a tie block. -/
inductive Reporter
  | sink (r : BitVec 10)
  | collar
  | host
  | port (k : BitVec 4)
  | tie (p : BitVec 2)
deriving DecidableEq, Repr

/-! ## Host frames -/

/-- The SecTAG and ICV of a protected frame (R428): association number, packet number, ICV. -/
structure SecTag where
  an : BitVec 2
  sci : BitVec 64
  pn : BitVec 64
  icv : BitVec 128
deriving DecidableEq, Repr

/-- A frame at the host port (R429, R430): whether its FCS matches, its protection, addresses, tag, EtherType, and the control header
with the body. -/
structure HFrame where
  fcs : Bool
  sec : Option SecTag
  dst : BitVec 48
  src : BitVec 48
  vid : Option (BitVec 12)
  etype : BitVec 16
  kind : BitVec 8
  ver : BitVec 8
  seq : BitVec 16
  len : BitVec 16
  chip : BitVec 16
  body : List (BitVec 8)
deriving DecidableEq, Repr

/-! ## Commands -/

/-- A command of the block: one constructor per row of the opcode table. -/
inductive Instr
  /-- PORST_N_RELEASE (R597). The rising edge of PORST_N samples the straps and begins bring-up step 0. -/
  | porstNRelease (manager spi foot15 : Bool)
  /-- PORST_N_ASSERT (R476). PORST_N held low resets the whole chip, power-on included. -/
  | porstNAssert (power : Bool)
  /-- SUPPLY_MONITOR_RESET (R593). A rail below its reset threshold for more than 1 us resets the chip and records the supply in MON. -/
  | supplyMonitorReset (mon : BitVec 4)
  /-- SUPPLY_BAND_FOOTING (R594). A wythe rail outside its regulation band for 1 ms raises footing trigger 0x4. -/
  | supplyBandFooting (east : Bool)
  /-- SYS_RESET (R32). A write with KEY 0xC4A7 and GO = 1 starts a whole-chip software reset; any other write has no effect. -/
  | sysReset (v : BitVec 32)
  /-- REGISTER_WRITE (R569). A write to a register with no row of its own: RWD fields are rejected and counted while EN = 1, other fields follow their access codes. -/
  | registerWrite (ini : BitVec 5) (addr : BitVec 26) (v : BitVec 32)
  /-- RC_READ (R9). A read of an RC field returns the value and clears it; an event in the same cycle is counted after the clear. -/
  | rcRead (ini : BitVec 5) (addr : BitVec 26)
  /-- W1C_WRITE (R9). Writing 1 clears a W1C bit unless hardware sets it in the same cycle. -/
  | w1cWrite (ini : BitVec 5) (addr : BitVec 26) (v : BitVec 32)
  /-- INT_SET (R564). Writing 1 to a bit of INT_SET sets that bit of INT_STATUS. -/
  | intSet (page : BitVec 14) (v : BitVec 32)
  /-- INT_ENABLE_WRITE (R574). Enabling a bit whose INT_STATUS bit is already set activates the request line at once. -/
  | intEnableWrite (page : BitVec 14) (v : BitVec 32)
  /-- BLOCK_DISABLE (R571). Writing EN = 0 to an ACTIVE block sets DRAINING, and the block completes the work it holds. -/
  | blockDisable (page : BitVec 14)
  /-- BLOCK_DRAIN_DONE (R571). A draining block completes its work: DRAINING clears and EN reads 0. -/
  | blockDrainDone (page : BitVec 14)
  /-- DRAIN_TIMEOUT_EXPIRE (R571). DRAIN_TIMEOUT expires during a drain: the block discards its remaining work and sets DRAIN_FORCED. -/
  | drainTimeoutExpire (page : BitVec 14)
  /-- FORCE (R571). Writing FORCE = 1 while ACTIVE or DRAINING discards the remaining work at once; while IDLE it has no effect. -/
  | force (page : BitVec 14)
  /-- BLOCK_ENABLE (R572). EN = 1 written while IDLE enables the block and runs its checks; while DRAINING it is ignored. -/
  | blockEnable (page : BitVec 14)
  /-- READ_REQ (R242). A read request reaches its target, which answers with a READ_RSP carrying one outcome of R27. -/
  | readReq (ini : BitVec 5) (h : ReqHead)
  /-- WRITE_REQ (R242). A write request reaches its target, which performs it and answers with a WRITE_ACK. -/
  | writeReq (ini : BitVec 5) (h : ReqHead) (data : List (BitVec 64))
  /-- READ_RSP (R241). A reply arrives at its requester's reserved buffer and completes the request. -/
  | readRsp (h : RspHead) (data : List (BitVec 64))
  /-- WRITE_ACK (R241). A write acknowledgement arrives at its requester and completes the request. -/
  | writeAck (h : RspHead)
  /-- ROUTER_HOP (R253). A router takes a packet and moves it on through an adaptive channel or an escape lane. -/
  | routerHop (r : BitVec 10) (k : BitVec 8)
  /-- PSUM_WINDOW_EXPIRE (R257). A held PSUM leaves when its CWIN window ends, or at once when combining is switched off. -/
  | psumWindowExpire (r : BitVec 10) (k : BitVec 5)
  /-- COLLAR_CROSSING (R267). A packet crosses the collar bridge under credit pacing between the two wythe clocks. -/
  | collarCrossing (row : BitVec 5) (toEast : Bool) (k : BitVec 8)
  /-- ROUTER_SINK (R206). A router consumes a spike or PSUM addressed to a tile that is absent, retired or powered off, and counts it. -/
  | routerSink (t : BitVec 10) (p : Packet)
  /-- COLLAR_SINK_PACKET (R269). A bridge in sink mode consumes EV and CL packets, answers requests DOMAIN_OFF and discards MGMT. -/
  | collarSinkPacket (row : BitVec 5) (toEast : Bool) (p : Packet)
  /-- MTR_DRAINED (R275). A wythe's EV and CL traffic has left while injection is held; DRAINED is raised. -/
  | mtrDrained (east : Bool)
  /-- MTR_INJ_HOLD_WRITE (R265). Setting the hold bits stops the named sources injecting EV and CL packets; clearing them resumes injection. -/
  | mtrInjHoldWrite (v : BitVec 32)
  /-- RT_DISABLE (R270). Router EN = 0 routes all traffic through escape lanes and releases its PSUM buffers. -/
  | rtDisable (t : BitVec 10)
  /-- BCAST_LOAD_DELIVER (R451). A cluster agent writes a BCAST_LOAD copy into the load window while the core is in LOAD, and otherwise discards it. -/
  | bcastLoadDeliver (c : BitVec 4) (offset : BitVec 24) (data : List (BitVec 64))
  /-- SPIKE_ARRIVAL (R79). A spike reaching the tile queue is classified current, next, early or late, then queued, dropped or discarded and counted. -/
  | spikeArrival (t : BitVec 10) (axon : BitVec 16) (payload : BitVec 4) (prio : BitVec 2) (step : BitVec 8)
  /-- PSUM_ARRIVAL (R79). A PSUM reaching the tile queue is classified by step and queued or discarded. -/
  | psumArrival (t : BitVec 10) (neuron : BitVec 14) (step : BitVec 8) (ccount : BitVec 6) (sum : BitVec 20)
  /-- SYNAPSE_EVENT (R92). The axon stage takes a queued spike, reads its descriptor, and the synapse engine streams the row into the accumulators. -/
  | synapseEvent (t : BitVec 10)
  /-- PSUM_ENTRY (R91). The tile rescales a PSUM sum with the owning thread's scale and adds it under the guard. -/
  | psumEntry (t : BitVec 10)
  /-- COLD_ADMIT (R145). The cold-fetch engine admits a waiting row in rotation once its units fit under MAX_OUT, counts the hit and issues reads. -/
  | coldAdmit (c : BitVec 4)
  /-- COLD_ROW_RETURN (R145). Every unit of a row has returned OK; the engine hands the row to the tile, which streams it. -/
  | coldRowReturn (c : BitVec 4) (id : Nat)
  /-- COLD_FETCH_FAIL (R146). A unit returns an outcome other than OK; the row fails, its other units become stale, and the tile counts COLD_FAIL. -/
  | coldFetchFail (c : BitVec 4) (id : Nat)
  /-- COLD_UNIT_TIMEOUT (R146). A unit gets no reply within TIMEOUT; the row fails and the timeout is counted. -/
  | coldUnitTimeout (c : BitVec 4) (id : Nat)
  /-- COLD_STALE_REPLY (R147). A reply for a stale unit is discarded on arrival and returns its MAX_OUT share. -/
  | coldStaleReply (c : BitVec 4) (id : Nat)
  /-- CLU_COLD_AGE (R152). Writing GO halves every hit-table entry, one per cycle, while BUSY reads 1. -/
  | cluColdAge (c : BitVec 4)
  /-- IMMEDIATE_TOUCH (R105). During OPEN the neuron unit runs a queued immediate touch with FIRE enabled. -/
  | immediateTouch (t : BitVec 10)
  /-- TILE_CLOSE (R112). CLOSE(t) arrives at the tile, which sets S to t + 1, enters DRAIN and clears its parity counts. -/
  | tileClose (t : BitVec 10) (step : BitVec 8) (short exh : Bool)
  /-- TILE_DRAIN_DONE (R112). Every entry, cold fetch and post pass of the closed step has finished; the tile samples ARM and enters COMMIT or RUN. -/
  | tileDrainDone (t : BitVec 10)
  /-- TILE_COMMIT (R288). The commit unit adds the rounded deltas into the plastic weights, clears the deltas and marks dirty blocks. -/
  | tileCommit (t : BitVec 10)
  /-- TILE_RUN (R113). In RUN the neuron unit touches every ACTIVE or PENDING neuron, thread by thread, one quad at a time. -/
  | tileRun (t : BitVec 10) (n : BitVec 4)
  /-- TILE_RUN_END (R112). The close run ends: FIRED is copied to the post bitmap and cleared, PHASE becomes OPEN and the held half passes to the axon stage. -/
  | tileRunEnd (t : BitVec 10)
  /-- EMIT_PACKET (R110). The emitter builds a packet from a template of a fired neuron and injects it into the local port. -/
  | emitPacket (t : BitVec 10)
  /-- EMISSION_FINISHED (R110). The close run has ended and the emitter queue is empty; the tile has finished its emission. -/
  | emissionFinished (t : BitVec 10)
  /-- TILE_DISABLE (R115). TILE_CTRL.EN = 0 finishes the current step's entries and any commit or run, then discards the other half and stops. -/
  | tileDisable (t : BitVec 10)
  /-- TILE_STOPPED_CLOSE (R116). A stopped tile receiving CLOSE(t) takes S from its chip's counter and clears the parity counts of t. -/
  | tileStoppedClose (t : BitVec 10) (step : BitVec 8) (short exh : Bool)
  /-- TILE_ENABLE (R117). TILE_CTRL.EN = 1 takes S, clears the queue and bitmaps, checks bindings and the plastic configuration, and rebases. -/
  | tileEnable (t : BitVec 10)
  /-- TILE_LFSR_WRITE (R50). A write of 0 to TILE_LFSR loads 1; any other value is loaded as written. -/
  | tileLfsrWrite (t : BitVec 10) (v : BitVec 32)
  /-- TILE_STAT_CLR (R70). Writing 1 to bit n clears TILE_CONVn and TILE_CLIPn. -/
  | tileStatClr (t : BitVec 10) (v : BitVec 16)
  /-- TILE_CONV_READ (R61). A read of TILE_CONVn latches TILE_CLIPn into TILE_CLIP_SNAP. -/
  | tileConvRead (t : BitVec 10) (n : BitVec 4)
  /-- CLU_MSE_ARM (R73). ARM going from 0 to 1 samples the target and clears the probe; writing 0 stops it. -/
  | cluMseArm (c : BitVec 4) (k : BitVec 2) (v : BitVec 32)
  /-- CLU_MSE_SUM_LO_READ (R74). A read of SUM_LO latches SUM_HI, SAT, COUNT and ERR_MAX into the snapshots. -/
  | cluMseSumLoRead (c : BitVec 4) (k : BitVec 2)
  /-- NOP (R185). Does nothing. -/
  | nop (t : BitVec 10) (n : BitVec 4) (pr : BitVec 2) (pn : Bool)
  /-- END (R181). Ends the touch: clears the accumulator, ACTIVE and PENDING, and applies a pending post-trace raise. -/
  | endTouch (t : BitVec 10) (n : BitVec 4) (pr : BitVec 2) (pn : Bool)
  /-- ALU (R186). Computes the ALU function FN of ra and rb into rd. -/
  | alu (t : BitVec 10) (n rd ra rb : BitVec 4) (fn : BitVec 11) (pr : BitVec 2) (pn : Bool)
  /-- ADDI (R185). rd := ra + IMM15. -/
  | addi (t : BitVec 10) (n rd ra : BitVec 4) (imm : BitVec 15) (pr : BitVec 2) (pn : Bool)
  /-- ANDI (R185). rd := ra AND the sign-extended IMM15. -/
  | andi (t : BitVec 10) (n rd ra : BitVec 4) (imm : BitVec 15) (pr : BitVec 2) (pn : Bool)
  /-- SHI (R185). Shifts ra left, logically right or arithmetically right by an immediate. -/
  | shi (t : BitVec 10) (n rd ra : BitVec 4) (imm : BitVec 15) (pr : BitVec 2) (pn : Bool)
  /-- LDI (R185). Loads the sign-extended IMM19 into rd. -/
  | ldi (t : BitVec 10) (n rd : BitVec 4) (imm : BitVec 19) (pr : BitVec 2) (pn : Bool)
  /-- LDIH (R185). Loads IMM16 into rd[31:16] and keeps rd[15:0]. -/
  | ldih (t : BitVec 10) (n rd : BitVec 4) (imm : BitVec 16) (pr : BitVec 2) (pn : Bool)
  /-- CMP (R186). Sets a predicate from the condition FN of ra and rb. -/
  | cmp (t : BitVec 10) (n rd ra rb : BitVec 4) (fn : BitVec 11) (pr : BitVec 2) (pn : Bool)
  /-- BR (R186). Branches by MODE on the predicate over the active lanes. -/
  | br (t : BitVec 10) (n : BitVec 4) (mode prb : BitVec 2) (off : BitVec 19)
  /-- LDN (R185). Loads the lane's first or second neuron word. -/
  | ldn (t : BitVec 10) (n rd : BitVec 4) (fn : BitVec 11) (pr : BitVec 2) (pn : Bool)
  /-- STN (R185). Stores ra into a neuron word and applies any pending post-trace raise. -/
  | stn (t : BitVec 10) (n ra : BitVec 4) (fn : BitVec 11) (pr : BitVec 2) (pn : Bool)
  /-- LDACC (R185). Loads the lane's accumulator, or 0 in a sweep touch. -/
  | ldacc (t : BitVec 10) (n rd : BitVec 4) (pr : BitVec 2) (pn : Bool)
  /-- FOLD (R185). Adds the accumulator into ra[31:16] with saturation and clears the accumulator. -/
  | fold (t : BitVec 10) (n rd ra : BitVec 4) (pr : BitVec 2) (pn : Bool)
  /-- DECAY (R185). Applies lazy leak to a first word and latches the lane's delta and RF. -/
  | decay (t : BitVec 10) (n rd ra : BitVec 4) (pr : BitVec 2) (pn : Bool)
  /-- DECAYX (R185). Scales ra[31:16] by DM of another decay table at the latched delta. -/
  | decayx (t : BitVec 10) (n rd ra : BitVec 4) (imm : BitVec 15) (pr : BitVec 2) (pn : Bool)
  /-- FIRE (R102). Fires the lane's neuron against theta and sets pr1 for the lanes that emitted. -/
  | fire (t : BitVec 10) (n rd ra : BitVec 4) (pr : BitVec 2) (pn : Bool)
  /-- EMITK (R185). Emits the lane's neuron with payload min(ra, 15) unless gated, and holds a post-trace raise pending. -/
  | emitk (t : BitVec 10) (n ra : BitVec 4) (pr : BitVec 2) (pn : Bool)
  /-- PEND (R185). Sets the lane's PENDING bit. -/
  | pend (t : BitVec 10) (n : BitVec 4) (pr : BitVec 2) (pn : Bool)
  /-- MULSH (R185). Rescales ra with the thread's output scale or threshold table within the selected bounds. -/
  | mulsh (t : BitVec 10) (n rd ra : BitVec 4) (fn : BitVec 11) (pr : BitVec 2) (pn : Bool)
  /-- SRND (R49). Stochastically rounds ra with 1 to 8 fractional bits. -/
  | srnd (t : BitVec 10) (n rd ra : BitVec 4) (imm : BitVec 15) (pr : BitVec 2) (pn : Bool)
  /-- TLU (R185). Loads a word of a table in program and scratch memory, indexed by ra[7:0]. -/
  | tlu (t : BitVec 10) (n rd ra : BitVec 4) (imm : BitVec 15) (pr : BitVec 2) (pn : Bool)
  /-- LDS (R185). Loads a scratch word. -/
  | lds (t : BitVec 10) (n rd ra : BitVec 4) (imm : BitVec 15) (pr : BitVec 2) (pn : Bool)
  /-- STS (R185). Stores a scratch word. -/
  | sts (t : BitVec 10) (n rd ra : BitVec 4) (imm : BitVec 15) (pr : BitVec 2) (pn : Bool)
  /-- LDG (R187). Issues a global load from each executing lane and waits for the replies. -/
  | ldg (t : BitVec 10) (n rd ra rb : BitVec 4) (pr : BitVec 2) (pn : Bool)
  /-- STG (R187). Issues a global store from each executing lane and waits for the replies. -/
  | stg (t : BitVec 10) (n rd ra rb : BitVec 4) (pr : BitVec 2) (pn : Bool)
  /-- THREAD_RESUME (R187). Every reply of a global or hod instruction has arrived; the thread resumes with results and pr3. -/
  | threadResume (t : BitVec 10) (n : BitVec 4)
  /-- BFX (R185). Extracts a field of ra, sign-extended if asked. -/
  | bfx (t : BitVec 10) (n rd ra : BitVec 4) (imm : BitVec 15) (pr : BitVec 2) (pn : Bool)
  /-- BFI (R185). Inserts the low bits of ra into a field of rd. -/
  | bfi (t : BitVec 10) (n rd ra : BitVec 4) (imm : BitVec 15) (pr : BitVec 2) (pn : Bool)
  /-- HOPEN (R191). Scalar: opens a hod channel to a service and returns status and handle without blocking. -/
  | hopen (t : BitVec 10) (n rd ra : BitVec 4) (pr : BitVec 2) (pn : Bool)
  /-- HSEND (R191). Scalar: sends a 32-byte entry into a hod channel, returning FULL at once when full. -/
  | hsend (t : BitVec 10) (n rd ra rb : BitVec 4) (pr : BitVec 2) (pn : Bool)
  /-- HRECV (R191). Scalar: receives the head entry of a hod channel, returning EMPTY at once when empty. -/
  | hrecv (t : BitVec 10) (n rd ra rb : BitVec 4) (pr : BitVec 2) (pn : Bool)
  /-- WAITSTEP (R192). Suspends a service thread until the next RUN phase. -/
  | waitstep (t : BitVec 10) (n : BitVec 4) (pr : BitVec 2) (pn : Bool)
  /-- PLASTIC_EVENT (R282). The plasticity unit takes a queued plastic event, adds its payload into PINC and depresses the row's deltas. -/
  | plasticEvent (t : BitVec 10)
  /-- POST_PASS (R283). In OPEN after a close, the plasticity unit updates every directory pre-trace and potentiates the synapses of fired targets. -/
  | postPass (t : BitVec 10)
  /-- TILE_PL_DIR_DATA (R311). An access to the directory entry selected by IDX, with IDX incremented when AUTO = 1. -/
  | tilePlDirData (t : BitVec 10) (v : Option (BitVec 32))
  /-- TILE_PL_MOD_WRITE (R281). A write of TILE_PL_MOD0 or MOD1 records MOD values that take effect at the next OPEN. -/
  | tilePlModWrite (t : BitVec 10) (hi : Bool) (v : BitVec 32)
  /-- LIFT_END_WRITEBACK (R298). At a lift end the cluster firmware ORs the dirty maps and, when due, copies dirty blocks and queues a kiln set. -/
  | liftEndWriteback (c : BitVec 4)
  /-- LIFT_END_PROMOTION (R156). At a lift end the cluster firmware demotes quiet pool rows, promotes hot cold rows and ages the hit table. -/
  | liftEndPromotion (c : BitVec 4)
  /-- KILN_RING_TAIL_WRITE (R295). A producer advances TAIL, adding descriptors for the kiln controller. -/
  | kilnRingTailWrite (c : BitVec 4) (v : BitVec 16)
  /-- KILN_WRITE (R296). A WRITE descriptor places a new copy of a logical row, tagged with its set, in the next free row. -/
  | kilnWrite
  /-- KILN_READ (R296). A READ descriptor copies the authoritative copy of a logical row to ADDR after checking its CRC. -/
  | kilnRead
  /-- KILN_SEAL (R296). After the earlier descriptors complete, a SEAL writes row 0 and makes its set the sealed set, freeing replaced copies. -/
  | kilnSeal
  /-- KILN_MOUNT (R302). EN going 0 to 1 reads every tag, fixes each slice's sealed set and rebuilds the free queues. -/
  | kilnMount
  /-- KILN_DISABLE (R314). EN = 0 lets the row writes in progress complete and starts no new descriptor. -/
  | kilnDisable
  /-- TIE_TOKEN_DETECT (R318). A worker's wake logic detects an enumeration token, powers the tie and trains the port. -/
  | tieTokenDetect (p : BitVec 2)
  /-- TIE_TRAIN_ATTEMPT (R319). A training attempt at a width passes, or fails after 2 ms and falls to the next narrower width. -/
  | tieTrainAttempt (p w : BitVec 2) (pass : Bool) (lock err : BitVec 4)
  /-- TIE_UP (R336). A port goes UP and each assigned end sends ASSIGN. -/
  | tieUp (p : BitVec 2)
  /-- ASSIGN (R336). An unassigned chip takes its chip ID and the torus size and answers ACCEPT; a mismatch gives CONFLICT. -/
  | assign (p : BitVec 2) (pos sender : BitVec 10) (wm1 hm1 : BitVec 5)
  /-- ACCEPT (R336). ACCEPT is passed towards the manager, which counts the chip in TIE_ENUM.CHIPS. -/
  | accept (p : BitVec 2) (origin : BitVec 10)
  /-- CONFLICT (R336). A conflicting assignment takes the port DOWN with cause CONFLICT or ROLE. -/
  | conflict (p : BitVec 2)
  /-- TIE_DATA_FRAME (R321). A received DATA frame is checked against its sequence and CRC and its packets enter the chip. -/
  | tieDataFrame (p : BitVec 2) (hdr crc : BitVec 32) (data : List (BitVec 64))
  /-- TIE_TREE_FRAME (R340). A received TREE frame carries a step-protocol packet between the chips. -/
  | tieTreeFrame (p : BitVec 2) (hdr crc : BitVec 32) (data : List (BitVec 64))
  /-- TIE_CTRL_FRAME (R323). A CTRL frame updates credits and the acknowledged sequence, and triggers a resend on NAK. -/
  | tieCtrlFrame (p : BitVec 2) (hdr crc : BitVec 32) (w0 w1 : BitVec 64)
  /-- TIE_CTRL_SEND (R324). The receiver sends a CTRL frame at least every 2 us and after every 32 accepted frames. -/
  | tieCtrlSend (p : BitVec 2)
  /-- TIE_RETX_TIMEOUT (R324). ACKSEQ has not advanced for 4 us; the transmitter resends from ACKSEQ. -/
  | tieRetxTimeout (p : BitVec 2)
  /-- TIE_LOS (R325). Lost block lock for 1 us, or no good frame for 8 us, takes the port DOWN with cause LOS. -/
  | tieLos (p : BitVec 2)
  /-- TIE_DOWN (R326). A port going DOWN answers outstanding requests UNREACHABLE, treats buffered packets as unroutable and idles its transmitters. -/
  | tieDown (p : BitVec 2) (cause : BitVec 4)
  /-- TIE_UNROUTABLE (R331). A packet that cannot leave by its tie is consumed and counted, answered UNREACHABLE, or discarded, by class. -/
  | tieUnroutable (p : BitVec 2) (pkt : Packet)
  /-- TIE_REQ_TIMEOUT (R332). An outstanding request unanswered for REQ_TIMEOUT is answered UNREACHABLE and freed. -/
  | tieReqTimeout (p : BitVec 2) (k : BitVec 8)
  /-- TIE_REPLY_MATCH (R332). A reply from a tie passes on if it matches an outstanding entry, and is otherwise discarded as late. -/
  | tieReplyMatch (p : BitVec 2) (pkt : Packet)
  /-- TIE_TOKEN (R343). Writing CTRL.TOKEN moves a DOWN port to LISTEN or sends a token on a LISTEN port. -/
  | tieToken (p : BitVec 2)
  /-- TIE_DISABLE (R343). EN = 0 empties the egress buffer, waits for acknowledgements and takes the port DOWN with cause DISABLED. -/
  | tieDisable (p : BitVec 2)
  /-- MGMT_REGISTER_FRAME (R337). A worker's agent performs a forwarded register frame locally and answers with the same MKIND and SEQ. -/
  | mgmtRegisterFrame (schip : BitVec 10) (seq : BitVec 8) (data : List (BitVec 64))
  /-- MGMT_MAILBOX_FRAME (R337). A mailbox fragment is carried to or from a worker's firmware. -/
  | mgmtMailboxFrame (schip : BitVec 10) (seq : BitVec 8) (data : List (BitVec 64))
  /-- MGMT_FORWARD_TIMEOUT (R337). No answer within 10 ms makes the manager report UNREACHABLE to the host. -/
  | mgmtForwardTimeout
  /-- MEM_LINE_READ (R357). The controller reads a line, checks its CRC, retries once, and completes OK or DATA_FAIL. -/
  | memLineRead (n : BitVec 6) (k : BitVec 8) (e1 e2 : Bool)
  /-- MEM_LINE_WRITE (R358). A write is performed as a read-modify-write of its line, refused if the read fails twice. -/
  | memLineWrite (n : BitVec 6) (k : BitVec 8) (e1 e2 : Bool)
  /-- MEM_FILL_GO (R360). Writing GO starts the fill engine over COUNT channel lines from FILL_START. -/
  | memFillGo (n : BitVec 6) (v : BitVec 32)
  /-- MEM_FILL_DONE (R360). The fill engine finishes and raises FILL_DONE. -/
  | memFillDone (n : BitVec 6)
  /-- CRC_MESSAGE (R366). A check-value unit computes its check over a message of its source and observes, appends or checks it. -/
  | crcMessage (k : BitVec 2) (own : BitVec 32) (bytes : List (BitVec 8))
  /-- CRC_ENABLE (R370). EN = 1 enables a unit unless another unit holds its source in Append or Check mode, which raises CONFLICT. -/
  | crcEnable (k : BitVec 2)
  /-- HW_REFETCH_REPLY (R382). The refetch reply arrives; an OK word is written with fresh parity and the hold is released. -/
  | hwRefetchReply (t : BitVec 10)
  /-- PAR_PEND_DONE (R384). Writing PEND.DONE releases the hold as corrected. -/
  | parPendDone (t : BitVec 10)
  /-- PAR_PEND_FAIL (R384). Writing PEND.FAIL makes the held word uncorrectable. -/
  | parPendFail (t : BitVec 10)
  /-- PAR_HOLD_TIMEOUT (R384). A hold not released within WAIT becomes uncorrectable. -/
  | parHoldTimeout (t : BitVec 10) (fw : Bool)
  /-- PAR_BUCKET_LEAK (R387). Every LEAK ms the bucket level falls by 1. -/
  | parBucketLeak (c : BitVec 4)
  /-- REPOINT_REGION (R388). Every PERIOD us a repointing unit copies, march-tests and restores the next region. -/
  | repointRegion (cl : Bool) (u : BitVec 10) (fail : Bool)
  /-- TILE_PAR_LOG_READ (R391). A read returns and removes the oldest log entry and latches its time. -/
  | tileParLogRead (t : BitVec 10)
  /-- RETIREMENT_WRITE (R392). A retirement register write holds the region, bank or tile off and makes its router sink. -/
  | retirementWrite (ini : BitVec 5) (addr : BitVec 26) (v : BitVec 32)
  /-- BANK_RETURN (R376). A bank returns from retention within 1 us, or from off after filling itself with zeros. -/
  | bankReturn (t : BitVec 10)
  /-- CLU_SEC_WIN_WRITE (R394). A write by SEC sets the secure window unless LOCK is set; any other initiator is DENIED. -/
  | cluSecWinWrite (ini : BitVec 5) (v : BitVec 32)
  /-- CSI_LONG_PACKET (R409). A CSI long packet is split into event words that are decoded, mapped, admitted and queued. -/
  | csiLongPacket (k : BitVec 2) (vc : BitVec 4) (dt : BitVec 6) (hdr : BitVec 2) (crcBad : Bool) (data : List (BitVec 8))
  /-- CSI_SHORT_PACKET (R408). A frame start or end short packet supplies the frame number; other short packets are ignored. -/
  | csiShortPacket (k : BitVec 2) (vc : BitVec 4) (dt : BitVec 6) (num : BitVec 16)
  /-- TOKEN_BUCKET_REFILL (R404). At every time-base count the bucket gains RATE/1,600 tokens up to DEPTH. -/
  | tokenBucketRefill (p : BitVec 4)
  /-- AER_WORD (R411). A four-phase handshake receives one address word, which is mapped, admitted and queued. -/
  | aerWord (k : BitVec 1) (w : BitVec 16)
  /-- T1S_FRAME (R414). A received T1S frame passes the six checks and is handed to the rules. -/
  | t1sFrame (p : BitVec 2) (sym fcs : Bool) (dst src : BitVec 48) (etype : BitVec 16) (payload : List (BitVec 8))
  /-- PORT_INJECT (R405). An event leaves the port FIFO, is stamped with a step and injected as a SPIKE_UC. -/
  | portInject (p : BitVec 4)
  /-- SPILL_RING_WRITE (R405). The port writes a complete group of four entries into its spill ring. -/
  | spillRingWrite (k : BitVec 2)
  /-- SPILL_RING_READ (R405). The port moves ring entries into its FIFO oldest first, discarding stale ones. -/
  | spillRingRead (k : BitVec 2)
  /-- PORT_DISABLE (R406). EN = 0 stops forming events, counts arriving ones as DROP_NOROOM and injects the FIFO and ring. -/
  | portDisable (p : BitVec 4)
  /-- MAP_TABLE_WRITE (R407). A map, source or rule write takes effect only while EN = 0 or the gateway hold is set, and is otherwise rejected. -/
  | mapTableWrite (ini : BitVec 5) (addr : BitVec 26) (v : BitVec 32)
  /-- MAP_DATA_ACCESS (R403). An access to CSI_MAP_DATA or AER_MAP_DATA reaches the entry IDX and increments IDX when AUTO = 1. -/
  | mapDataAccess (ini : BitVec 5) (p : BitVec 4) (v : Option (BitVec 32))
  /-- ACTUATOR_TRIGGER_CLOSE (R416). At every PERIOD-th CLOSE an enabled template copies its buffer and builds a frame. -/
  | actuatorTriggerClose (p : BitVec 2) (step : BitVec 8) (short exh : Bool)
  /-- SEND (R416). Writing SEND triggers a template once. -/
  | send (p j : BitVec 2)
  /-- ACTUATOR_FRAME_SENT (R416). A waiting actuator frame is sent on the bus while TX_EN = 1. -/
  | actuatorFrameSent (p j : BitVec 2) (coll : BitVec 2)
  /-- GPIO_EDGE (R417). A pin edge selected by GPIO_EDGE sets its INT_STATUS bit. -/
  | gpioEdge (n : BitVec 4) (level : Bool)
  /-- GPIO_SET (R417). Writing 1 sets OUT[n]. -/
  | gpioSet (v : BitVec 16)
  /-- GPIO_CLR (R417). Writing 1 clears OUT[n]. -/
  | gpioClr (v : BitVec 16)
  /-- RUN_START (R200). RUN going 0 to 1 while no step runs broadcasts START, or resumes the held step. -/
  | runStart
  /-- RUN_STOP (R201). RUN going 1 to 0 lets the open step close and holds the next. -/
  | runStop
  /-- STEP (R201). Writing STEP while a step is held seals that step at once. -/
  | step
  /-- FORCE_CLOSE (R215). A command that force-closes the open step with cause COMMAND once it is sealed. -/
  | forceClose
  /-- TMR_STEP_START_HI_WRITE (R229). A write of START_HI sets LOAD_ARMED. -/
  | tmrStepStartHiWrite (v : BitVec 32)
  /-- TMR_STEP_LO_READ (R228). A read of TMR_STEP_LO latches the upper half into HI_SNAP. -/
  | tmrStepLoRead
  /-- STEP_PERIOD_END (R211). The channel-0 period end of the open step arrives; the step is sealed if already confirmed. -/
  | stepPeriodEnd
  /-- SEAL (R211). SEAL(t) reaches a worker controller or port, which stamps later events t + 1. -/
  | seal (step : BitVec 8)
  /-- POLL (R208). The controller starts a round; POLL travels down the trees and each reporter answers with COUNT. -/
  | poll (r : BitVec 10) (step : BitVec 8) (round : BitVec 4)
  /-- COUNT (R262). A router adds a COUNT of the tagged round from a child or reporter, and sends the sum up when all have answered. -/
  | count (r : BitVec 10)
  /-- ROUND_COMPLETE (R212). A round completes at the manager, which confirms the step or tests the two-round close condition. -/
  | roundComplete
  /-- ROUND_TIMEOUT (R209). A round not completed within ROUND_TIMEOUT is abandoned and the next begins. -/
  | roundTimeout
  /-- ROUND_GAP_EXPIRE (R209). GAP after a round, the controller starts the next round. -/
  | roundGapExpire
  /-- STEP_DEADLINE (R215). The deadline of a sealed step passes; it is force-closed with cause STRETCH, LAG or OVERRUN. -/
  | stepDeadline
  /-- START (R198). START reaches a worker, which sets its step counter to the carried value. -/
  | start (step : BitVec 64)
  /-- WORKER_CLOSE (R198). CLOSE reaches a worker controller, which advances TMR_STEP, relays it and corrects its step number if needed. -/
  | workerClose (step : BitVec 8) (short exh : Bool)
  /-- REPORTER_CLOSE (R205). CLOSE(t) reaches a non-tile reporter, which clears its counts of parity t and advances its open step. -/
  | reporterClose (rep : Reporter) (step : BitVec 8)
  /-- HOST_FRAME_RECEIVE (R430). A received host frame passes the checks in order and is dispatched by KIND, or discarded and counted. -/
  | hostFrameReceive (f : HFrame)
  /-- GPTP_FRAME (R427). A gPTP frame passes without MACsec to the firmware servo, timestamped by hardware. -/
  | gptpFrame (sync : Bool)
  /-- CLAIM (R431). A CLAIM binds its source when no host is bound and is answered with CLAIM_RSP. -/
  | claim (src : BitVec 48) (chip : BitVec 16) (token : BitVec 64)
  /-- REG_REQ (R435). The boot responder performs the words of a register frame in order and answers REG_RSP. -/
  | regReq (seq chip : BitVec 16) (body : List (BitVec 8))
  /-- RESPONDER_BUCKET_REFILL (R432). Every 10 ms the responder bucket gains RATE tokens up to RATE. -/
  | responderBucketRefill
  /-- MBOX (R442). An MBOX fragment is assembled into a message for the scheduler firmware, or dropped when the queue is full. -/
  | mbox (seq chip : BitVec 16) (body : List (BitVec 8))
  /-- STREAM_IN (R441). Each event of a STREAM_IN frame is admitted by the input bucket, queued and injected. -/
  | streamIn (seq chip : BitVec 16) (body : List (BitVec 8))
  /-- OUTPUT_SPIKE (R437). An output spike at the host port is classified, counted and assigned to a list or dense stream. -/
  | outputSpike (axon : BitVec 16) (payload : BitVec 4) (step : BitVec 8)
  /-- STREAM_EARLY_FRAMES (R440). When a round first confirms step u, the port sends the list entries it holds for u with FINAL = 0. -/
  | streamEarlyFrames
  /-- STREAM_FINAL_FRAMES (R440). At CLOSE(u) the port sends the remaining entries and dense values, ending each stream with a FINAL frame. -/
  | streamFinalFrames (step : BitVec 8) (short exh : Bool)
  /-- HEARTBEAT_RECOGNISE (R445). The port recognises a HEARTBEAT from the bound host and re-arms timer channel 1. -/
  | heartbeatRecognise
  /-- LEASE_LAPSE (R446). Channel 1 matches, the lease enters GRACE and stream frames go to the grace ring. -/
  | leaseLapse
  /-- GRACE_EXPIRE (R446). GRACE expires; the binding is released, the ring is discarded, and footing follows unless AUTONOMOUS. -/
  | graceExpire
  /-- HOST_BIND_RELEASE (R431). A firmware write of RELEASE frees the binding. -/
  | hostBindRelease
  /-- PN_LOW (R428). A transmit association nears packet-number exhaustion; at exhaustion it stops sending. -/
  | pnLow
  /-- HOST_LINK_CHANGE (R447). The host PHY link goes up or down and LINK is raised. -/
  | hostLinkChange (up : Bool)
  /-- HOST_STREAM_DISABLE (R447). EN = 0 stops STREAM_IN admission and drains the stream paths. -/
  | hostStreamDisable
  /-- HELLO (R443). A version exchange whose OK answer starts the lease. -/
  | hello
  /-- HEARTBEAT (R445). The firmware answers a lease renewal. -/
  | heartbeat
  /-- LEASE_CFG (R445). Sets the lease interval, GRACE and AUTONOMOUS. -/
  | leaseCfg
  /-- RELEASE (R431). Ends the lease and the binding. -/
  | release
  /-- NET_LOAD (R491). Loads a container from external memory after its checks and answers with a load code. -/
  | netLoad
  /-- NET_START (R495). Starts from FIRST_STEP or resumes a held step, enabling the loaded tiles. -/
  | netStart
  /-- NET_STOP (R495). Writes RUN = 0 and answers with the held step. -/
  | netStop
  /-- CHECKPOINT (R496). Holds, drains and disables, writes a KIND 4 container, then re-enables and optionally resumes. -/
  | checkpoint
  /-- TABLE_UPDATE (R470). The manager applies a list of table writes on a drained scope and answers with NDONE. -/
  | tableUpdate
  /-- FOOT_ENTER (R500). A host command that enters footing mode through FOOT_CTRL.ENTER. -/
  | footEnter
  /-- FOOT_EXIT (R508). Leaves footing mode after its checks, re-runs steps 6 and 9, then loads the requested container. -/
  | footExit (pinLow bandBad : Bool) (vfail fail : BitVec 48) (differ lost : BitVec 16)
  /-- ATTEST (R549). The security firmware writes a signed attestation report to ADDR. -/
  | attest
  /-- FUSE_PAIRING_KEY (R550). KEY_INSTALL OP 0x01 burns the pairing key in PROVISIONED. -/
  | fusePairingKey
  /-- INSTALL_RX_ASSOCIATION (R550). KEY_INSTALL OP 0x02 unwraps and installs a receive SAK. -/
  | installRxAssociation
  /-- INSTALL_TX_ASSOCIATION (R550). KEY_INSTALL OP 0x03 installs a transmit SAK and optionally activates it. -/
  | installTxAssociation
  /-- RETIRE_ASSOCIATION (R550). KEY_INSTALL OP 0x04 retires an association. -/
  | retireAssociation
  /-- SET_REQUIRE (R550). KEY_INSTALL OP 0x05 sets HOST_SEC.REQUIRE. -/
  | setRequire
  /-- LINK_MAP (R443). Returns the torus link map kept from link-state frames. -/
  | linkMap
  /-- CORE_CRASH (R458). A non-security core crashes and is restarted at its vector; its channels close and its crash count rises. -/
  | coreCrash (k : BitVec 5) (cause : BitVec 3)
  /-- WATCHDOG_EXPIRE (R457). FWC_WDOGk expires TIMEOUT ms after the last kick and crashes its core. -/
  | watchdogExpire (k : BitVec 5)
  /-- FATAL_TRAP (R457). A nested exception or a bad mtvec crashes the core. -/
  | fatalTrap (k : BitVec 5)
  /-- PANIC (R457). Writing FWC_KICKk.PANIC = 1 crashes core k. -/
  | panic (k : BitVec 5)
  /-- KICK (R473). Writing KICK restarts the core's watchdog count. -/
  | kick (k : BitVec 5)
  /-- CORE_RELEASE (R473). Writing RELEASE in state LOAD starts the core at its restart vector. -/
  | coreRelease (k : BitVec 5)
  /-- FWC_FW_LOCK (R456). Setting LOCK fixes the firewall until reset. -/
  | fwcFwLock (ini : BitVec 5)
  /-- HOD_OPEN (R463). The hod controller returns the handle of the channel registered under a service, or NO_SERVICE. -/
  | hodOpen (h : ReqHead) (svc : BitVec 16)
  /-- HOD_SEND (R463). The controller appends an entry, or answers FULL and detects two-party deadlock. -/
  | hodSend (h : ReqHead) (handle : BitVec 16) (data : List (BitVec 64))
  /-- HOD_RECV (R463). The controller removes and returns the head entry for the owner, or answers EMPTY. -/
  | hodRecv (h : ReqHead) (handle : BitVec 16)
  /-- HOD_BLOCKED_RECORD_EXPIRE (R467). A blocked record with no attempt for 4 us is removed. -/
  | hodBlockedRecordExpire (c : BitVec 4) (k : BitVec 7)
  /-- HPCMD_OPEN (R466). A core's hod port issues an OPEN to the target controller. -/
  | hpcmdOpen (k : BitVec 5) (tgt : BitVec 32) (svc : BitVec 16)
  /-- HPCMD_SEND (R466). A core's hod port issues a SEND, repeating it every RETRY while blocking and full. -/
  | hpcmdSend (k : BitVec 5) (tgt buf : BitVec 32) (block : Bool) (handle : BitVec 16)
  /-- HPCMD_RECV (R466). A core's hod port issues a RECV. -/
  | hpcmdRecv (k : BitVec 5) (tgt buf : BitVec 32) (handle : BitVec 16)
  /-- HOD_SEND_RETRY (R466). The RETRY interval expires and a blocking send is attempted again. -/
  | hodSendRetry (k : BitVec 5)
  /-- HOD_SEND_TIMEOUT (R466). A blocking send still full after HOD_SEND_TIMEOUT completes with TIMEOUT. -/
  | hodSendTimeout (k : BitVec 5)
  /-- HOD_PORT_COMPLETE (R466). The hod port's reply arrives; HPSTAT is set and interrupt 16 signals completion. -/
  | hodPortComplete (k : BitVec 5)
  /-- REGISTER (R461). CLU_HOD_REG_CMD OP REGISTER creates a channel for an owner and a service. -/
  | register (c : BitVec 4) (depth : BitVec 6) (svc : BitVec 16)
  /-- HOD_CLOSE (R468). OP CLOSE closes a channel and discards its entries. -/
  | hodClose (c : BitVec 4) (handle : BitVec 16)
  /-- CLOSE_OWNER (R468). OP CLOSE_OWNER closes every channel of the named owner. -/
  | closeOwner (c : BitVec 4)
  /-- CLU_HOD_WSET_SEL_READ (R465). A read returns a ready channel of the wait set by priority or rotation, advancing the rotation. -/
  | cluHodWsetSelRead (c : BitVec 4) (k : BitVec 2)
  /-- BOOT_CMD (R478). A write starts a run of bring-up steps if STEP is the next or the failed step, and otherwise sets ERR. -/
  | bootCmd (v : BitVec 32)
  /-- BOOT_STEP0_AON (R479). Starts PD_AON and CK_REF, samples the straps, checks the boot record and starts the responder. -/
  | bootStep0Aon
  /-- BOOT_STEP1_FUSES (R479). Loads the fuses, powers PD_SEC and PD_KILN and restores the boot record from its mirror. -/
  | bootStep1Fuses
  /-- BOOT_STEP2_PLL (R479). Powers PD_PLL and PD_TIE and locks the PLLs. -/
  | bootStep2Pll (lock : Bool)
  /-- BOOT_STEP3_POWER (R479). Ramps the core rails over AVSBus and switches on the mortar, memory, firmware and cluster domains. -/
  | bootStep3Power (w e : Bool)
  /-- BOOT_STEP4_BIST (R483). Runs memory BIST and repair, or applies stored repair, retiring clusters beyond repair. -/
  | bootStep4Bist (verify bad : BitVec 16) (tiles : List (BitVec 10))
  /-- BOOT_STEP5_MORTAR (R479). Initialises the routers, collar bridges and collective tree. -/
  | bootStep5Mortar
  /-- BOOT_STEP6_MEMORY (R362). Trains external memory and fixes the interleave. -/
  | bootStep6Memory (vfail fail : BitVec 48)
  /-- BOOT_STEP7_TIES (R334). Trains ties and enumerates until CHIPS reaches W × H or the time limit. -/
  | bootStep7Ties
  /-- BOOT_STEP8_AUTH (R485). The boot ROM applies a lifecycle command, authenticates the firmware package, copies it and releases the cores. -/
  | bootStep8Auth
  /-- BOOT_STEP9_FW_BROADCAST (R486). Broadcasts the cluster firmware, verifies it, falls back to unicast and releases the control cores. -/
  | bootStep9FwBroadcast (differ lost : BitVec 16)
  /-- BOOT_STEP10_MOUNT (R479). Mounts the kiln plastic store with the recorded slices. -/
  | bootStep10Mount (still : BitVec 3)
  /-- BOOT_STEP11_LOAD (R491). Loads the staged image or the checkpoint. -/
  | bootStep11Load
  /-- BOOT_STEP12_START (R495). Enables the tiles, starts stepping and drives READY high. -/
  | bootStep12Start
  /-- BOOT_STEP_TIMEOUT (R479). A step exceeds its limit and ends FAILED with ERR TIMEOUT. -/
  | bootStepTimeout
  /-- BOOT_RECORD_MIRROR (R482). The hardware writes the next mirror copy of the boot record to the kiln. -/
  | bootRecordMirror
  /-- BOOT_REC_CLEAR (R484). KEY 0xB0C1 with CLEAR clears the record and both mirror copies. -/
  | bootRecClear (v : BitVec 32)
  /-- BOOT_REC_WRITE (R482). A host write to a record word makes the hardware recompute word 63. -/
  | bootRecWrite (w : BitVec 6) (v : BitVec 32)
  /-- FOOTING_TRIGGER (R500). A trigger is latched; footing is entered, or held pending before step 10. -/
  | footingTrigger (code : BitVec 4)
  /-- THERMAL_FOOTING (R500). TJ at or above 120 C for 10 ms raises footing trigger 0x3. -/
  | thermalFooting
  /-- FOOT_N_FOOTING (R500). FOOT_N low for 1 ms raises footing trigger 0x5. -/
  | footNFooting
  /-- FOOT_CTRL_ENTER (R510). Writing ENTER raises trigger 0x1 or 0x6 as CMD_CAUSE selects. -/
  | footCtrlEnter
  /-- FOOT_CTRL_EXIT (R510). Writing EXIT stops the footing network and returns the pins and votes. -/
  | footCtrlExit
  /-- FOOTING_ENTRY (R502). The footing controller sets SAFE pins, stops commits and ports, forces clusters off, loads the footing image and starts stepping. -/
  | footingEntry (supply : Bool)
  /-- FOOT_PIN_UPDATE (R504). At each CLOSE in footing mode the FOOT pins are set from the output spikes of the step. -/
  | footPinUpdate (step : BitVec 8)
  /-- FOOT_STATUS (R505). The host port sends a FOOT_STATUS frame at each CLOSE, or every 10 ms while unavailable. -/
  | footStatus (step : BitVec 8) (short exh : Bool)
  /-- PWR_VSET (R513). Writing 1 sets a client vote bit unless votes are frozen. -/
  | pwrVset (d : BitVec 5) (v : BitVec 16)
  /-- PWR_VCLR (R513). Writing 1 clears a client vote bit unless votes are frozen. -/
  | pwrVclr (d : BitVec 5) (v : BitVec 16)
  /-- DOMAIN_RISE (R514). A domain that becomes held rises, filling banks selected off, and sets ON. -/
  | domainRise (d : BitVec 5)
  /-- DOMAIN_HOLD_EXPIRE (R512). A domain unheld for HOLD microseconds begins its drop. -/
  | domainHoldExpire (d : BitVec 5)
  /-- WAKE (R519). An enabled wake source records itself and votes PD_FW and PD_PLL on. -/
  | wake (src unit : BitVec 4)
  /-- LEVEL_CHANGE (R525). A wythe changes its applied level by stopping clocks and ramping the rail. -/
  | levelChange (east : Bool)
  /-- LEVEL_CHANGE_DONE (R525). A level change ends, BUSY clears, LEVEL is raised and a pending target is taken up. -/
  | levelChangeDone (east : Bool)
  /-- GOVERNOR_WINDOW (R526). At each 1 ms window end the governor lowers or raises caps or PSTRETCH against LIMIT. -/
  | governorWindow (avg : BitVec 9) (eastMore : Bool)
  /-- THERMAL_SAMPLE (R527). Every 100 us the monitor reads TJ and applies or lifts the thermal caps. -/
  | thermalSample (tj : BitVec 16)
  /-- PLL_LOSS (R522). A PLL loses lock, stops its clocks and raises LOSS. -/
  | pllLoss (k : BitVec 3)
  /-- TB_OFFSET (R529). Writing a positive offset adds it at once; a negative one is added to TB_SLEW. -/
  | tbOffset (v : BitVec 32)
  /-- TB_LO_READ (R530). A read of TB_LO latches the upper half into the reading initiator's snapshot. -/
  | tbLoRead (ini : BitVec 5)
  /-- TIMER_ARM (R531). ARM sets COMPARE from the arm time plus PHASE, or keeps it, or starts capture. -/
  | timerArm (k : BitVec 4)
  /-- TMR_ARM_MULTI (R532). Arms every selected channel in the same count. -/
  | tmrArmMulti (v : BitVec 16)
  /-- TIMER_STOP (R531). STOP disarms the channel. -/
  | timerStop (k : BitVec 4)
  /-- TIMER_MATCH (R531). A compare channel matches, advances or disarms, counts SEQ and may wake. -/
  | timerMatch (k : BitVec 4)
  /-- TIMER_CAPTURE (R533). A capture source event stores the time base in CAP and sets NEW or OVR. -/
  | timerCapture (src : BitVec 8) (rd : BitVec 16)
  /-- TMR_CAP_READ (R533). A read of CAP returns it and clears NEW. -/
  | tmrCapRead (k : BitVec 4)
  /-- SECURITY_MASKS (R542). The security firmware writes the masks of the lifecycle state and locks the firewall. -/
  | securityMasks
  /-- HASH_JOB (R546). Writing GO starts a SHAKE256 job over memory, optionally extending a measurement. -/
  | hashJob (fw : Bool) (go : BitVec 32)
  /-- HASH_JOB_DONE (R546). The hash engine writes DIGEST and STATUS and clears GO. -/
  | hashJobDone (fw : Bool)
  /-- TAMPER_EVENT (R553). A tamper source latches, holds the security core and wipes the secure part. -/
  | tamperEvent (src : BitVec 3)
  /-- SECURITY_WATCHDOG_EXPIRE (R554). The security watchdog expires and resets the whole chip. -/
  | securityWatchdogExpire
  /-- SEC_WDOG_KICK (R554). Restarts the security watchdog count. -/
  | secWdogKick
  /-- RECORDER_SAMPLE (R555). A record takes a sample and updates COUNT, MIN, MAX, LAST and a bin under its sequence counter. -/
  | recorderSample (id : BitVec 6) (v : BitVec 32) (port : BitVec 2)
  /-- RECORDER_WINDOW_END (R555). At each WINDOW ms the window records take their samples. -/
  | recorderWindowEnd
  /-- RECORDER_PERSIST (R558). Every PERSIST minutes the older persistent copy is rewritten in the kiln. -/
  | recorderPersist (ok : Bool)
  /-- OPERATING_MINUTE (R556). PD_AON counts another operating minute. -/
  | operatingMinute
  /-- REC_CLR (R559). KEY 0xC1EA with GO clears every record and both persistent copies. -/
  | recClr (v : BitVec 32)
  /-- SPI_WRITE (R582). An SPI WRITE queues words and performs them in order, stopping at the first non-OK outcome. -/
  | spiWrite (addr : BitVec 48) (words : List (BitVec 32)) (part : Bool)
  /-- SPI_READ (R583). An SPI READ performs each clocked word and drives a marker, a status and the data. -/
  | spiRead (addr : BitVec 48) (n : BitVec 16)
  /-- SPI_STATUS (R581). The target drives SPI_STAT. -/
  | spiStatus
  /-- IDENT (R581). The target drives SYS_PART_ID. -/
  | ident
  /-- SPI_UNKNOWN_COMMAND (R581). Any other command is ignored until chip select rises and counted in SPI_ERRS. -/
  | spiUnknownCommand (cmd : BitVec 8)
  /-- STOPPED_BANK_HOLD_EXPIRE (R375). With PWR_RETc.STOP = 1, the banks of a tile that has read STOPPED for PWR_CFG.HOLD microseconds take their retention or off selections. -/
  | stoppedBankHoldExpire (t : BitVec 10)
  /-- CLU_COLD_AGE_DONE (R152). The hit-table halving started by CLU_COLD_AGE.GO reaches its last entry, BUSY clears and GO is accepted again. -/
  | cluColdAgeDone (c : BitVec 4)
deriving DecidableEq, Repr

end Sys2Proof
end

