-- ==== Sys2Proof/WellFormed.lean ====
section
/-! DEFINITION. Which commands are well formed: the ranges that the spec gives their operands, where the operand's type is wider. A command
that is not well formed names nothing the chip has; its meaning leaves the state unchanged or answers as the spec says of such a request. -/

namespace Sys2Proof

/-- Initiators (R453): 24 of them. -/
def iniOk (i : BitVec 5) : Bool := decide (i.toNat < 24)
/-- A register address is a multiple of 4 (R563). -/
def aligned (a : BitVec 26) : Bool := decide (a.toNat % 4 = 0)
/-- Firmware cores (R449): security, power management, scheduler, and the 16 control cores. -/
def coreOk (k : BitVec 5) : Bool := decide (k.toNat < 19)
/-- Power domains (R511). -/
def domOk (d : BitVec 5) : Bool := decide (d.toNat < 30)
/-- Memory channels (R348). -/
def memOk (n : BitVec 6) : Bool := decide (n.toNat < 48)
/-- Sensor ports (chapter 12): four CSI, two AER, four T1S. -/
def portOk (p : BitVec 4) : Bool := decide (p.toNat < 10)
/-- A sensor port, or 10 for the host's input. -/
def outOk (p : BitVec 4) : Bool := decide (p.toNat < 11)
/-- Data flits of an access size (R240). -/
def sizeFlits (z : BitVec 2) : Nat := if z = 3 then 4 else if z = 2 then 2 else 1
/-- A MGMT packet has 2 to 8 flits (R248). -/
def mgmtOk (data : List (BitVec 64)) : Bool := decide (1 ≤ data.length ∧ data.length ≤ 7)
/-- The body of a host frame (R429). -/
def bodyOk (body : List (BitVec 8)) : Bool := decide (body.length ≤ 1492)
/-- The non-tile reporters (R202). -/
def repOk : Reporter → Bool
  | .port k => decide (k.toNat < 10)
  | _ => true

/-- The command is well formed. -/
def Instr.wf : Instr → Bool
  | .porstNRelease _ _ _ => true
  | .porstNAssert _ => true
  | .supplyMonitorReset mon => decide (1 ≤ mon.toNat ∧ mon.toNat ≤ 6)
  | .supplyBandFooting _ => true
  | .sysReset _ => true
  | .registerWrite ini addr _ => iniOk ini && aligned addr
  | .rcRead ini addr => iniOk ini && aligned addr
  | .w1cWrite ini addr _ => iniOk ini && aligned addr
  | .intSet _ _ => true
  | .intEnableWrite _ _ => true
  | .blockDisable _ => true
  | .blockDrainDone _ => true
  | .drainTimeoutExpire _ => true
  | .force _ => true
  | .blockEnable _ => true
  | .readReq ini _ => iniOk ini
  | .writeReq ini h data => iniOk ini && decide (data.length = sizeFlits h.size)
  | .readRsp h data => decide (data.length = if h.status = 0 ∧ ¬(h.size = 3 ∧ h.hstat ≠ 0) then sizeFlits h.size else 0)
  | .writeAck _ => true
  | .routerHop _ _ => true
  | .psumWindowExpire _ k => decide (k.toNat < 31)
  | .collarCrossing _ _ _ => true
  | .routerSink _ _ => true
  | .collarSinkPacket _ _ _ => true
  | .mtrDrained _ => true
  | .mtrInjHoldWrite _ => true
  | .rtDisable _ => true
  | .bcastLoadDeliver _ _ data => decide (1 ≤ data.length ∧ data.length ≤ 7)
  | .spikeArrival _ _ _ _ _ => true
  | .psumArrival _ _ _ _ _ => true
  | .synapseEvent _ => true
  | .psumEntry _ => true
  | .coldAdmit _ => true
  | .coldRowReturn _ _ => true
  | .coldFetchFail _ _ => true
  | .coldUnitTimeout _ _ => true
  | .coldStaleReply _ _ => true
  | .cluColdAge _ => true
  | .immediateTouch _ => true
  | .tileClose _ _ _ _ => true
  | .tileDrainDone _ => true
  | .tileCommit _ => true
  | .tileRun _ _ => true
  | .tileRunEnd _ => true
  | .emitPacket _ => true
  | .emissionFinished _ => true
  | .tileDisable _ => true
  | .tileStoppedClose _ _ _ _ => true
  | .tileEnable _ => true
  | .tileLfsrWrite _ _ => true
  | .tileStatClr _ _ => true
  | .tileConvRead _ _ => true
  | .cluMseArm _ _ _ => true
  | .cluMseSumLoRead _ _ => true
  | .nop _ _ _ _ => true
  | .endTouch _ _ _ _ => true
  | .alu _ _ _ _ _ _ _ _ => true
  | .addi _ _ _ _ _ _ _ => true
  | .andi _ _ _ _ _ _ _ => true
  | .shi _ _ _ _ _ _ _ => true
  | .ldi _ _ _ _ _ _ => true
  | .ldih _ _ _ _ _ _ => true
  | .cmp _ _ _ _ _ _ _ _ => true
  | .br _ _ _ _ _ => true
  | .ldn _ _ _ _ _ _ => true
  | .stn _ _ _ _ _ _ => true
  | .ldacc _ _ _ _ _ => true
  | .fold _ _ _ _ _ _ => true
  | .decay _ _ _ _ _ _ => true
  | .decayx _ _ _ _ _ _ _ => true
  | .fire _ _ _ _ _ _ => true
  | .emitk _ _ _ _ _ => true
  | .pend _ _ _ _ => true
  | .mulsh _ _ _ _ _ _ _ => true
  | .srnd _ _ _ _ _ _ _ => true
  | .tlu _ _ _ _ _ _ _ => true
  | .lds _ _ _ _ _ _ _ => true
  | .sts _ _ _ _ _ _ _ => true
  | .ldg _ _ _ _ _ _ _ => true
  | .stg _ _ _ _ _ _ _ => true
  | .threadResume _ _ => true
  | .bfx _ _ _ _ _ _ _ => true
  | .bfi _ _ _ _ _ _ _ => true
  | .hopen _ _ _ _ _ _ => true
  | .hsend _ _ _ _ _ _ _ => true
  | .hrecv _ _ _ _ _ _ _ => true
  | .waitstep _ _ _ _ => true
  | .plasticEvent _ => true
  | .postPass _ => true
  | .tilePlDirData _ _ => true
  | .tilePlModWrite _ _ _ => true
  | .liftEndWriteback _ => true
  | .liftEndPromotion _ => true
  | .kilnRingTailWrite _ _ => true
  | .kilnWrite => true
  | .kilnRead => true
  | .kilnSeal => true
  | .kilnMount => true
  | .kilnDisable => true
  | .tieTokenDetect _ => true
  | .tieTrainAttempt _ _ _ _ _ => true
  | .tieUp _ => true
  | .assign _ _ _ _ _ => true
  | .accept _ _ => true
  | .conflict _ => true
  | .tieDataFrame _ _ _ data => decide (1 ≤ data.length ∧ data.length ≤ 8)
  | .tieTreeFrame _ _ _ data => decide (1 ≤ data.length ∧ data.length ≤ 2)
  | .tieCtrlFrame _ _ _ _ _ => true
  | .tieCtrlSend _ => true
  | .tieRetxTimeout _ => true
  | .tieLos _ => true
  | .tieDown _ _ => true
  | .tieUnroutable _ _ => true
  | .tieReqTimeout _ _ => true
  | .tieReplyMatch _ _ => true
  | .tieToken _ => true
  | .tieDisable _ => true
  | .mgmtRegisterFrame _ _ data => mgmtOk data
  | .mgmtMailboxFrame _ _ data => mgmtOk data
  | .mgmtForwardTimeout => true
  | .memLineRead n _ _ _ => memOk n
  | .memLineWrite n _ _ _ => memOk n
  | .memFillGo n _ => memOk n
  | .memFillDone n => memOk n
  | .crcMessage _ _ _ => true
  | .crcEnable _ => true
  | .hwRefetchReply _ => true
  | .parPendDone _ => true
  | .parPendFail _ => true
  | .parHoldTimeout _ _ => true
  | .parBucketLeak _ => true
  | .repointRegion cl u _ => !cl || decide (u.toNat < 16)
  | .tileParLogRead _ => true
  | .retirementWrite ini addr _ => iniOk ini && aligned addr
  | .bankReturn _ => true
  | .cluSecWinWrite ini _ => iniOk ini
  | .csiLongPacket _ _ _ _ _ data => decide (data.length < 65536)
  | .csiShortPacket _ _ _ _ => true
  | .tokenBucketRefill p => outOk p
  | .aerWord _ _ => true
  | .t1sFrame _ _ _ _ _ _ payload => decide (46 ≤ payload.length ∧ payload.length ≤ 1500)
  | .portInject p => outOk p
  | .spillRingWrite _ => true
  | .spillRingRead _ => true
  | .portDisable p => portOk p
  | .mapTableWrite ini addr _ => iniOk ini && aligned addr
  | .mapDataAccess ini p _ => iniOk ini && decide (p.toNat < 6)
  | .actuatorTriggerClose _ _ _ _ => true
  | .send _ _ => true
  | .actuatorFrameSent _ _ _ => true
  | .gpioEdge _ _ => true
  | .gpioSet _ => true
  | .gpioClr _ => true
  | .runStart => true
  | .runStop => true
  | .step => true
  | .forceClose => true
  | .tmrStepStartHiWrite _ => true
  | .tmrStepLoRead => true
  | .stepPeriodEnd => true
  | .seal _ => true
  | .poll _ _ _ => true
  | .count _ => true
  | .roundComplete => true
  | .roundTimeout => true
  | .roundGapExpire => true
  | .stepDeadline => true
  | .start _ => true
  | .workerClose _ _ _ => true
  | .reporterClose rep _ => repOk rep
  | .hostFrameReceive f => decide (f.body.length ≤ 1492)
  | .gptpFrame _ => true
  | .claim _ _ _ => true
  | .regReq _ _ body => bodyOk body
  | .responderBucketRefill => true
  | .mbox _ _ body => bodyOk body
  | .streamIn _ _ body => bodyOk body
  | .outputSpike _ _ _ => true
  | .streamEarlyFrames => true
  | .streamFinalFrames _ _ _ => true
  | .heartbeatRecognise => true
  | .leaseLapse => true
  | .graceExpire => true
  | .hostBindRelease => true
  | .pnLow => true
  | .hostLinkChange _ => true
  | .hostStreamDisable => true
  | .hello => true
  | .heartbeat => true
  | .leaseCfg => true
  | .release => true
  | .netLoad => true
  | .netStart => true
  | .netStop => true
  | .checkpoint => true
  | .tableUpdate => true
  | .footEnter => true
  | .footExit _ _ _ _ _ _ => true
  | .attest => true
  | .fusePairingKey => true
  | .installRxAssociation => true
  | .installTxAssociation => true
  | .retireAssociation => true
  | .setRequire => true
  | .linkMap => true
  | .coreCrash k cause => coreOk k && decide (1 ≤ cause.toNat ∧ cause.toNat ≤ 3)
  | .watchdogExpire k => coreOk k
  | .fatalTrap k => coreOk k
  | .panic k => coreOk k
  | .kick k => coreOk k
  | .coreRelease k => coreOk k
  | .fwcFwLock ini => iniOk ini
  | .hodOpen _ _ => true
  | .hodSend _ _ data => decide (data.length = 4)
  | .hodRecv _ _ => true
  | .hodBlockedRecordExpire _ _ => true
  | .hpcmdOpen k _ _ => coreOk k
  | .hpcmdSend k _ _ _ _ => coreOk k
  | .hpcmdRecv k _ _ _ => coreOk k
  | .hodSendRetry k => coreOk k
  | .hodSendTimeout k => coreOk k
  | .hodPortComplete k => coreOk k
  | .register _ _ _ => true
  | .hodClose _ _ => true
  | .closeOwner _ => true
  | .cluHodWsetSelRead _ _ => true
  | .bootCmd _ => true
  | .bootStep0Aon => true
  | .bootStep1Fuses => true
  | .bootStep2Pll _ => true
  | .bootStep3Power _ _ => true
  | .bootStep4Bist _ _ _ => true
  | .bootStep5Mortar => true
  | .bootStep6Memory _ _ => true
  | .bootStep7Ties => true
  | .bootStep8Auth => true
  | .bootStep9FwBroadcast _ _ => true
  | .bootStep10Mount _ => true
  | .bootStep11Load => true
  | .bootStep12Start => true
  | .bootStepTimeout => true
  | .bootRecordMirror => true
  | .bootRecClear _ => true
  | .bootRecWrite _ _ => true
  | .footingTrigger code => decide (1 ≤ code.toNat ∧ code.toNat ≤ 6)
  | .thermalFooting => true
  | .footNFooting => true
  | .footCtrlEnter => true
  | .footCtrlExit => true
  | .footingEntry _ => true
  | .footPinUpdate _ => true
  | .footStatus _ _ _ => true
  | .pwrVset d _ => domOk d
  | .pwrVclr d _ => domOk d
  | .domainRise d => domOk d
  | .domainHoldExpire d => domOk d
  | .wake _ _ => true
  | .levelChange _ => true
  | .levelChangeDone _ => true
  | .governorWindow _ _ => true
  | .thermalSample _ => true
  | .pllLoss k => decide (k.toNat < 7)
  | .tbOffset _ => true
  | .tbLoRead ini => iniOk ini
  | .timerArm _ => true
  | .tmrArmMulti _ => true
  | .timerStop _ => true
  | .timerMatch _ => true
  | .timerCapture _ _ => true
  | .tmrCapRead _ => true
  | .securityMasks => true
  | .hashJob _ _ => true
  | .hashJobDone _ => true
  | .tamperEvent src => decide (src.toNat < 4)
  | .securityWatchdogExpire => true
  | .secWdogKick => true
  | .recorderSample id _ _ => decide (id.toNat < 34)
  | .recorderWindowEnd => true
  | .recorderPersist _ => true
  | .operatingMinute => true
  | .recClr _ => true
  | .spiWrite addr _ _ => decide (addr.toNat % 4 = 0)
  | .spiRead addr _ => decide (addr.toNat % 4 = 0)
  | .spiStatus => true
  | .ident => true
  | .spiUnknownCommand _ => true
  | .stoppedBankHoldExpire _ => true
  | .cluColdAgeDone _ => true

end Sys2Proof
end

