-- ==== Sys2Proof/Config.lean ====
section
/-! DEFINITION. What the spec leaves to the implementation or to texts outside it: constants with no body. No proof can see a value. -/

namespace Sys2Proof

/-- Free values (notes/assumptions): the n-th value the machine draws where the spec states none. -/
opaque Config.freeValue : Nat → BitVec 64

/-- MACsec (IEEE 802.1AE, R425): the ICV of a frame verifies under an association's key, salt, SSCI, SCI and packet number. -/
opaque Config.icvOk : Nat → Nat → Nat → Nat → Nat → List Nat → BitVec 128 → Bool

/-- The replay window, 0 to 255 (R425): the implementation's. -/
opaque Config.replayWindow : BitVec 8

/-- The first 32 bytes of a SHAKE256 output (FIPS 202, R543), byte 0 least significant. -/
opaque Config.shake256 : List Nat → BitVec 256

/-- SLH-DSA-SHAKE-256s (FIPS 205, R543): a signature over a message verifies under a public key. -/
opaque Config.slhVerify : List Nat → List Nat → List Nat → Bool

/-- The identity key of a device secret (R548), byte by byte: its public key. -/
opaque Config.identityPub : BitVec 256 → Nat → BitVec 8

/-- SLH-DSA-SHAKE-256f with the identity key (R549): byte `i` of the signature over a message. -/
opaque Config.identitySign : BitVec 256 → List Nat → Nat → BitVec 8

/-- AES Key Wrap (RFC 3394, R550): the key that a wrapped SAK holds under the pairing key, none where its integrity check fails. -/
opaque Config.keyUnwrap : BitVec 256 → List Nat → Option (BitVec 256)

/-- A KILN_MAP section (R294, R489), whose layout the spec leaves to the image: logical row and its place, tile · 1,024 + block. -/
opaque Config.kilnMap : List Nat → List (Nat × Nat)

/-- A COLD_DIR section (R151, R489), whose layout the spec leaves to the image: hit-table entry and tile · 32,768 + descriptor entry. -/
opaque Config.coldDir : List Nat → List (Nat × Nat)

/-- A CAL_LIST section (R494), whose layout the spec does not give: tile, thread, CAL_STEPS, CAL_LIFTS of each entry. -/
opaque Config.calList : List Nat → List (Nat × Nat × Nat × Nat)

/-- The bytes of a KILN_MAP section and of a COLD_DIR section that a checkpoint writes (R496). -/
opaque Config.kilnMapBytes : List (Nat × Nat) → List Nat
opaque Config.coldDirBytes : List (Nat × Nat) → List Nat

/-- The bytes of STATE_DEV and STATE_LAYOUT (R489, R497), whose layouts the spec does not give, from the values they hold; and the values
that the bytes of a STATE_DEV section give back. -/
opaque Config.stateDev : List Nat → List Nat
opaque Config.stateDevOf : List Nat → List Nat
opaque Config.stateLayout : List Nat → List Nat

/-- A LEASE_CFG body (R443, R445), whose layout the spec does not give: INTERVAL and GRACE in 10 ns units, AUTONOMOUS. -/
opaque Config.leaseCfg : List Nat → Option (Nat × Nat × Bool)

/-- The body of a LINK_MAP answer (R338, R443), whose layout the spec does not give, from the entries kept. -/
opaque Config.linkMapBytes : List (Nat × BitVec 64) → List Nat

end Sys2Proof
end

