-- ==== Sys2Proof/Machine/Operands.lean ====
section
/-! DEFINITION. Arithmetic on operand values: signed fields, weight codes, products, stochastic rounding and the rescale unit
(spec/02_narrow_arithmetic.md). -/

namespace Sys2Proof.Machine

/-- Bits [hi:lo] of `n`. -/
def bits (n hi lo : Nat) : Nat := (n / 2 ^ lo) % 2 ^ (hi + 1 - lo)

/-- `n` with bits [hi:lo] replaced by the low bits of `v`. -/
def putBits (n hi lo v : Nat) : Nat := n - bits n hi lo * 2 ^ lo + (v % 2 ^ (hi + 1 - lo)) * 2 ^ lo

/-- Bit `i` of `n`. -/
def bitAt (n i : Nat) : Bool := (n / 2 ^ i) % 2 == 1

/-- The two's complement value of the low `w` bits of `n`. -/
def sgn (w n : Nat) : Int := if n % 2 ^ w < 2 ^ (w - 1) then (n % 2 ^ w : Nat) else ((n % 2 ^ w : Nat) : Int) - (2 ^ w : Nat)

/-- The low `w` bits of an integer. -/
def wrap (w : Nat) (i : Int) : Nat := (i % (2 ^ w : Nat)).toNat

/-- `i` held to lo..hi. -/
def clampI (lo hi i : Int) : Int := if i < lo then lo else if hi < i then hi else i

/-- Arithmetic shift right (R49, R53). -/
def asr (i : Int) (n : Nat) : Int := i / (2 ^ n : Nat)

/-- ceil(a / b). -/
def ceilDiv (a b : Nat) : Nat := (a + b - 1) / b

/-- Number of bits set among the low `w`. -/
def popcount (w n : Nat) : Nat := ((List.range w).filter fun i => bitAt n i).length

/-- The set bits among the low `w`, ascending. -/
def setBits (w n : Nat) : List Nat := (List.range w).filter fun i => bitAt n i

/-! ## Weights (R36–R40) -/

/-- Bits per weight of a weight code; `none` for a reserved code (R36). -/
def weightBits : Nat → Option Nat
  | 0 => some 4
  | 1 => some 3
  | 2 => some 2
  | 3 => some 2
  | 4 => some 1
  | 5 => some 4
  | _ => none

/-- Synapses per 64-bit word of a weight code (R38): 21 for W3, 64 / bits otherwise. -/
def perWord (fmt : Nat) : Nat :=
  match weightBits fmt with
  | some 3 => 21
  | some b => 64 / b
  | none => 0

/-- Value of the weight pattern `p` of code `fmt` (R36, R37), WL4 as its signed magnitude. -/
def weightVal (fmt p : Nat) : Int :=
  match fmt with
  | 0 => sgn 4 p
  | 1 => sgn 3 p
  | 2 => sgn 2 p
  | 3 => if p % 4 = 1 then 1 else if p % 4 = 3 then -1 else 0
  | 4 => if p % 2 = 1 then 1 else -1
  | 5 => if p % 8 = 0 then 0 else (if p % 16 < 8 then 1 else -1) * ((2 ^ (p % 8 - 1) : Nat) : Int)
  | _ => 0

/-- Pattern of the synapse at position `j` of word `w` (R38). -/
def synapseBits (fmt w j : Nat) : Nat :=
  match weightBits fmt with
  | some b => (w / 2 ^ (b * j)) % 2 ^ b
  | none => 0

/-- Weight × payload, exact (R40). -/
def product (fmt p payload : Nat) : Int := weightVal fmt p * payload

/-- Smallest and largest weight a commit writes in a plastic format (R36, R288). -/
def weightRange : Nat → Int × Int
  | 0 => (-8, 7)
  | 1 => (-4, 3)
  | 2 => (-2, 1)
  | _ => (-1, 1)

/-- The pattern a commit writes for weight `v` (R288: WT as 0b00, 0b01, 0b11). -/
def weightPattern (fmt : Nat) (v : Int) : Nat :=
  match weightBits fmt with
  | some b => wrap b v
  | none => 0

/-! ## The accumulator guard (R41) -/

/-- The guard refuses a contribution to an accumulator of magnitude 262,144 or more. -/
def guardRefuses (acc : Int) : Bool := decide (262144 ≤ acc.natAbs)

/-! ## Stochastic rounding (R47–R49) -/

/-- One step of the tile's Galois register (R47). -/
def lfsrStep (w : Nat) : Nat := if w % 2 = 1 then (w / 2) ^^^ 0x80200003 else w / 2

/-- The 32 steps of one drawing cycle (R47). -/
def lfsrCycle (w : Nat) : Nat := (List.range 32).foldl (fun a _ => lfsrStep a) w

/-- The register after `n` drawing cycles. -/
def lfsrAdv : Nat → Nat → Nat
  | 0, w => w
  | n + 1, w => lfsrAdv n (lfsrCycle w)

/-- Byte `j` of the register. -/
def lfsrByte (w j : Nat) : Nat := (w / 2 ^ (8 * (j % 4))) % 256

/-- Stochastic rounding of `v` with `f` fractional bits by the drawn byte (R49); above 8 bits, `v` is first truncated to 8. -/
def srnd (v : Int) (f byte : Nat) : Int :=
  if f ≤ 8 then asr (v + ((byte % 2 ^ f : Nat) : Int)) f else asr (asr v (f - 8) + ((byte % 256 : Nat) : Int)) 8

/-! ## The rescale unit (R53, R54) -/

/-- What a conversion gives: the value, whether it clipped, and the input after the 24-bit clamp. -/
structure Conv where
  y : Int
  clipped : Bool
  x : Int
deriving DecidableEq, Repr

/-- A shift of 24 to 31 acts as 23 (R53). -/
def effShift (s : Nat) : Nat := if s > 23 then 23 else s

/-- Multiply mode (R53). -/
def rescale (x : Int) (m s : Nat) (lo hi : Int) : Conv :=
  let x' := clampI (-8388608) 8388607 x
  let s' := effShift s
  let y := asr (x' * m + (if s' > 0 then ((2 ^ (s' - 1) : Nat) : Int) else 0)) s'
  { y := clampI lo hi y, clipped := decide (x' ≠ x) || decide (clampI lo hi y ≠ y), x := x' }

/-- Threshold-table mode (R54). -/
def rescaleTable (x : Int) (thr : List Int) (lo hi : Int) : Conv :=
  let x' := clampI (-8388608) 8388607 x
  let y : Int := ((thr.take 15).filter fun t => decide (t ≤ x')).length
  { y := clampI lo hi y, clipped := decide (x' ≠ x) || decide (y = 15) || decide (clampI lo hi y ≠ y), x := x' }

/-- The error a probe measures for a multiply-mode conversion (R62), in 1/256 of the output's LSB. -/
def convError (c : Conv) (m s : Nat) : Int :=
  let s' := effShift s
  let e := c.x * m - c.y * ((2 ^ s' : Nat) : Int)
  clampI (-32767) 32767 (if 8 ≤ s' then asr e (s' - 8) else e * ((2 ^ (8 - s') : Nat) : Int))

/-! ## Check polynomials -/

/-- One bit of a CRC register of `w` bits, most significant bit first. -/
def crcBit (w poly crc : Nat) (b : Bool) : Nat :=
  let top := bitAt crc (w - 1) != b
  let c := (crc * 2) % 2 ^ w
  if top then c ^^^ poly else c

/-- A byte into a CRC register, most significant bit first. -/
def crcByte (w poly crc byte : Nat) : Nat := (List.range 8).foldl (fun c i => crcBit w poly c (bitAt byte (7 - i))) crc

/-- A CRC of `w` bits over bytes, most significant bit first, no reflection. -/
def crcMsb (w poly init : Nat) (bytes : List Nat) : Nat := bytes.foldl (crcByte w poly) init

/-! ## Bytes -/

/-- The low `n` bytes of `v`, most significant first (R429). -/
def bytesBE (n v : Nat) : List Nat := (List.range n).map fun i => v / 2 ^ (8 * (n - 1 - i)) % 256

/-- The low `n` bytes of `v`, least significant first (R8). -/
def bytesLE (n v : Nat) : List Nat := (List.range n).map fun i => v / 2 ^ (8 * i) % 256

/-- The number that bytes spell, most significant first. -/
def ofBE (l : List Nat) : Nat := l.foldl (fun a b => a * 256 + b % 256) 0

/-- The number that bytes spell, least significant first. -/
def ofLE : List Nat → Nat
  | [] => 0
  | b :: t => b % 256 + 256 * ofLE t

/-- Bytes `o` to `o + n - 1`, zero beyond the end. -/
def slice (l : List Nat) (o n : Nat) : List Nat := (List.range n).map fun i => l.getD (o + i) 0

/-- `l` cut into pieces of at most `n`, up to `k` of them. -/
def chunks {α : Type} (n : Nat) : Nat → List α → List (List α)
  | 0, _ => []
  | _, [] => []
  | k + 1, l => l.take n :: chunks n k (l.drop n)

end Sys2Proof.Machine
end

