-- ==== Sys2Proof/Machine/Map.lean ====
section
/-! DEFINITION. Sparse stores: lists of (key, value) pairs in one canonical form (keys strictly rising, no entry equal to what an
unlisted key reads as), so that equal contents are equal data. -/

namespace Sys2Proof.Machine

/-- The value at key `k`; an unlisted key reads as `d`. -/
def Map.get {α : Type} (d : α) : List (Nat × α) → Nat → α
  | [], _ => d
  | p :: t, k => if p.1 = k then p.2 else Map.get d t k

/-- `m` without key `k`. -/
def Map.erase {α : Type} : List (Nat × α) → Nat → List (Nat × α)
  | [], _ => []
  | p :: t, k => if p.1 = k then Map.erase t k else p :: Map.erase t k

/-- `m` with `(k, v)` put before the first key above `k`. -/
def Map.insert {α : Type} (k : Nat) (v : α) : List (Nat × α) → List (Nat × α)
  | [] => [(k, v)]
  | p :: t => if k < p.1 then (k, v) :: p :: t else p :: Map.insert k v t

/-- `m` with value `v` at key `k`, where an unlisted `k` reads as `d`: the entry is removed when `v` is `d`. -/
def Map.set {α : Type} [DecidableEq α] (d : α) (m : List (Nat × α)) (k : Nat) (v : α) : List (Nat × α) :=
  if v = d then Map.erase m k else Map.insert k v (Map.erase m k)

/-- Keys strictly rise from above `lo`, and no entry holds its default. -/
def Map.wfFrom {α : Type} [DecidableEq α] (d : Nat → α) : Option Nat → List (Nat × α) → Bool
  | _, [] => true
  | lo, p :: t =>
    (match lo with | some l => decide (l < p.1) | none => true) && decide (p.2 ≠ d p.1) && Map.wfFrom d (some p.1) t

/-- The canonical form. -/
def Map.wf {α : Type} [DecidableEq α] (d : Nat → α) (m : List (Nat × α)) : Bool := Map.wfFrom d none m

end Sys2Proof.Machine
end

