-- ==== Sys2Proof/Machine/RegMap.lean ====
section
/-! DEFINITION. The register map (spec/18_register_map.md R562–R569 and the register tables of every chapter): the pages of the
local address space, each block's registers with the access code and reset value of every field, and one `Loc` per named field. -/

namespace Sys2Proof.Machine

/-- Access codes of register fields (R9). -/
inductive Acc | ro | rw | rwd | w1c | rc | wo | wp
deriving DecidableEq, Repr

/-- One field of a register: bits [hi:lo], its access code and its reset value. -/
structure FieldRow where
  hi : Nat
  lo : Nat
  acc : Acc
  rst : Nat
deriving DecidableEq, Repr

/-- A register (or an array of `count` registers `stride` bytes apart) at decoded offset `off` of its page. -/
structure RegRow where
  off : Nat
  stride : Nat
  count : Nat
  fields : List FieldRow
deriving DecidableEq, Repr

/-- A field of one register: the register's local address and the bits [hi:lo]. -/
structure Loc where
  addr : Nat
  hi : Nat
  lo : Nat
deriving DecidableEq, Repr

/-- The block types that present register pages (R562). -/
inductive Block
  | sys | boot | pwr | clk | tmr | sec | recd | host | csi | aer | t1s | gpio | spi | kiln | tie | crc | fwc
  | mem | clu | mtr | tile | rt
deriving DecidableEq, Repr

/-- What the page list and the common header fix for a block: the base of its first page, how many pages it has, its type
code, DECODE_BITS (R562), the reset of CTRL.EN, whether EN is fixed (reads its reset value and ignores writes), whether FORCE and
DRAIN_TIMEOUT exist, the reset of DRAIN_TIMEOUT, and the implemented bits of INT_STATUS (R564 and the block's chapter). -/
structure PageInfo where
  base : Nat
  pages : Nat
  type : Nat
  decode : Nat
  en : Nat
  enFixed : Bool
  force : Bool
  drain : Nat
  ints : Nat
deriving DecidableEq, Repr

/-- The page list (R562) with each block's header statement. -/
def Block.info : Block → PageInfo
  | .sys => ⟨0x0, 1, 0x01, 6, 1, true, false, 0x0, 0xC0000000⟩
  | .boot => ⟨0x1000, 1, 0x02, 7, 1, true, false, 0x0, 0xC0000007⟩
  | .pwr => ⟨0x2000, 1, 0x04, 8, 1, false, false, 0x0, 0xC000000F⟩
  | .clk => ⟨0x3000, 1, 0x06, 6, 1, true, false, 0x0, 0xC0000001⟩
  | .tmr => ⟨0x4000, 1, 0x08, 9, 1, true, false, 0x0, 0xC00FFFFF⟩
  | .sec => ⟨0x5000, 1, 0x0A, 6, 1, true, false, 0x0, 0xC0000000⟩
  | .recd => ⟨0x6000, 1, 0x0C, 10, 1, false, false, 0x0, 0xC000001F⟩
  | .host => ⟨0x7000, 1, 0x50, 7, 0, false, true, 0x9C4, 0xC000007F⟩
  | .csi => ⟨0x8000, 4, 0x40, 6, 0, false, true, 0x9C4, 0xC000000F⟩
  | .aer => ⟨0xC000, 1, 0x44, 7, 0, false, true, 0x9C4, 0xC0000007⟩
  | .t1s => ⟨0xD000, 4, 0x48, 10, 0, false, true, 0x9C4, 0xC000000F⟩
  | .gpio => ⟨0x11000, 1, 0x4C, 5, 0, false, false, 0x0, 0xC000FFFF⟩
  | .spi => ⟨0x12000, 1, 0x54, 5, 0, false, true, 0x9C4, 0xC0000000⟩
  | .kiln => ⟨0x13000, 1, 0x24, 7, 0, false, true, 0x9C4, 0xC000000F⟩
  | .tie => ⟨0x14000, 4, 0x28, 7, 1, false, true, 0x9C4, 0xC000007F⟩
  | .crc => ⟨0x18000, 4, 0x2C, 5, 0, false, true, 0x9C4, 0xC0000003⟩
  | .fwc => ⟨0x1C000, 1, 0x60, 9, 1, true, false, 0x0, 0xC000000F⟩
  | .mem => ⟨0x20000, 48, 0x30, 6, 0, false, true, 0x9C4, 0xC0000007⟩
  | .clu => ⟨0x50000, 16, 0x20, 9, 0, false, true, 0x4E20, 0xC000FF03⟩
  | .mtr => ⟨0x60000, 1, 0x12, 5, 1, true, false, 0x0, 0xC0000003⟩
  | .tile => ⟨0x100000, 1024, 0x10, 9, 0, false, true, 0x2710, 0xC000003F⟩
  | .rt => ⟨0x500000, 1024, 0x11, 5, 1, false, false, 0x0, 0x80000003⟩

/-- Base of the block's page of instance `i`. -/
def Block.base (b : Block) (i : Nat) : Nat := b.info.base + 0x1000 * i

/-- Every block, in page order. -/
def Block.all : List Block :=
  [.sys, .boot, .pwr, .clk, .tmr, .sec, .recd, .host, .csi, .aer, .t1s, .gpio, .spi, .kiln, .tie, .crc, .fwc, .mem, .clu, .mtr,
    .tile, .rt]

/-- Registers of the SYS page. -/
def regs_sys : List RegRow :=
  [ ⟨0x040, 4, 1, [⟨31, 16, .ro, 0xA10⟩, ⟨15, 8, .ro, 0xB0⟩]⟩
  , ⟨0x044, 4, 1, [⟨23, 16, .ro, 0x0⟩, ⟨10, 0, .ro, 0x0⟩]⟩
  , ⟨0x048, 4, 1, [⟨31, 31, .ro, 0x0⟩, ⟨11, 11, .ro, 0x0⟩, ⟨9, 0, .ro, 0x0⟩]⟩
  , ⟨0x04C, 4, 1, [⟨31, 16, .wo, 0x0⟩, ⟨0, 0, .wp, 0x0⟩]⟩
  , ⟨0x080, 4, 32, [⟨31, 0, .ro, 0x0⟩]⟩
  ]

/-- Registers of the BOOT page. -/
def regs_boot : List RegRow :=
  [ ⟨0x040, 4, 1, [⟨15, 12, .wo, 0x0⟩, ⟨11, 8, .wo, 0x0⟩, ⟨3, 0, .wo, 0x0⟩]⟩
  , ⟨0x044, 4, 1, [⟨31, 31, .ro, 0x0⟩, ⟨30, 30, .ro, 0x0⟩, ⟨25, 22, .ro, 0x0⟩, ⟨21, 18, .ro, 0x0⟩, ⟨15, 12, .ro, 0x1⟩, ⟨11, 8, .ro, 0x0⟩, ⟨7, 0, .ro, 0x0⟩]⟩
  , ⟨0x048, 4, 1, [⟨31, 16, .ro, 0x0⟩, ⟨11, 8, .ro, 0x0⟩, ⟨3, 0, .ro, 0x1⟩]⟩
  , ⟨0x04C, 4, 1, [⟨31, 16, .wo, 0x0⟩, ⟨2, 2, .ro, 0x0⟩, ⟨1, 1, .ro, 0x0⟩, ⟨0, 0, .wp, 0x0⟩]⟩
  , ⟨0x050, 4, 1, [⟨21, 0, .rw, 0x0⟩]⟩
  , ⟨0x054, 4, 1, [⟨21, 0, .rw, 0x0⟩]⟩
  , ⟨0x058, 4, 1, [⟨21, 0, .rw, 0x0⟩]⟩
  , ⟨0x05C, 4, 1, [⟨21, 0, .rw, 0x0⟩]⟩
  , ⟨0x060, 4, 1, [⟨15, 0, .rw, 0xFA⟩]⟩
  , ⟨0x064, 4, 1, [⟨29, 28, .rw, 0x0⟩, ⟨27, 24, .rw, 0x0⟩, ⟨23, 20, .rw, 0x0⟩, ⟨15, 0, .rw, 0x0⟩]⟩
  , ⟨0x068, 4, 1, [⟨1, 1, .wp, 0x0⟩, ⟨0, 0, .wp, 0x0⟩]⟩
  , ⟨0x080, 4, 13, [⟨31, 24, .ro, 0x0⟩, ⟨23, 20, .ro, 0x0⟩, ⟨19, 16, .ro, 0x0⟩, ⟨15, 0, .ro, 0x0⟩]⟩
  , ⟨0x100, 4, 64, [⟨31, 0, .rw, 0x0⟩]⟩
  , ⟨0x0B4, 4, 1, [⟨31, 31, .ro, 0x0⟩, ⟨30, 30, .ro, 0x0⟩, ⟨29, 26, .ro, 0x0⟩, ⟨25, 20, .ro, 0x0⟩, ⟨19, 16, .ro, 0x0⟩, ⟨15, 15, .ro, 0x0⟩, ⟨14, 14, .rw, 0x0⟩, ⟨13, 0, .ro, 0x0⟩]⟩
  ]

/-- Registers of the PWR page. -/
def regs_pwr : List RegRow :=
  [ ⟨0x040, 4, 1, [⟨16, 16, .rwd, 0x0⟩, ⟨15, 0, .rwd, 0x64⟩]⟩
  , ⟨0x044, 4, 1, [⟨29, 0, .ro, 0x1⟩]⟩
  , ⟨0x048, 4, 1, [⟨31, 31, .ro, 0x0⟩, ⟨30, 30, .ro, 0x0⟩, ⟨29, 29, .ro, 0x0⟩, ⟨28, 28, .ro, 0x0⟩, ⟨15, 14, .ro, 0x2⟩, ⟨13, 12, .ro, 0x2⟩, ⟨3, 2, .rw, 0x2⟩, ⟨1, 0, .rw, 0x2⟩]⟩
  , ⟨0x04C, 4, 1, [⟨8, 0, .rw, 0x50⟩]⟩
  , ⟨0x050, 4, 1, [⟨25, 24, .ro, 0x0⟩, ⟨20, 16, .ro, 0x0⟩, ⟨15, 14, .ro, 0x0⟩, ⟨13, 12, .ro, 0x0⟩, ⟨8, 0, .ro, 0x0⟩]⟩
  , ⟨0x054, 4, 1, [⟨31, 16, .rc, 0x8000⟩, ⟨15, 0, .ro, 0x0⟩]⟩
  , ⟨0x058, 4, 1, [⟨15, 8, .rw, 0x6E⟩, ⟨7, 0, .rw, 0x69⟩]⟩
  , ⟨0x05C, 4, 1, [⟨31, 28, .ro, 0x0⟩, ⟨27, 24, .ro, 0x0⟩]⟩
  , ⟨0x060, 4, 1, [⟨31, 0, .ro, 0x0⟩]⟩
  , ⟨0x064, 4, 1, [⟨26, 26, .rw, 0x0⟩, ⟨25, 25, .rw, 0x1⟩, ⟨24, 24, .rw, 0x1⟩, ⟨23, 20, .rw, 0x0⟩, ⟨19, 16, .rw, 0x0⟩, ⟨15, 0, .rw, 0x0⟩]⟩
  , ⟨0x080, 4, 16, [⟨31, 16, .rwd, 0x0⟩, ⟨15, 14, .rwd, 0x0⟩, ⟨13, 13, .rwd, 0x0⟩, ⟨12, 12, .rw, 0x0⟩, ⟨11, 8, .rwd, 0x0⟩, ⟨7, 0, .rwd, 0x0⟩]⟩
  , ⟨0x100, 16, 30, [⟨31, 31, .ro, 0x0⟩, ⟨30, 30, .ro, 0x0⟩, ⟨29, 29, .ro, 0x0⟩, ⟨15, 0, .ro, 0x0⟩]⟩
  , ⟨0x104, 16, 30, [⟨15, 0, .wp, 0x0⟩]⟩
  , ⟨0x108, 16, 30, [⟨15, 0, .wp, 0x0⟩]⟩
  , ⟨0x10C, 16, 30, [⟨31, 0, .rc, 0x0⟩]⟩
  ]

/-- Registers of the CLK page. -/
def regs_clk : List RegRow :=
  [ ⟨0x040, 4, 1, [⟨14, 8, .ro, 0x0⟩, ⟨1, 1, .ro, 0x1⟩, ⟨0, 0, .ro, 0x1⟩]⟩
  , ⟨0x080, 4, 16, [⟨31, 31, .ro, 0x0⟩, ⟨9, 8, .ro, 0x2⟩, ⟨1, 0, .rw, 0x0⟩]⟩
  ]

/-- Registers of the TMR page, part 1. -/
def regs_tmr0 : List RegRow :=
  [ ⟨0x400, 4, 1, [⟨3, 3, .wp, 0x0⟩, ⟨2, 2, .wp, 0x0⟩, ⟨0, 0, .rw, 0x0⟩]⟩
  , ⟨0x404, 4, 1, [⟨23, 0, .rw, 0x186A0⟩]⟩
  , ⟨0x408, 4, 1, [⟨23, 16, .rw, 0x2⟩, ⟨15, 8, .rw, 0x80⟩, ⟨7, 0, .rw, 0x40⟩]⟩
  , ⟨0x40C, 4, 1, [⟨31, 16, .rw, 0x2710⟩, ⟨15, 0, .rw, 0x32⟩]⟩
  , ⟨0x410, 4, 1, [⟨31, 0, .ro, 0x0⟩]⟩
  , ⟨0x414, 4, 1, [⟨31, 0, .ro, 0x0⟩]⟩
  , ⟨0x418, 4, 1, [⟨31, 0, .rw, 0x0⟩]⟩
  , ⟨0x41C, 4, 1, [⟨31, 0, .rw, 0x0⟩]⟩
  , ⟨0x420, 4, 1, [⟨31, 31, .ro, 0x0⟩, ⟨30, 30, .ro, 0x0⟩, ⟨29, 29, .ro, 0x0⟩, ⟨28, 28, .ro, 0x0⟩, ⟨27, 27, .ro, 0x1⟩, ⟨26, 24, .ro, 0x0⟩, ⟨23, 23, .ro, 0x0⟩]⟩
  , ⟨0x424, 4, 1, [⟨27, 0, .ro, 0x0⟩]⟩
  , ⟨0x428, 4, 1, [⟨31, 0, .ro, 0x0⟩]⟩
  , ⟨0x42C, 4, 1, [⟨31, 0, .ro, 0x0⟩]⟩
  , ⟨0x430, 4, 1, [⟨31, 0, .rc, 0x0⟩]⟩
  , ⟨0x434, 4, 1, [⟨31, 0, .rc, 0x0⟩]⟩
  , ⟨0x438, 4, 1, [⟨31, 0, .rc, 0x0⟩]⟩
  , ⟨0x43C, 4, 1, [⟨31, 0, .rc, 0x0⟩]⟩
  , ⟨0x440, 4, 1, [⟨31, 0, .rc, 0x0⟩]⟩
  , ⟨0x444, 4, 1, [⟨31, 0, .rc, 0x0⟩]⟩
  , ⟨0x040, 4, 1, [⟨31, 0, .ro, 0x0⟩]⟩
  , ⟨0x044, 4, 1, [⟨31, 0, .ro, 0x0⟩]⟩
  , ⟨0x048, 4, 1, [⟨31, 0, .ro, 0x0⟩]⟩
  , ⟨0x04C, 4, 1, [⟨31, 31, .rw, 0x0⟩, ⟨30, 30, .rw, 0x0⟩]⟩
  , ⟨0x050, 4, 1, [⟨31, 0, .rw, 0x0⟩]⟩
  , ⟨0x054, 4, 1, [⟨31, 0, .wo, 0x0⟩]⟩
  ]

/-- Registers of the TMR page, part 2. -/
def regs_tmr1 : List RegRow :=
  [ ⟨0x058, 4, 1, [⟨31, 0, .ro, 0x0⟩]⟩
  , ⟨0x05C, 4, 1, [⟨15, 0, .wp, 0x0⟩]⟩
  , ⟨0x100, 32, 16, [⟨31, 31, .rw, 0x0⟩, ⟨30, 29, .rw, 0x0⟩, ⟨28, 28, .rw, 0x0⟩, ⟨23, 16, .rw, 0x0⟩, ⟨1, 1, .wp, 0x0⟩, ⟨0, 0, .wp, 0x0⟩]⟩
  , ⟨0x104, 32, 16, [⟨31, 0, .rw, 0x0⟩]⟩
  , ⟨0x108, 32, 16, [⟨31, 0, .rw, 0x0⟩]⟩
  , ⟨0x10C, 32, 16, [⟨31, 0, .rw, 0x0⟩]⟩
  , ⟨0x110, 32, 16, [⟨31, 0, .ro, 0x0⟩]⟩
  , ⟨0x114, 32, 16, [⟨31, 31, .ro, 0x0⟩, ⟨30, 30, .ro, 0x0⟩, ⟨29, 29, .w1c, 0x0⟩, ⟨7, 0, .ro, 0x0⟩]⟩
  , ⟨0x118, 32, 16, [⟨31, 0, .ro, 0x0⟩]⟩
  ]

/-- Registers of the TMR page. -/
def regs_tmr : List RegRow := regs_tmr0 ++ regs_tmr1

/-- Registers of the SEC page. -/
def regs_sec : List RegRow :=
  [ ⟨0x040, 4, 1, [⟨7, 7, .ro, 0x0⟩, ⟨6, 6, .ro, 0x0⟩, ⟨5, 5, .ro, 0x0⟩, ⟨3, 0, .ro, 0x0⟩]⟩
  , ⟨0x044, 4, 1, [⟨31, 31, .ro, 0x0⟩, ⟨23, 16, .ro, 0x0⟩, ⟨4, 0, .w1c, 0x0⟩]⟩
  , ⟨0x048, 4, 1, [⟨15, 8, .rw, 0xA⟩, ⟨0, 0, .rw, 0x1⟩]⟩
  , ⟨0x04C, 4, 1, [⟨31, 31, .rw, 0x0⟩, ⟨15, 0, .rw, 0x3E8⟩]⟩
  , ⟨0x050, 4, 1, [⟨0, 0, .wp, 0x0⟩]⟩
  , ⟨0x054, 4, 1, [⟨31, 0, .rc, 0x0⟩]⟩
  , ⟨0x058, 4, 1, [⟨31, 0, .ro, 0x0⟩]⟩
  , ⟨0x05C, 4, 1, [⟨31, 0, .ro, 0x0⟩]⟩
  , ⟨0x080, 4, 8, [⟨31, 0, .ro, 0x0⟩]⟩
  , ⟨0x0A0, 4, 8, [⟨31, 0, .ro, 0x0⟩]⟩
  , ⟨0x0C0, 4, 8, [⟨31, 0, .ro, 0x0⟩]⟩
  , ⟨0x0E0, 4, 8, [⟨31, 0, .ro, 0x0⟩]⟩
  ]

/-- Registers of the REC page. -/
def regs_rec : List RegRow :=
  [ ⟨0x040, 4, 1, [⟨31, 24, .rwd, 0xA⟩, ⟨15, 0, .rwd, 0x3E8⟩]⟩
  , ⟨0x044, 4, 1, [⟨31, 0, .ro, 0x0⟩]⟩
  , ⟨0x048, 4, 1, [⟨31, 0, .ro, 0x0⟩]⟩
  , ⟨0x04C, 4, 1, [⟨5, 0, .rw, 0x0⟩]⟩
  , ⟨0x050, 4, 1, [⟨31, 31, .ro, 0x0⟩, ⟨30, 30, .ro, 0x0⟩, ⟨15, 0, .ro, 0x0⟩]⟩
  , ⟨0x054, 4, 1, [⟨31, 16, .wo, 0x0⟩, ⟨0, 0, .wp, 0x0⟩]⟩
  , ⟨0x058, 4, 4, [⟨31, 31, .rw, 0x0⟩, ⟨13, 8, .rw, 0x3F⟩, ⟨5, 0, .rw, 0x0⟩]⟩
  ]

/-- Registers of the HOST page, part 1. -/
def regs_host0 : List RegRow :=
  [ ⟨0x040, 4, 1, [⟨31, 16, .rwd, 0x88B5⟩, ⟨15, 15, .rwd, 0x0⟩, ⟨14, 12, .rwd, 0x0⟩, ⟨11, 0, .rwd, 0x0⟩]⟩
  , ⟨0x044, 4, 1, [⟨31, 31, .ro, 0x0⟩, ⟨30, 30, .rwd, 0x0⟩, ⟨2, 0, .ro, 0x0⟩]⟩
  , ⟨0x048, 4, 1, [⟨31, 0, .ro, 0x0⟩]⟩
  , ⟨0x04C, 4, 1, [⟨15, 0, .ro, 0x0⟩]⟩
  , ⟨0x050, 4, 1, [⟨31, 31, .ro, 0x0⟩, ⟨16, 16, .wp, 0x0⟩, ⟨15, 0, .ro, 0x0⟩]⟩
  , ⟨0x054, 4, 1, [⟨31, 0, .ro, 0x0⟩]⟩
  , ⟨0x058, 4, 1, [⟨15, 0, .rw, 0x28⟩]⟩
  , ⟨0x05C, 4, 1, [⟨31, 31, .rw, 0x0⟩, ⟨30, 30, .rw, 0x0⟩, ⟨29, 28, .ro, 0x0⟩]⟩
  , ⟨0x060, 4, 1, [⟨31, 16, .rw, 0xA0⟩, ⟨15, 0, .rw, 0x400⟩]⟩
  , ⟨0x064, 4, 1, [⟨31, 31, .rwd, 0x0⟩, ⟨18, 16, .rwd, 0x0⟩, ⟨15, 0, .rwd, 0x0⟩]⟩
  , ⟨0x068, 4, 1, [⟨31, 30, .rw, 0x0⟩, ⟨29, 29, .rw, 0x0⟩]⟩
  , ⟨0x070, 8, 8, [⟨31, 31, .rwd, 0x0⟩, ⟨30, 30, .rwd, 0x0⟩, ⟨29, 29, .rwd, 0x0⟩, ⟨28, 28, .rwd, 0x0⟩, ⟨25, 16, .rwd, 0x0⟩, ⟨15, 0, .rwd, 0x0⟩]⟩
  , ⟨0x074, 8, 8, [⟨12, 8, .rwd, 0x0⟩, ⟨7, 0, .rwd, 0x1⟩]⟩
  , ⟨0x0B0, 4, 1, [⟨31, 0, .rc, 0x0⟩]⟩
  , ⟨0x0B4, 4, 1, [⟨31, 0, .rc, 0x0⟩]⟩
  , ⟨0x0B8, 4, 1, [⟨31, 0, .rc, 0x0⟩]⟩
  , ⟨0x0BC, 4, 1, [⟨31, 0, .rc, 0x0⟩]⟩
  , ⟨0x0C0, 4, 1, [⟨31, 0, .rc, 0x0⟩]⟩
  , ⟨0x0C4, 4, 1, [⟨31, 0, .rc, 0x0⟩]⟩
  , ⟨0x0C8, 4, 1, [⟨31, 0, .rc, 0x0⟩]⟩
  , ⟨0x0CC, 4, 1, [⟨31, 0, .rc, 0x0⟩]⟩
  , ⟨0x0D0, 4, 1, [⟨31, 0, .rc, 0x0⟩]⟩
  , ⟨0x0D4, 4, 1, [⟨31, 0, .rc, 0x0⟩]⟩
  , ⟨0x0D8, 4, 1, [⟨31, 0, .rc, 0x0⟩]⟩
  ]

/-- Registers of the HOST page, part 2. -/
def regs_host1 : List RegRow :=
  [ ⟨0x0DC, 4, 1, [⟨31, 0, .rc, 0x0⟩]⟩
  , ⟨0x0E0, 4, 1, [⟨31, 0, .rc, 0x0⟩]⟩
  , ⟨0x0E4, 4, 1, [⟨31, 0, .rc, 0x0⟩]⟩
  , ⟨0x0E8, 4, 1, [⟨31, 0, .rc, 0x0⟩]⟩
  , ⟨0x0EC, 4, 1, [⟨31, 0, .rc, 0x0⟩]⟩
  , ⟨0x0F0, 4, 1, [⟨31, 0, .ro, 0x0⟩]⟩
  , ⟨0x0F4, 4, 1, [⟨31, 0, .ro, 0x0⟩]⟩
  , ⟨0x0F8, 4, 1, [⟨31, 0, .ro, 0x0⟩]⟩
  , ⟨0x0FC, 4, 1, [⟨31, 0, .ro, 0x0⟩]⟩
  , ⟨0x100, 4, 1, [⟨31, 0, .rc, 0x0⟩]⟩
  , ⟨0x104, 4, 1, [⟨31, 0, .rc, 0x0⟩]⟩
  ]

/-- Registers of the HOST page. -/
def regs_host : List RegRow := regs_host0 ++ regs_host1

/-- Registers of the CSI page, part 1. -/
def regs_csi0 : List RegRow :=
  [ ⟨0x040, 4, 1, [⟨31, 30, .rwd, 0x2⟩, ⟨29, 26, .rwd, 0x0⟩, ⟨25, 20, .rwd, 0x30⟩, ⟨19, 16, .rwd, 0x1⟩, ⟨15, 15, .rwd, 0x0⟩]⟩
  , ⟨0x044, 4, 1, [⟨31, 26, .rwd, 0x0⟩, ⟨25, 22, .rwd, 0xC⟩, ⟨21, 16, .rwd, 0xC⟩, ⟨15, 12, .rwd, 0xC⟩, ⟨11, 6, .rwd, 0x18⟩, ⟨5, 5, .rwd, 0x1⟩, ⟨4, 4, .rwd, 0x0⟩, ⟨3, 0, .rwd, 0x8⟩]⟩
  , ⟨0x048, 4, 1, [⟨31, 26, .rwd, 0x20⟩, ⟨25, 21, .rwd, 0x1F⟩, ⟨20, 19, .rwd, 0x1⟩, ⟨18, 13, .rwd, 0x1E⟩, ⟨12, 11, .rwd, 0x0⟩, ⟨10, 8, .rwd, 0x0⟩]⟩
  , ⟨0x04C, 4, 1, [⟨31, 24, .rwd, 0x0⟩, ⟨23, 16, .rwd, 0x0⟩, ⟨15, 8, .rwd, 0x10⟩, ⟨7, 0, .rwd, 0x10⟩]⟩
  , ⟨0x050, 4, 1, [⟨31, 16, .rw, 0xC80⟩, ⟨15, 0, .rw, 0x1000⟩]⟩
  , ⟨0x054, 4, 1, [⟨31, 24, .rw, 0x2⟩, ⟨11, 0, .rwd, 0x0⟩]⟩
  , ⟨0x058, 4, 1, [⟨31, 31, .rw, 0x0⟩, ⟨13, 0, .rw, 0x0⟩]⟩
  , ⟨0x05C, 4, 1, [⟨31, 0, .rw, 0x0⟩]⟩
  , ⟨0x060, 4, 1, [⟨31, 31, .ro, 0x0⟩, ⟨30, 30, .ro, 0x0⟩, ⟨3, 0, .ro, 0x0⟩]⟩
  , ⟨0x064, 4, 1, [⟨31, 0, .ro, 0x0⟩]⟩
  , ⟨0x068, 4, 1, [⟨31, 0, .ro, 0x0⟩]⟩
  , ⟨0x06C, 4, 1, [⟨23, 0, .ro, 0x0⟩]⟩
  , ⟨0x080, 4, 1, [⟨31, 0, .rc, 0x0⟩]⟩
  , ⟨0x084, 4, 1, [⟨31, 0, .rc, 0x0⟩]⟩
  , ⟨0x088, 4, 1, [⟨31, 0, .rc, 0x0⟩]⟩
  , ⟨0x08C, 4, 1, [⟨31, 0, .rc, 0x0⟩]⟩
  , ⟨0x090, 4, 1, [⟨31, 0, .rc, 0x0⟩]⟩
  , ⟨0x094, 4, 1, [⟨31, 0, .rc, 0x0⟩]⟩
  , ⟨0x098, 4, 1, [⟨31, 0, .rc, 0x0⟩]⟩
  , ⟨0x09C, 4, 1, [⟨31, 0, .rc, 0x0⟩]⟩
  , ⟨0x0A0, 4, 1, [⟨31, 0, .rc, 0x0⟩]⟩
  , ⟨0x0A4, 4, 1, [⟨31, 0, .rc, 0x0⟩]⟩
  , ⟨0x0A8, 4, 1, [⟨31, 0, .rc, 0x0⟩]⟩
  , ⟨0x0AC, 4, 1, [⟨31, 0, .rc, 0x0⟩]⟩
  ]

/-- Registers of the CSI page, part 2. -/
def regs_csi1 : List RegRow :=
  [ ⟨0x0B0, 4, 1, [⟨31, 0, .rc, 0x0⟩]⟩
  , ⟨0x0B4, 4, 1, [⟨31, 0, .rc, 0x0⟩]⟩
  ]

/-- Registers of the CSI page. -/
def regs_csi : List RegRow := regs_csi0 ++ regs_csi1

/-- Registers of the AER page. -/
def regs_aer : List RegRow :=
  [ ⟨0x040, 128, 2, [⟨31, 31, .rwd, 0x0⟩, ⟨19, 16, .rwd, 0x1⟩]⟩
  , ⟨0x044, 128, 2, [⟨31, 28, .rwd, 0x0⟩, ⟨27, 24, .rwd, 0x7⟩, ⟨23, 20, .rwd, 0x7⟩, ⟨19, 16, .rwd, 0x7⟩, ⟨15, 12, .rwd, 0xE⟩, ⟨11, 11, .rwd, 0x1⟩, ⟨10, 10, .rwd, 0x0⟩]⟩
  , ⟨0x048, 128, 2, [⟨31, 24, .rwd, 0x0⟩, ⟨23, 16, .rwd, 0x0⟩, ⟨15, 8, .rwd, 0x10⟩, ⟨7, 0, .rwd, 0x10⟩]⟩
  , ⟨0x04C, 128, 2, [⟨31, 16, .rw, 0x320⟩, ⟨15, 0, .rw, 0x400⟩]⟩
  , ⟨0x050, 128, 2, [⟨31, 31, .rw, 0x0⟩, ⟨11, 0, .rw, 0x0⟩]⟩
  , ⟨0x054, 128, 2, [⟨31, 0, .rw, 0x0⟩]⟩
  , ⟨0x058, 128, 2, [⟨31, 0, .rc, 0x0⟩]⟩
  , ⟨0x05C, 128, 2, [⟨31, 0, .rc, 0x0⟩]⟩
  , ⟨0x060, 128, 2, [⟨31, 0, .rc, 0x0⟩]⟩
  , ⟨0x064, 128, 2, [⟨31, 0, .rc, 0x0⟩]⟩
  , ⟨0x068, 128, 2, [⟨31, 0, .rc, 0x0⟩]⟩
  ]

/-- Registers of the T1S page, part 1. -/
def regs_t1s0 : List RegRow :=
  [ ⟨0x040, 4, 1, [⟨31, 31, .rw, 0x0⟩, ⟨30, 30, .rwd, 0x1⟩, ⟨29, 27, .rwd, 0x0⟩, ⟨26, 24, .rwd, 0x7⟩, ⟨23, 16, .rwd, 0x20⟩, ⟨15, 8, .rwd, 0x0⟩, ⟨7, 0, .rwd, 0x80⟩]⟩
  , ⟨0x044, 4, 1, [⟨31, 0, .rwd, 0x0⟩]⟩
  , ⟨0x048, 4, 1, [⟨31, 31, .rwd, 0x0⟩, ⟨15, 0, .rwd, 0x0⟩]⟩
  , ⟨0x04C, 4, 1, [⟨15, 0, .rw, 0x0⟩]⟩
  , ⟨0x050, 4, 1, [⟨31, 16, .rw, 0x10⟩, ⟨15, 0, .rw, 0x100⟩]⟩
  , ⟨0x054, 4, 1, [⟨31, 31, .ro, 0x0⟩]⟩
  , ⟨0x100, 16, 8, [⟨31, 0, .rw, 0x0⟩]⟩
  , ⟨0x104, 16, 8, [⟨31, 31, .rw, 0x0⟩, ⟨15, 0, .rw, 0x0⟩]⟩
  , ⟨0x108, 16, 8, [⟨15, 0, .rw, 0x0⟩]⟩
  , ⟨0x200, 16, 16, [⟨31, 31, .rw, 0x0⟩, ⟨30, 28, .rw, 0x0⟩, ⟨27, 27, .rw, 0x0⟩, ⟨26, 26, .rw, 0x1⟩, ⟨25, 24, .rw, 0x1⟩, ⟨23, 23, .rw, 0x0⟩, ⟨22, 22, .rw, 0x0⟩, ⟨21, 11, .rw, 0x0⟩]⟩
  , ⟨0x204, 16, 16, [⟨12, 8, .rw, 0x0⟩, ⟨7, 0, .rw, 0x1⟩]⟩
  , ⟨0x208, 16, 16, [⟨29, 28, .rw, 0x0⟩, ⟨25, 16, .rw, 0x0⟩, ⟨15, 0, .rw, 0x0⟩]⟩
  , ⟨0x400, 4, 256, [⟨31, 0, .rw, 0x0⟩]⟩
  , ⟨0x800, 256, 4, [⟨31, 0, .rwd, 0x0⟩]⟩
  , ⟨0x804, 256, 4, [⟨31, 16, .rwd, 0x0⟩, ⟨15, 0, .rwd, 0x0⟩]⟩
  , ⟨0x808, 256, 4, [⟨31, 31, .rw, 0x0⟩, ⟨23, 16, .rw, 0x1⟩, ⟨15, 15, .wp, 0x0⟩, ⟨6, 0, .rw, 0x8⟩]⟩
  , ⟨0x840, 4, 16, [⟨31, 0, .rw, 0x0⟩]⟩
  , ⟨0x940, 4, 16, [⟨31, 0, .rw, 0x0⟩]⟩
  , ⟨0xA40, 4, 16, [⟨31, 0, .rw, 0x0⟩]⟩
  , ⟨0xB40, 4, 16, [⟨31, 0, .rw, 0x0⟩]⟩
  , ⟨0x060, 4, 1, [⟨31, 0, .rc, 0x0⟩]⟩
  , ⟨0x064, 4, 1, [⟨31, 0, .rc, 0x0⟩]⟩
  , ⟨0x068, 4, 1, [⟨31, 0, .rc, 0x0⟩]⟩
  , ⟨0x06C, 4, 1, [⟨31, 0, .rc, 0x0⟩]⟩
  ]

/-- Registers of the T1S page, part 2. -/
def regs_t1s1 : List RegRow :=
  [ ⟨0x070, 4, 1, [⟨31, 0, .rc, 0x0⟩]⟩
  , ⟨0x074, 4, 1, [⟨31, 0, .rc, 0x0⟩]⟩
  , ⟨0x078, 4, 1, [⟨31, 0, .rc, 0x0⟩]⟩
  , ⟨0x07C, 4, 1, [⟨31, 0, .rc, 0x0⟩]⟩
  , ⟨0x080, 4, 1, [⟨31, 0, .rc, 0x0⟩]⟩
  , ⟨0x084, 4, 1, [⟨31, 0, .rc, 0x0⟩]⟩
  , ⟨0x088, 4, 1, [⟨31, 0, .rc, 0x0⟩]⟩
  , ⟨0x08C, 4, 1, [⟨31, 0, .rc, 0x0⟩]⟩
  , ⟨0x090, 4, 1, [⟨31, 0, .rc, 0x0⟩]⟩
  , ⟨0x094, 4, 1, [⟨31, 0, .rc, 0x0⟩]⟩
  , ⟨0x098, 4, 1, [⟨31, 0, .rc, 0x0⟩]⟩
  , ⟨0x09C, 4, 1, [⟨31, 0, .rc, 0x0⟩]⟩
  ]

/-- Registers of the T1S page. -/
def regs_t1s : List RegRow := regs_t1s0 ++ regs_t1s1

/-- Registers of the GPIO page. -/
def regs_gpio : List RegRow :=
  [ ⟨0x040, 4, 1, [⟨15, 0, .rw, 0x0⟩]⟩
  , ⟨0x044, 4, 1, [⟨15, 0, .rw, 0x0⟩]⟩
  , ⟨0x048, 4, 1, [⟨15, 0, .wp, 0x0⟩]⟩
  , ⟨0x04C, 4, 1, [⟨15, 0, .wp, 0x0⟩]⟩
  , ⟨0x050, 4, 1, [⟨15, 0, .ro, 0x0⟩]⟩
  , ⟨0x054, 4, 1, [⟨15, 0, .rw, 0x0⟩]⟩
  , ⟨0x058, 4, 1, [⟨31, 0, .rw, 0x0⟩]⟩
  , ⟨0x05C, 4, 1, [⟨3, 0, .rw, 0x0⟩]⟩
  ]

/-- Registers of the SPI page. -/
def regs_spi : List RegRow :=
  [ ⟨0x040, 4, 1, [⟨31, 31, .ro, 0x0⟩, ⟨30, 30, .ro, 0x0⟩, ⟨23, 16, .ro, 0x0⟩, ⟨15, 0, .ro, 0x0⟩]⟩
  , ⟨0x044, 4, 1, [⟨31, 0, .rc, 0x0⟩]⟩
  , ⟨0x048, 4, 1, [⟨31, 0, .rc, 0x0⟩]⟩
  ]

/-- Registers of the KILN page. -/
def regs_kiln : List RegRow :=
  [ ⟨0x040, 4, 1, [⟨31, 31, .ro, 0x0⟩, ⟨30, 30, .ro, 0x0⟩]⟩
  , ⟨0x044, 4, 1, [⟨31, 12, .rwd, 0xDBBA0⟩]⟩
  , ⟨0x048, 4, 1, [⟨31, 0, .rc, 0x0⟩]⟩
  , ⟨0x04C, 4, 1, [⟨31, 0, .rc, 0x0⟩]⟩
  , ⟨0x050, 4, 1, [⟨17, 0, .ro, 0x0⟩]⟩
  , ⟨0x054, 4, 1, [⟨31, 0, .rc, 0x0⟩]⟩
  , ⟨0x058, 4, 1, [⟨19, 0, .ro, 0x0⟩]⟩
  , ⟨0x080, 4, 16, [⟨29, 16, .rwd, 0x0⟩, ⟨13, 0, .rwd, 0x0⟩]⟩
  , ⟨0x0C0, 4, 16, [⟨31, 31, .ro, 0x0⟩, ⟨17, 0, .ro, 0x0⟩]⟩
  , ⟨0x100, 8, 16, [⟨31, 31, .rwd, 0x0⟩, ⟨27, 24, .rwd, 0x4⟩, ⟨17, 0, .rwd, 0x0⟩]⟩
  , ⟨0x104, 8, 16, [⟨31, 16, .ro, 0x0⟩, ⟨15, 0, .rw, 0x0⟩]⟩
  , ⟨0x180, 4, 16, [⟨15, 0, .ro, 0x0⟩]⟩
  ]

/-- Registers of the TIE page. -/
def regs_tie : List RegRow :=
  [ ⟨0x040, 4, 1, [⟨31, 28, .ro, 0x1⟩, ⟨27, 24, .ro, 0x0⟩, ⟨23, 22, .ro, 0x0⟩, ⟨21, 20, .ro, 0x0⟩, ⟨19, 19, .ro, 0x0⟩, ⟨18, 18, .ro, 0x1⟩, ⟨9, 0, .ro, 0x3FF⟩]⟩
  , ⟨0x044, 4, 1, [⟨31, 16, .rw, 0x4E20⟩, ⟨15, 12, .rw, 0x8⟩]⟩
  , ⟨0x048, 4, 1, [⟨15, 12, .ro, 0x0⟩, ⟨11, 8, .ro, 0x0⟩, ⟨7, 0, .ro, 0x0⟩]⟩
  , ⟨0x074, 4, 1, [⟨8, 0, .ro, 0x0⟩]⟩
  , ⟨0x04C, 4, 1, [⟨31, 0, .rc, 0x0⟩]⟩
  , ⟨0x050, 4, 1, [⟨31, 0, .rc, 0x0⟩]⟩
  , ⟨0x054, 4, 1, [⟨31, 0, .rc, 0x0⟩]⟩
  , ⟨0x058, 4, 1, [⟨31, 0, .rc, 0x0⟩]⟩
  , ⟨0x05C, 4, 1, [⟨31, 0, .rc, 0x0⟩]⟩
  , ⟨0x060, 4, 1, [⟨31, 0, .rc, 0x0⟩]⟩
  , ⟨0x064, 4, 1, [⟨31, 0, .rc, 0x0⟩]⟩
  , ⟨0x068, 4, 1, [⟨31, 0, .rc, 0x0⟩]⟩
  , ⟨0x06C, 4, 1, [⟨31, 0, .rc, 0x0⟩]⟩
  , ⟨0x070, 4, 1, [⟨31, 0, .rc, 0x0⟩]⟩
  , ⟨0x078, 4, 1, [⟨31, 0, .ro, 0x0⟩]⟩
  , ⟨0x07C, 4, 1, [⟨31, 0, .ro, 0x0⟩]⟩
  , ⟨0x100, 4, 1, [⟨31, 31, .ro, 0x0⟩, ⟨12, 8, .rw, 0x0⟩, ⟨4, 0, .rw, 0x0⟩]⟩
  , ⟨0x104, 4, 1, [⟨6, 4, .rw, 0x7⟩, ⟨3, 0, .rw, 0x0⟩]⟩
  , ⟨0x108, 4, 1, [⟨31, 16, .ro, 0x0⟩, ⟨15, 15, .ro, 0x0⟩, ⟨5, 0, .ro, 0x0⟩]⟩
  , ⟨0x10C, 4, 1, [⟨31, 0, .rw, 0x0⟩]⟩
  , ⟨0x110, 4, 1, [⟨31, 0, .rw, 0x0⟩]⟩
  ]

/-- Registers of the CRC page. -/
def regs_crc : List RegRow :=
  [ ⟨0x040, 4, 1, [⟨31, 30, .rwd, 0x0⟩, ⟨29, 29, .rwd, 0x0⟩, ⟨28, 28, .rwd, 0x0⟩, ⟨23, 16, .rwd, 0x0⟩, ⟨15, 0, .rwd, 0x0⟩]⟩
  , ⟨0x044, 4, 1, [⟨31, 0, .rwd, 0x4C11DB7⟩]⟩
  , ⟨0x048, 4, 1, [⟨31, 0, .rwd, 0xFFFFFFFF⟩]⟩
  , ⟨0x04C, 4, 1, [⟨31, 0, .rwd, 0xFFFFFFFF⟩]⟩
  , ⟨0x050, 4, 1, [⟨31, 31, .rwd, 0x1⟩, ⟨30, 30, .rwd, 0x1⟩, ⟨29, 29, .rwd, 0x0⟩, ⟨28, 27, .rwd, 0x0⟩, ⟨5, 0, .rwd, 0x20⟩]⟩
  , ⟨0x054, 4, 1, [⟨31, 0, .rw, 0x0⟩]⟩
  , ⟨0x058, 4, 1, [⟨31, 0, .ro, 0x0⟩]⟩
  , ⟨0x05C, 4, 1, [⟨31, 0, .rc, 0x0⟩]⟩
  , ⟨0x060, 4, 1, [⟨31, 0, .rc, 0x0⟩]⟩
  , ⟨0x064, 4, 1, [⟨31, 0, .rc, 0x0⟩]⟩
  , ⟨0x068, 4, 1, [⟨31, 0, .rc, 0x0⟩]⟩
  ]

/-- Registers of the FWC page. -/
def regs_fwc : List RegRow :=
  [ ⟨0x040, 4, 1, [⟨31, 24, .rw, 0xA⟩, ⟨15, 0, .rw, 0x64⟩]⟩
  , ⟨0x044, 4, 1, [⟨15, 0, .w1c, 0x0⟩]⟩
  , ⟨0x048, 4, 1, [⟨0, 0, .rw, 0x0⟩]⟩
  , ⟨0x04C, 4, 1, [⟨11, 0, .rw, 0x0⟩]⟩
  , ⟨0x050, 4, 1, [⟨23, 0, .rw, 0x0⟩]⟩
  , ⟨0x054, 4, 1, [⟨31, 0, .rc, 0x0⟩]⟩
  , ⟨0x058, 4, 1, [⟨31, 31, .w1c, 0x0⟩, ⟨30, 30, .ro, 0x0⟩, ⟨29, 25, .ro, 0x0⟩, ⟨24, 0, .ro, 0x0⟩]⟩
  , ⟨0x05C, 4, 1, [⟨7, 4, .rc, 0x0⟩, ⟨3, 0, .ro, 0x0⟩]⟩
  , ⟨0x060, 4, 1, [⟨23, 0, .rw, 0xFFFF6F⟩]⟩
  , ⟨0x100, 4, 19, [⟨31, 29, .ro, 0x0⟩, ⟨28, 26, .ro, 0x0⟩, ⟨25, 18, .ro, 0x0⟩, ⟨0, 0, .wp, 0x0⟩]⟩
  , ⟨0x180, 4, 19, [⟨31, 31, .rw, 0x1⟩, ⟨15, 0, .rw, 0x32⟩]⟩
  , ⟨0x200, 4, 19, [⟨1, 1, .wp, 0x0⟩, ⟨0, 0, .wp, 0x0⟩]⟩
  , ⟨0x400, 16, 32, [⟨25, 0, .rw, 0x0⟩]⟩
  , ⟨0x404, 16, 32, [⟨5, 0, .rw, 0x0⟩]⟩
  , ⟨0x408, 16, 32, [⟨23, 0, .rw, 0x0⟩]⟩
  , ⟨0x40C, 16, 32, [⟨23, 0, .rw, 0x0⟩]⟩
  ]

/-- Registers of the MEM page. -/
def regs_mem : List RegRow :=
  [ ⟨0x040, 4, 1, [⟨31, 30, .rwd, 0x0⟩, ⟨29, 28, .rwd, 0x2⟩, ⟨27, 26, .rwd, 0x3⟩, ⟨25, 25, .rwd, 0x0⟩, ⟨24, 24, .rwd, 0x0⟩]⟩
  , ⟨0x044, 4, 1, [⟨31, 28, .ro, 0x0⟩, ⟨27, 26, .ro, 0x0⟩, ⟨25, 23, .ro, 0x0⟩]⟩
  , ⟨0x048, 4, 1, [⟨31, 31, .ro, 0x0⟩, ⟨30, 26, .ro, 0x0⟩, ⟨25, 21, .ro, 0x0⟩]⟩
  , ⟨0x04C, 4, 1, [⟨22, 0, .ro, 0x0⟩]⟩
  , ⟨0x050, 4, 1, [⟨31, 24, .rwd, 0x12⟩, ⟨23, 16, .rwd, 0x9⟩, ⟨15, 8, .rwd, 0x2⟩]⟩
  , ⟨0x054, 4, 1, [⟨31, 24, .rwd, 0x0⟩, ⟨23, 16, .rwd, 0x0⟩, ⟨15, 8, .rwd, 0x0⟩, ⟨7, 0, .rwd, 0x0⟩]⟩
  , ⟨0x058, 4, 1, [⟨31, 24, .rwd, 0x0⟩, ⟨23, 16, .rwd, 0x0⟩, ⟨15, 8, .rwd, 0x0⟩]⟩
  , ⟨0x05C, 4, 1, [⟨15, 0, .rwd, 0x1021⟩]⟩
  , ⟨0x060, 4, 1, [⟨31, 24, .ro, 0x0⟩, ⟨23, 16, .ro, 0x0⟩]⟩
  , ⟨0x064, 4, 1, [⟨31, 0, .ro, 0x0⟩]⟩
  , ⟨0x068, 4, 1, [⟨22, 0, .rw, 0x0⟩]⟩
  , ⟨0x06C, 4, 1, [⟨31, 31, .wp, 0x0⟩, ⟨30, 30, .ro, 0x0⟩, ⟨22, 0, .rw, 0x0⟩]⟩
  , ⟨0x070, 4, 1, [⟨31, 31, .w1c, 0x0⟩, ⟨30, 30, .ro, 0x0⟩, ⟨22, 0, .ro, 0x0⟩]⟩
  , ⟨0x074, 4, 1, [⟨31, 0, .rc, 0x0⟩]⟩
  , ⟨0x078, 4, 1, [⟨31, 0, .rc, 0x0⟩]⟩
  , ⟨0x07C, 4, 1, [⟨31, 0, .rc, 0x0⟩]⟩
  , ⟨0x080, 4, 1, [⟨31, 0, .rc, 0x0⟩]⟩
  ]

/-- Registers of the CLU page, part 1. -/
def regs_clu0 : List RegRow :=
  [ ⟨0x600, 32, 4, [⟨31, 31, .rw, 0x0⟩, ⟨17, 16, .rw, 0x0⟩, ⟨13, 8, .rw, 0x0⟩, ⟨3, 0, .rw, 0x0⟩]⟩
  , ⟨0x604, 32, 4, [⟨31, 0, .ro, 0x0⟩]⟩
  , ⟨0x608, 32, 4, [⟨31, 31, .ro, 0x0⟩, ⟨15, 0, .ro, 0x0⟩]⟩
  , ⟨0x60C, 32, 4, [⟨31, 0, .ro, 0x0⟩]⟩
  , ⟨0x610, 32, 4, [⟨14, 0, .ro, 0x0⟩]⟩
  , ⟨0x200, 4, 1, [⟨30, 0, .rwd, 0x8000000⟩]⟩
  , ⟨0x204, 4, 1, [⟨31, 16, .rw, 0x1F4⟩, ⟨7, 0, .rwd, 0x80⟩]⟩
  , ⟨0x208, 4, 1, [⟨31, 31, .rwd, 0x0⟩, ⟨14, 12, .rwd, 0x0⟩, ⟨10, 8, .rwd, 0x0⟩, ⟨5, 0, .rwd, 0x0⟩]⟩
  , ⟨0x20C, 4, 1, [⟨1, 1, .ro, 0x0⟩, ⟨0, 0, .wp, 0x0⟩]⟩
  , ⟨0x210, 4, 1, [⟨31, 0, .rc, 0x0⟩]⟩
  , ⟨0x214, 4, 1, [⟨31, 0, .rc, 0x0⟩]⟩
  , ⟨0x218, 4, 1, [⟨31, 0, .rc, 0x0⟩]⟩
  , ⟨0x21C, 4, 1, [⟨31, 0, .rc, 0x0⟩]⟩
  , ⟨0x220, 4, 1, [⟨31, 0, .rc, 0x0⟩]⟩
  , ⟨0x224, 4, 1, [⟨31, 0, .rc, 0x0⟩]⟩
  , ⟨0x228, 4, 1, [⟨15, 0, .rc, 0x0⟩]⟩
  , ⟨0x22C, 4, 1, [⟨7, 0, .ro, 0x0⟩]⟩
  , ⟨0x230, 4, 1, [⟨31, 31, .rw, 0x0⟩, ⟨23, 16, .rw, 0x2⟩, ⟨15, 0, .rw, 0x40⟩]⟩
  , ⟨0x234, 4, 1, [⟨31, 16, .rc, 0x0⟩, ⟨15, 0, .rc, 0x0⟩]⟩
  , ⟨0x280, 4, 1, [⟨31, 31, .w1c, 0x0⟩, ⟨30, 28, .ro, 0x0⟩, ⟨27, 22, .ro, 0x0⟩, ⟨21, 18, .ro, 0x0⟩, ⟨12, 0, .ro, 0x0⟩]⟩
  , ⟨0x284, 4, 1, [⟨31, 0, .rc, 0x0⟩]⟩
  , ⟨0x2A0, 4, 1, [⟨31, 31, .rw, 0x0⟩]⟩
  , ⟨0x2A4, 4, 1, [⟨31, 31, .rw, 0x0⟩, ⟨29, 24, .rw, 0x0⟩, ⟨21, 16, .rw, 0x1⟩, ⟨15, 0, .rw, 0x1⟩]⟩
  , ⟨0x2A8, 4, 1, [⟨31, 16, .rc, 0x0⟩, ⟨15, 0, .rc, 0x0⟩]⟩
  ]

/-- Registers of the CLU page, part 2. -/
def regs_clu1 : List RegRow :=
  [ ⟨0x300, 4, 1, [⟨15, 8, .rw, 0xA⟩, ⟨7, 0, .rw, 0x40⟩]⟩
  , ⟨0x304, 4, 1, [⟨7, 0, .ro, 0x0⟩]⟩
  , ⟨0x308, 4, 1, [⟨31, 0, .rc, 0x0⟩]⟩
  , ⟨0x30C, 4, 1, [⟨31, 31, .w1c, 0x0⟩, ⟨30, 28, .ro, 0x0⟩, ⟨27, 24, .ro, 0x0⟩, ⟨14, 0, .ro, 0x0⟩]⟩
  , ⟨0x310, 4, 1, [⟨31, 0, .rc, 0x0⟩]⟩
  , ⟨0x314, 4, 1, [⟨31, 31, .rw, 0x1⟩, ⟨15, 0, .rw, 0x3E8⟩]⟩
  , ⟨0x318, 4, 1, [⟨31, 16, .ro, 0x0⟩, ⟨15, 12, .ro, 0x0⟩, ⟨8, 0, .ro, 0x0⟩]⟩
  , ⟨0x31C, 4, 1, [⟨15, 0, .rwd, 0x0⟩]⟩
  , ⟨0x320, 4, 1, [⟨31, 0, .rwd, 0x0⟩]⟩
  , ⟨0x324, 4, 1, [⟨31, 0, .rwd, 0x0⟩]⟩
  , ⟨0x328, 4, 1, [⟨31, 31, .rw, 0x0⟩, ⟨30, 30, .ro, 0x0⟩, ⟨29, 29, .ro, 0x0⟩, ⟨11, 8, .rw, 0x0⟩, ⟨7, 7, .rw, 0x0⟩, ⟨5, 0, .rw, 0x0⟩]⟩
  , ⟨0x400, 4, 1, [⟨31, 24, .rw, 0xA⟩, ⟨15, 0, .rw, 0x64⟩]⟩
  , ⟨0x404, 4, 1, [⟨31, 30, .rw, 0x0⟩, ⟨29, 20, .rw, 0x0⟩, ⟨19, 10, .rw, 0x0⟩, ⟨9, 9, .rw, 0x0⟩, ⟨3, 0, .rw, 0x0⟩]⟩
  , ⟨0x408, 4, 1, [⟨31, 30, .wo, 0x0⟩, ⟨29, 24, .wo, 0x0⟩, ⟨15, 0, .wo, 0x0⟩]⟩
  , ⟨0x40C, 4, 1, [⟨31, 16, .ro, 0x0⟩, ⟨15, 0, .ro, 0x0⟩]⟩
  , ⟨0x410, 4, 1, [⟨10, 8, .rw, 0x0⟩, ⟨6, 0, .rw, 0x0⟩]⟩
  , ⟨0x414, 4, 1, [⟨31, 31, .ro, 0x0⟩, ⟨30, 25, .ro, 0x0⟩, ⟨24, 19, .ro, 0x0⟩, ⟨18, 17, .ro, 0x0⟩, ⟨16, 16, .ro, 0x0⟩, ⟨15, 0, .ro, 0x0⟩]⟩
  , ⟨0x418, 4, 1, [⟨31, 0, .ro, 0x0⟩]⟩
  , ⟨0x41C, 4, 1, [⟨7, 0, .ro, 0x1⟩]⟩
  , ⟨0x420, 4, 1, [⟨31, 0, .rc, 0x0⟩]⟩
  , ⟨0x424, 4, 1, [⟨31, 0, .rc, 0x0⟩]⟩
  , ⟨0x428, 4, 1, [⟨31, 0, .rc, 0x0⟩]⟩
  , ⟨0x42C, 4, 1, [⟨31, 0, .rc, 0x0⟩]⟩
  , ⟨0x430, 4, 1, [⟨31, 24, .ro, 0x80⟩, ⟨11, 0, .ro, 0x800⟩]⟩
  ]

/-- Registers of the CLU page, part 3. -/
def regs_clu2 : List RegRow :=
  [ ⟨0x434, 4, 1, [⟨31, 0, .rc, 0x0⟩]⟩
  , ⟨0x440, 16, 4, [⟨31, 31, .rw, 0x0⟩, ⟨30, 30, .rw, 0x0⟩, ⟨29, 29, .rw, 0x0⟩, ⟨0, 0, .ro, 0x0⟩]⟩
  , ⟨0x444, 16, 4, [⟨31, 0, .rw, 0x0⟩]⟩
  , ⟨0x448, 16, 4, [⟨31, 0, .rw, 0x0⟩]⟩
  , ⟨0x44C, 16, 4, [⟨31, 16, .ro, 0x3⟩, ⟨15, 0, .ro, 0x0⟩]⟩
  ]

/-- Registers of the CLU page. -/
def regs_clu : List RegRow := regs_clu0 ++ regs_clu1 ++ regs_clu2

/-- Registers of the MTR page. -/
def regs_mtr : List RegRow :=
  [ ⟨0x040, 4, 1, [⟨3, 3, .ro, 0x0⟩, ⟨2, 2, .ro, 0x0⟩, ⟨1, 1, .ro, 0x0⟩, ⟨0, 0, .ro, 0x0⟩]⟩
  , ⟨0x044, 4, 1, [⟨21, 21, .rw, 0x0⟩, ⟨20, 20, .rw, 0x0⟩, ⟨19, 19, .rw, 0x0⟩, ⟨18, 18, .rw, 0x0⟩, ⟨17, 17, .rw, 0x0⟩, ⟨16, 16, .rw, 0x0⟩, ⟨15, 0, .rw, 0x0⟩]⟩
  , ⟨0x048, 4, 1, [⟨15, 0, .rw, 0x0⟩]⟩
  , ⟨0x04C, 4, 1, [⟨1, 1, .ro, 0x0⟩, ⟨0, 0, .ro, 0x0⟩]⟩
  , ⟨0x050, 4, 1, [⟨31, 0, .ro, 0x0⟩]⟩
  , ⟨0x054, 4, 1, [⟨31, 0, .ro, 0x0⟩]⟩
  , ⟨0x058, 4, 1, [⟨31, 0, .ro, 0x0⟩]⟩
  , ⟨0x05C, 4, 1, [⟨31, 0, .ro, 0x0⟩]⟩
  , ⟨0x060, 4, 1, [⟨31, 0, .rc, 0x0⟩]⟩
  , ⟨0x064, 4, 1, [⟨31, 0, .rc, 0x0⟩]⟩
  , ⟨0x068, 4, 1, [⟨31, 0, .rc, 0x0⟩]⟩
  ]

/-- Registers of the TILE page, part 1. -/
def regs_tile0 : List RegRow :=
  [ ⟨0x400, 4, 16, [⟨12, 8, .rwd, 0x0⟩, ⟨7, 0, .rwd, 0x1⟩]⟩
  , ⟨0x440, 4, 16, [⟨12, 8, .rwd, 0x0⟩, ⟨7, 0, .rwd, 0x1⟩]⟩
  , ⟨0x480, 4, 1, [⟨31, 16, .rwd, 0x0⟩, ⟨14, 6, .rwd, 0x0⟩]⟩
  , ⟨0x484, 4, 1, [⟨31, 0, .rwd, 0x80000000⟩]⟩
  , ⟨0x488, 4, 1, [⟨31, 0, .rc, 0x0⟩]⟩
  , ⟨0x48C, 4, 1, [⟨31, 0, .rc, 0x0⟩]⟩
  , ⟨0x490, 4, 1, [⟨15, 0, .wp, 0x0⟩]⟩
  , ⟨0x494, 4, 1, [⟨31, 0, .ro, 0x0⟩]⟩
  , ⟨0x500, 8, 16, [⟨31, 0, .ro, 0x0⟩]⟩
  , ⟨0x504, 8, 16, [⟨31, 0, .ro, 0x0⟩]⟩
  , ⟨0x040, 4, 1, [⟨18, 18, .ro, 0x0⟩, ⟨17, 14, .ro, 0x0⟩, ⟨9, 0, .ro, 0x0⟩]⟩
  , ⟨0x044, 4, 1, [⟨10, 8, .ro, 0x4⟩, ⟨7, 0, .ro, 0x0⟩]⟩
  , ⟨0x048, 4, 1, [⟨31, 29, .rwd, 0x0⟩, ⟨28, 12, .rwd, 0x0⟩, ⟨11, 0, .rwd, 0x0⟩]⟩
  , ⟨0x04C, 4, 1, [⟨31, 31, .rwd, 0x1⟩, ⟨5, 0, .rwd, 0x2F⟩]⟩
  , ⟨0x050, 4, 1, [⟨31, 24, .rc, 0x0⟩, ⟨19, 16, .ro, 0x0⟩, ⟨15, 8, .ro, 0x0⟩, ⟨7, 0, .ro, 0x0⟩]⟩
  , ⟨0x060, 4, 1, [⟨31, 0, .rc, 0x0⟩]⟩
  , ⟨0x064, 4, 1, [⟨31, 0, .rc, 0x0⟩]⟩
  , ⟨0x068, 4, 1, [⟨31, 0, .rc, 0x0⟩]⟩
  , ⟨0x06C, 4, 1, [⟨31, 0, .rc, 0x0⟩]⟩
  , ⟨0x070, 4, 1, [⟨31, 0, .rc, 0x0⟩]⟩
  , ⟨0x074, 4, 1, [⟨31, 0, .rc, 0x0⟩]⟩
  , ⟨0x078, 4, 1, [⟨31, 0, .rc, 0x0⟩]⟩
  , ⟨0x07C, 4, 1, [⟨31, 0, .rc, 0x0⟩]⟩
  , ⟨0x080, 4, 1, [⟨31, 0, .rc, 0x0⟩]⟩
  ]

/-- Registers of the TILE page, part 2. -/
def regs_tile1 : List RegRow :=
  [ ⟨0x084, 4, 1, [⟨31, 0, .rc, 0x0⟩]⟩
  , ⟨0x088, 4, 1, [⟨31, 0, .rc, 0x0⟩]⟩
  , ⟨0x08C, 4, 1, [⟨31, 0, .rc, 0x0⟩]⟩
  , ⟨0x090, 4, 1, [⟨31, 0, .rc, 0x0⟩]⟩
  , ⟨0x094, 4, 1, [⟨31, 0, .rc, 0x0⟩]⟩
  , ⟨0x098, 4, 1, [⟨31, 0, .rc, 0x0⟩]⟩
  , ⟨0x09C, 4, 1, [⟨31, 0, .rc, 0x0⟩]⟩
  , ⟨0x0A0, 4, 1, [⟨31, 0, .rc, 0x0⟩]⟩
  , ⟨0x180, 4, 16, [⟨31, 31, .rwd, 0x0⟩, ⟨30, 30, .rwd, 0x0⟩, ⟨29, 26, .rwd, 0x0⟩, ⟨14, 0, .rwd, 0x100⟩]⟩
  , ⟨0x1C0, 4, 16, [⟨31, 31, .rwd, 0x0⟩, ⟨4, 0, .rwd, 0x0⟩]⟩
  , ⟨0x054, 4, 1, [⟨31, 0, .rwd, 0x0⟩]⟩
  , ⟨0x058, 4, 1, [⟨31, 0, .rwd, 0x0⟩]⟩
  , ⟨0x380, 8, 8, [⟨31, 28, .rwd, 0x0⟩, ⟨27, 24, .rwd, 0x0⟩, ⟨23, 20, .rwd, 0x0⟩, ⟨18, 16, .rwd, 0x1⟩, ⟨14, 12, .rwd, 0x1⟩, ⟨11, 10, .rwd, 0x0⟩, ⟨9, 8, .rwd, 0x0⟩]⟩
  , ⟨0x384, 8, 8, [⟨13, 7, .rwd, 0x1⟩, ⟨6, 0, .rwd, 0x1⟩]⟩
  , ⟨0x3C0, 4, 1, [⟨31, 31, .rwd, 0x0⟩, ⟨18, 16, .rwd, 0x0⟩, ⟨14, 0, .rwd, 0x0⟩]⟩
  , ⟨0x3C4, 4, 4, [⟨31, 24, .rc, 0x0⟩, ⟨23, 16, .rc, 0x0⟩, ⟨15, 8, .rc, 0x0⟩, ⟨7, 0, .rc, 0x0⟩]⟩
  , ⟨0x3D4, 4, 1, [⟨31, 0, .rc, 0x0⟩]⟩
  , ⟨0x100, 8, 16, [⟨31, 31, .rwd, 0x0⟩, ⟨30, 30, .rwd, 0x0⟩, ⟨29, 15, .rwd, 0x0⟩, ⟨13, 0, .rwd, 0x0⟩]⟩
  , ⟨0x104, 8, 16, [⟨31, 31, .ro, 0x0⟩, ⟨30, 28, .ro, 0x0⟩, ⟨27, 27, .rwd, 0x1⟩, ⟨26, 24, .rwd, 0x2⟩, ⟨23, 13, .rwd, 0x0⟩, ⟨12, 0, .rwd, 0x0⟩]⟩
  , ⟨0x200, 4, 1, [⟨31, 0, .ro, 0x0⟩]⟩
  , ⟨0x204, 4, 1, [⟨31, 0, .ro, 0x0⟩]⟩
  , ⟨0x208, 4, 1, [⟨31, 0, .ro, 0x0⟩]⟩
  , ⟨0x20C, 4, 1, [⟨31, 0, .ro, 0x0⟩]⟩
  , ⟨0x210, 4, 1, [⟨31, 31, .ro, 0x0⟩, ⟨30, 30, .ro, 0x0⟩, ⟨29, 29, .ro, 0x0⟩, ⟨28, 28, .ro, 0x1⟩, ⟨7, 0, .ro, 0x0⟩]⟩
  ]

/-- Registers of the TILE page, part 3. -/
def regs_tile2 : List RegRow :=
  [ ⟨0x214, 4, 1, [⟨31, 0, .rc, 0x0⟩]⟩
  , ⟨0x280, 4, 1, [⟨31, 29, .rwd, 0x0⟩, ⟨28, 15, .rwd, 0x0⟩, ⟨14, 0, .rwd, 0x0⟩]⟩
  , ⟨0x284, 4, 1, [⟨17, 16, .rwd, 0x0⟩, ⟨11, 0, .rwd, 0x0⟩]⟩
  , ⟨0x288, 4, 1, [⟨31, 24, .rwd, 0x0⟩, ⟨23, 16, .rwd, 0x0⟩, ⟨15, 12, .rwd, 0x8⟩, ⟨10, 8, .rwd, 0x0⟩]⟩
  , ⟨0x28C, 4, 1, [⟨31, 16, .rwd, 0x0⟩, ⟨15, 8, .rwd, 0x10⟩, ⟨7, 0, .rwd, 0x10⟩]⟩
  , ⟨0x290, 4, 4, [⟨31, 24, .rwd, 0x0⟩, ⟨23, 16, .rwd, 0x0⟩, ⟨15, 8, .rwd, 0x0⟩, ⟨7, 0, .rwd, 0x0⟩]⟩
  , ⟨0x2A0, 4, 1, [⟨31, 0, .rw, 0x0⟩]⟩
  , ⟨0x2A4, 4, 1, [⟨31, 0, .rw, 0x0⟩]⟩
  , ⟨0x2A8, 4, 1, [⟨31, 31, .rwd, 0x0⟩, ⟨15, 0, .rwd, 0x0⟩]⟩
  , ⟨0x2AC, 4, 1, [⟨31, 16, .rwd, 0x1⟩, ⟨15, 0, .rwd, 0x0⟩]⟩
  , ⟨0x2B0, 4, 1, [⟨31, 16, .rwd, 0x0⟩, ⟨15, 15, .rwd, 0x1⟩, ⟨14, 14, .rwd, 0x0⟩, ⟨13, 10, .rwd, 0x8⟩, ⟨9, 0, .rwd, 0x42⟩]⟩
  , ⟨0x2B4, 4, 1, [⟨31, 31, .rw, 0x0⟩, ⟨9, 0, .rw, 0x0⟩]⟩
  , ⟨0x2B8, 4, 1, [⟨31, 0, .rwd, 0xFFFF⟩]⟩
  , ⟨0x2BC, 4, 1, [⟨4, 0, .rw, 0x0⟩]⟩
  , ⟨0x2C0, 4, 1, [⟨31, 0, .rc, 0x0⟩]⟩
  , ⟨0x2C4, 4, 1, [⟨31, 31, .ro, 0x0⟩, ⟨30, 30, .ro, 0x0⟩, ⟨29, 29, .ro, 0x0⟩, ⟨28, 28, .ro, 0x0⟩, ⟨23, 0, .ro, 0x0⟩]⟩
  , ⟨0x2C8, 4, 1, [⟨31, 0, .rc, 0x0⟩]⟩
  , ⟨0x2CC, 4, 1, [⟨31, 0, .rc, 0x0⟩]⟩
  , ⟨0x2D0, 4, 1, [⟨31, 0, .rc, 0x0⟩]⟩
  , ⟨0x2D4, 4, 1, [⟨31, 0, .rc, 0x0⟩]⟩
  , ⟨0x2D8, 4, 1, [⟨31, 0, .rc, 0x0⟩]⟩
  , ⟨0x300, 4, 1, [⟨31, 31, .rw, 0x1⟩, ⟨23, 16, .rw, 0x14⟩, ⟨15, 0, .rw, 0x3E8⟩]⟩
  , ⟨0x304, 4, 1, [⟨31, 31, .rwd, 0x0⟩, ⟨21, 0, .rwd, 0x0⟩]⟩
  , ⟨0x308, 4, 1, [⟨24, 16, .rwd, 0x0⟩, ⟨8, 0, .rwd, 0x0⟩]⟩
  ]

/-- Registers of the TILE page, part 4. -/
def regs_tile3 : List RegRow :=
  [ ⟨0x30C, 4, 1, [⟨31, 31, .ro, 0x0⟩, ⟨30, 30, .wp, 0x0⟩, ⟨29, 29, .wp, 0x0⟩, ⟨28, 28, .ro, 0x0⟩, ⟨14, 0, .ro, 0x0⟩]⟩
  , ⟨0x310, 4, 1, [⟨31, 31, .rc, 0x0⟩, ⟨30, 28, .rc, 0x0⟩, ⟨27, 26, .rc, 0x0⟩, ⟨25, 23, .rc, 0x0⟩, ⟨22, 15, .rc, 0x0⟩, ⟨14, 0, .rc, 0x0⟩]⟩
  , ⟨0x314, 4, 1, [⟨31, 0, .ro, 0x0⟩]⟩
  , ⟨0x318, 4, 1, [⟨31, 0, .rc, 0x0⟩]⟩
  , ⟨0x31C, 4, 1, [⟨31, 0, .rc, 0x0⟩]⟩
  , ⟨0x320, 4, 1, [⟨31, 0, .rc, 0x0⟩]⟩
  , ⟨0x324, 4, 1, [⟨31, 0, .rc, 0x0⟩]⟩
  , ⟨0x328, 4, 8, [⟨31, 31, .rwd, 0x0⟩, ⟨30, 29, .rwd, 0x0⟩, ⟨13, 8, .rwd, 0x0⟩, ⟨5, 0, .rwd, 0x0⟩]⟩
  , ⟨0x348, 4, 8, [⟨31, 0, .ro, 0x0⟩]⟩
  , ⟨0x368, 4, 1, [⟨7, 0, .rwd, 0x0⟩]⟩
  , ⟨0x36C, 4, 1, [⟨31, 16, .ro, 0x0⟩, ⟨15, 14, .ro, 0x0⟩, ⟨13, 8, .ro, 0x0⟩, ⟨5, 0, .ro, 0x0⟩]⟩
  ]

/-- Registers of the TILE page. -/
def regs_tile : List RegRow := regs_tile0 ++ regs_tile1 ++ regs_tile2 ++ regs_tile3

/-- Registers of the RT page. -/
def regs_rt : List RegRow :=
  [ ⟨0x040, 4, 1, [⟨31, 24, .ro, 0x0⟩, ⟨18, 18, .ro, 0x0⟩, ⟨17, 14, .ro, 0x0⟩, ⟨9, 0, .ro, 0x0⟩]⟩
  , ⟨0x044, 4, 1, [⟨31, 31, .rwd, 0x1⟩, ⟨30, 30, .rwd, 0x1⟩, ⟨23, 16, .rwd, 0x10⟩]⟩
  , ⟨0x048, 4, 1, [⟨31, 31, .rwd, 0x0⟩, ⟨15, 0, .rwd, 0x0⟩]⟩
  , ⟨0x04C, 4, 1, [⟨31, 31, .ro, 0x0⟩, ⟨30, 29, .ro, 0x0⟩, ⟨4, 0, .ro, 0x0⟩]⟩
  , ⟨0x050, 4, 1, [⟨31, 24, .ro, 0x0⟩, ⟨23, 16, .ro, 0x0⟩, ⟨15, 8, .ro, 0x0⟩, ⟨7, 0, .ro, 0x0⟩]⟩
  , ⟨0x054, 4, 1, [⟨7, 0, .ro, 0x0⟩]⟩
  , ⟨0x058, 4, 1, [⟨31, 0, .ro, 0x0⟩]⟩
  , ⟨0x05C, 4, 1, [⟨31, 0, .ro, 0x0⟩]⟩
  , ⟨0x060, 4, 1, [⟨31, 0, .ro, 0x0⟩]⟩
  , ⟨0x064, 4, 1, [⟨31, 0, .ro, 0x0⟩]⟩
  , ⟨0x068, 4, 1, [⟨31, 0, .rc, 0x0⟩]⟩
  , ⟨0x06C, 4, 1, [⟨31, 0, .rc, 0x0⟩]⟩
  , ⟨0x070, 4, 1, [⟨31, 0, .rc, 0x0⟩]⟩
  , ⟨0x074, 4, 1, [⟨31, 0, .rc, 0x0⟩]⟩
  , ⟨0x078, 4, 1, [⟨31, 0, .rc, 0x0⟩]⟩
  ]

/-- The block registers of a page, header excluded (R565). -/
def Block.regs : Block → List RegRow
  | .sys => regs_sys
  | .boot => regs_boot
  | .pwr => regs_pwr
  | .clk => regs_clk
  | .tmr => regs_tmr
  | .sec => regs_sec
  | .recd => regs_rec
  | .host => regs_host
  | .csi => regs_csi
  | .aer => regs_aer
  | .t1s => regs_t1s
  | .gpio => regs_gpio
  | .spi => regs_spi
  | .kiln => regs_kiln
  | .tie => regs_tie
  | .crc => regs_crc
  | .fwc => regs_fwc
  | .mem => regs_mem
  | .clu => regs_clu
  | .mtr => regs_mtr
  | .tile => regs_tile
  | .rt => regs_rt

/-- The block and instance whose page holds local address `a` (R563: none where no page is mapped). -/
def pageOf (a : Nat) : Option (Block × Nat) :=
  if a < 0x4000000 then
    (Block.all.find? fun b => b.info.base ≤ a && a < b.info.base + 0x1000 * b.info.pages).map
      fun b => (b, (a - b.info.base) / 0x1000)
  else none

/-- The decoded byte offset of an access at byte offset `o` of a page of block `b` (R566). -/
def Block.decodeOff (b : Block) (o : Nat) : Nat := 4 * ((o / 4) % 2 ^ b.info.decode)

/-- The local address of the register that an access at `a` reaches, all aliases of it mapped to one (R566). -/
def canonAddr (a : Nat) : Nat :=
  match pageOf a with
  | some (b, i) => b.base i + b.decodeOff (a % 0x1000)
  | none => a

/-- Row of the register at decoded offset `o`, if the row covers it. -/
def RegRow.covers (r : RegRow) (o : Nat) : Bool :=
  decide (r.off ≤ o) && (o - r.off) % r.stride == 0 && decide ((o - r.off) / r.stride < r.count)

/-- The header registers of a page of block `b` that hold state (R564). STATUS and PAGE_ID are read as views. -/
def headerRegs (b : Block) : List RegRow :=
  [ ⟨0x004, 4, 1, [⟨3, 0, .ro, b.info.decode⟩]⟩
  , ⟨0x008, 4, 1, [⟨1, 1, .wp, 0⟩, ⟨0, 0, if b.info.enFixed then .ro else .rw, b.info.en⟩]⟩
  , ⟨0x00C, 4, 1, [⟨3, 3, .ro, 0⟩, ⟨1, 1, .ro, 0⟩]⟩
  , ⟨0x010, 4, 1, [⟨31, 0, .w1c, 0⟩]⟩
  , ⟨0x014, 4, 1, [⟨31, 0, .rw, 0⟩]⟩
  , ⟨0x018, 4, 1, [⟨31, 0, .wp, 0⟩]⟩
  , ⟨0x01C, 4, 1, [⟨31, 16, .rc, 0⟩, ⟨15, 0, .rc, 0⟩]⟩
  , ⟨0x020, 4, 1, [⟨31, 0, if b.info.drain = 0 then .ro else .rw, b.info.drain⟩]⟩
  , ⟨0x024, 4, 1, [⟨31, 0, .rc, 0⟩]⟩ ]

/-- The fields of the register at decoded offset `o` of a page of block `b`; none is a reserved word (R565). -/
def Block.fieldsAt (b : Block) (o : Nat) : List FieldRow :=
  match ((if o < 0x40 then headerRegs b else b.regs).find? fun r => r.covers o) with
  | some r => r.fields
  | none => []

/-- The word a list of fields resets to. -/
def fieldsReset : List FieldRow → Nat
  | [] => 0
  | f :: fs => f.rst * 2 ^ f.lo + fieldsReset fs

/-- The firewall windows' resets (R455): word `k` (BASE, SIZE, WMASK, RMASK) of window `w`. -/
def fwWindowReset (w k : Nat) : Nat :=
  let row : Nat × Nat × Nat × Nat :=
    match w with
    | 0 => (0x300000, 24, 0x1, 0x1)
    | 1 => (0x301000, 24, 0x8F, 0xAF)
    | 2 => (0x302000, 24, 0x5, 0x2D)
    | 3 => (0x303000, 24, 0x3, 0x2B)
    | w => if w < 20 then (0x200000 + (w - 4) * 0x400, 19, 5 + 2 ^ (w + 4), 0) else (0, 0, 0, 0)
  match k with
  | 0 => row.1
  | 1 => row.2.1
  | 2 => row.2.2.1
  | _ => row.2.2.2

/-- The reset value of the register at local address `a`, the decoded address of a page register (R564, R569 and the
block chapters). TILE_LFSR resets to 0x8000_0000 plus the tile's ID (R67). The values that come from a strap, a fuse or the
boot record read 0 until bring-up has sampled them. -/
def regReset (a : Nat) : BitVec 32 :=
  match pageOf a with
  | some (.tile, t) =>
    if a % 0x1000 = 0x484 then BitVec.ofNat 32 (0x80000000 + t)
    else BitVec.ofNat 32 (fieldsReset (Block.fieldsAt .tile (a % 0x1000)))
  | some (.fwc, _) =>
    if 0x400 ≤ a % 0x1000 ∧ a % 0x1000 < 0x600 then BitVec.ofNat 32 (fwWindowReset ((a % 0x1000 - 0x400) / 16) (a / 4 % 4))
    else BitVec.ofNat 32 (fieldsReset (Block.fieldsAt .fwc (a % 0x1000)))
  | some (b, _) => BitVec.ofNat 32 (fieldsReset (b.fieldsAt (a % 0x1000)))
  | none => 0

/-! Fields of the common header (R564), for the page of block `b`, instance `i`. -/
def PAGE_EN (b : Block) (i : Nat) : Loc := ⟨b.base i + 0x008, 0, 0⟩
def PAGE_FAULT (b : Block) (i : Nat) : Loc := ⟨b.base i + 0x00C, 3, 3⟩
def PAGE_DRAINING (b : Block) (i : Nat) : Loc := ⟨b.base i + 0x00C, 1, 1⟩
def INT_STATUS (b : Block) (i : Nat) : Loc := ⟨b.base i + 0x010, 31, 0⟩
def INT_ENABLE (b : Block) (i : Nat) : Loc := ⟨b.base i + 0x014, 31, 0⟩
def CFG_REJECT_OFFSET (b : Block) (i : Nat) : Loc := ⟨b.base i + 0x01C, 31, 16⟩
def CFG_REJECT_COUNT (b : Block) (i : Nat) : Loc := ⟨b.base i + 0x01C, 15, 0⟩
def DRAIN_TIMEOUT (b : Block) (i : Nat) : Loc := ⟨b.base i + 0x020, 31, 0⟩
def DISCARD_COUNT (b : Block) (i : Nat) : Loc := ⟨b.base i + 0x024, 31, 0⟩


/-! Fields of the SYS registers. -/
def SYS_PART_ID : Loc := ⟨Block.sys.base 0 + (0x040), 31, 0⟩
def SYS_PART_ID_PART : Loc := ⟨Block.sys.base 0 + (0x040), 31, 16⟩
def SYS_PART_ID_STEPPING : Loc := ⟨Block.sys.base 0 + (0x040), 15, 8⟩
def SYS_GRADE : Loc := ⟨Block.sys.base 0 + (0x044), 31, 0⟩
def SYS_GRADE_GRADE : Loc := ⟨Block.sys.base 0 + (0x044), 23, 16⟩
def SYS_GRADE_GOOD_TILES : Loc := ⟨Block.sys.base 0 + (0x044), 10, 0⟩
def SYS_CHIP_ID : Loc := ⟨Block.sys.base 0 + (0x048), 31, 0⟩
def SYS_CHIP_ID_ASSIGNED : Loc := ⟨Block.sys.base 0 + (0x048), 31, 31⟩
def SYS_CHIP_ID_MANAGER : Loc := ⟨Block.sys.base 0 + (0x048), 11, 11⟩
def SYS_CHIP_ID_CHIP_ID : Loc := ⟨Block.sys.base 0 + (0x048), 9, 0⟩
def SYS_RESET : Loc := ⟨Block.sys.base 0 + (0x04C), 31, 0⟩
def SYS_RESET_KEY : Loc := ⟨Block.sys.base 0 + (0x04C), 31, 16⟩
def SYS_RESET_GO : Loc := ⟨Block.sys.base 0 + (0x04C), 0, 0⟩
def SYS_TILEMAP (n : Nat) : Loc := ⟨Block.sys.base 0 + (0x080 + 4 * n), 31, 0⟩

/-! Fields of the TILE registers. -/
def TILE_RSC_OUT (i n : Nat) : Loc := ⟨Block.tile.base i + (0x400 + 4 * n), 31, 0⟩
def TILE_RSC_OUT_S (i n : Nat) : Loc := ⟨Block.tile.base i + (0x400 + 4 * n), 12, 8⟩
def TILE_RSC_OUT_M (i n : Nat) : Loc := ⟨Block.tile.base i + (0x400 + 4 * n), 7, 0⟩
def TILE_RSC_PSUM (i n : Nat) : Loc := ⟨Block.tile.base i + (0x440 + 4 * n), 31, 0⟩
def TILE_RSC_PSUM_S (i n : Nat) : Loc := ⟨Block.tile.base i + (0x440 + 4 * n), 12, 8⟩
def TILE_RSC_PSUM_M (i n : Nat) : Loc := ⟨Block.tile.base i + (0x440 + 4 * n), 7, 0⟩
def TILE_RSC_TBL (i : Nat) : Loc := ⟨Block.tile.base i + (0x480), 31, 0⟩
def TILE_RSC_TBL_TBL_MODE (i : Nat) : Loc := ⟨Block.tile.base i + (0x480), 31, 16⟩
def TILE_RSC_TBL_BASE (i : Nat) : Loc := ⟨Block.tile.base i + (0x480), 14, 6⟩
def TILE_LFSR (i : Nat) : Loc := ⟨Block.tile.base i + (0x484), 31, 0⟩
def TILE_ACC_REFUSED (i : Nat) : Loc := ⟨Block.tile.base i + (0x488), 31, 0⟩
def TILE_MEM_SAT (i : Nat) : Loc := ⟨Block.tile.base i + (0x48C), 31, 0⟩
def TILE_STAT_CLR (i : Nat) : Loc := ⟨Block.tile.base i + (0x490), 31, 0⟩
def TILE_STAT_CLR_CLR (i : Nat) : Loc := ⟨Block.tile.base i + (0x490), 15, 0⟩
def TILE_CLIP_SNAP (i : Nat) : Loc := ⟨Block.tile.base i + (0x494), 31, 0⟩
def TILE_CONV (i n : Nat) : Loc := ⟨Block.tile.base i + (0x500 + 8 * n), 31, 0⟩
def TILE_CLIP (i n : Nat) : Loc := ⟨Block.tile.base i + (0x504 + 8 * n), 31, 0⟩

/-! Fields of the CLU registers. -/
def CLU_MSE_CFG (i n : Nat) : Loc := ⟨Block.clu.base i + (0x600 + 32 * n), 31, 0⟩
def CLU_MSE_CFG_ARM (i n : Nat) : Loc := ⟨Block.clu.base i + (0x600 + 32 * n), 31, 31⟩
def CLU_MSE_CFG_SITE (i n : Nat) : Loc := ⟨Block.clu.base i + (0x600 + 32 * n), 17, 16⟩
def CLU_MSE_CFG_TILE (i n : Nat) : Loc := ⟨Block.clu.base i + (0x600 + 32 * n), 13, 8⟩
def CLU_MSE_CFG_THREAD (i n : Nat) : Loc := ⟨Block.clu.base i + (0x600 + 32 * n), 3, 0⟩
def CLU_MSE_SUM_LO (i n : Nat) : Loc := ⟨Block.clu.base i + (0x604 + 32 * n), 31, 0⟩
def CLU_MSE_SUM_HI (i n : Nat) : Loc := ⟨Block.clu.base i + (0x608 + 32 * n), 31, 0⟩
def CLU_MSE_SUM_HI_SAT (i n : Nat) : Loc := ⟨Block.clu.base i + (0x608 + 32 * n), 31, 31⟩
def CLU_MSE_SUM_HI_SUM_HI (i n : Nat) : Loc := ⟨Block.clu.base i + (0x608 + 32 * n), 15, 0⟩
def CLU_MSE_COUNT (i n : Nat) : Loc := ⟨Block.clu.base i + (0x60C + 32 * n), 31, 0⟩
def CLU_MSE_ERRMAX (i n : Nat) : Loc := ⟨Block.clu.base i + (0x610 + 32 * n), 31, 0⟩
def CLU_MSE_ERRMAX_ERR_MAX (i n : Nat) : Loc := ⟨Block.clu.base i + (0x610 + 32 * n), 14, 0⟩

/-! Fields of the TILE registers. -/
def TILE_ID (i : Nat) : Loc := ⟨Block.tile.base i + (0x040), 31, 0⟩
def TILE_ID_EAST (i : Nat) : Loc := ⟨Block.tile.base i + (0x040), 18, 18⟩
def TILE_ID_CLUSTER (i : Nat) : Loc := ⟨Block.tile.base i + (0x040), 17, 14⟩
def TILE_ID_TILE (i : Nat) : Loc := ⟨Block.tile.base i + (0x040), 9, 0⟩
def TILE_STEP (i : Nat) : Loc := ⟨Block.tile.base i + (0x044), 31, 0⟩
def TILE_STEP_PHASE (i : Nat) : Loc := ⟨Block.tile.base i + (0x044), 10, 8⟩
def TILE_STEP_S (i : Nat) : Loc := ⟨Block.tile.base i + (0x044), 7, 0⟩
def TILE_AXON_CFG (i : Nat) : Loc := ⟨Block.tile.base i + (0x048), 31, 0⟩
def TILE_AXON_CFG_KSLOTS (i : Nat) : Loc := ⟨Block.tile.base i + (0x048), 31, 29⟩
def TILE_AXON_CFG_DIRECT_COUNT (i : Nat) : Loc := ⟨Block.tile.base i + (0x048), 28, 12⟩
def TILE_AXON_CFG_BASE (i : Nat) : Loc := ⟨Block.tile.base i + (0x048), 11, 0⟩
def TILE_ROUTE_CFG (i : Nat) : Loc := ⟨Block.tile.base i + (0x04C), 31, 0⟩
def TILE_ROUTE_CFG_LOCAL (i : Nat) : Loc := ⟨Block.tile.base i + (0x04C), 31, 31⟩
def TILE_ROUTE_CFG_BASE (i : Nat) : Loc := ⟨Block.tile.base i + (0x04C), 5, 0⟩
def TILE_QSTAT (i : Nat) : Loc := ⟨Block.tile.base i + (0x050), 31, 0⟩
def TILE_QSTAT_NEXT_HWM (i : Nat) : Loc := ⟨Block.tile.base i + (0x050), 31, 24⟩
def TILE_QSTAT_COLD_OUT (i : Nat) : Loc := ⟨Block.tile.base i + (0x050), 19, 16⟩
def TILE_QSTAT_NEXT (i : Nat) : Loc := ⟨Block.tile.base i + (0x050), 15, 8⟩
def TILE_QSTAT_CUR (i : Nat) : Loc := ⟨Block.tile.base i + (0x050), 7, 0⟩
def TILE_EV_ACCEPT (i : Nat) : Loc := ⟨Block.tile.base i + (0x060), 31, 0⟩
def TILE_DROP_QFULL (i : Nat) : Loc := ⟨Block.tile.base i + (0x064), 31, 0⟩
def TILE_DROP_P1 (i : Nat) : Loc := ⟨Block.tile.base i + (0x068), 31, 0⟩
def TILE_DROP_P2 (i : Nat) : Loc := ⟨Block.tile.base i + (0x06C), 31, 0⟩
def TILE_DROP_P3 (i : Nat) : Loc := ⟨Block.tile.base i + (0x070), 31, 0⟩
def TILE_LATE (i : Nat) : Loc := ⟨Block.tile.base i + (0x074), 31, 0⟩
def TILE_EARLY (i : Nat) : Loc := ⟨Block.tile.base i + (0x078), 31, 0⟩
def TILE_DROP_DISABLED (i : Nat) : Loc := ⟨Block.tile.base i + (0x07C), 31, 0⟩
def TILE_AXON_MISS (i : Nat) : Loc := ⟨Block.tile.base i + (0x080), 31, 0⟩
def TILE_TARGET_OOR (i : Nat) : Loc := ⟨Block.tile.base i + (0x084), 31, 0⟩
def TILE_COLD_FAIL (i : Nat) : Loc := ⟨Block.tile.base i + (0x088), 31, 0⟩
def TILE_FIRED (i : Nat) : Loc := ⟨Block.tile.base i + (0x08C), 31, 0⟩
def TILE_PKT_OUT (i : Nat) : Loc := ⟨Block.tile.base i + (0x090), 31, 0⟩
def TILE_OVERDRIVE (i : Nat) : Loc := ⟨Block.tile.base i + (0x094), 31, 0⟩
def TILE_SWEEP_TOUCH (i : Nat) : Loc := ⟨Block.tile.base i + (0x098), 31, 0⟩
def TILE_ROUTE_MISS (i : Nat) : Loc := ⟨Block.tile.base i + (0x09C), 31, 0⟩
def TILE_BANK_STALL (i : Nat) : Loc := ⟨Block.tile.base i + (0x0A0), 31, 0⟩
def TILE_FIRE (i n : Nat) : Loc := ⟨Block.tile.base i + (0x180 + 4 * n), 31, 0⟩
def TILE_FIRE_IMM (i n : Nat) : Loc := ⟨Block.tile.base i + (0x180 + 4 * n), 31, 31⟩
def TILE_FIRE_GRADED (i n : Nat) : Loc := ⟨Block.tile.base i + (0x180 + 4 * n), 30, 30⟩
def TILE_FIRE_REFRAC (i n : Nat) : Loc := ⟨Block.tile.base i + (0x180 + 4 * n), 29, 26⟩
def TILE_FIRE_THETA (i n : Nat) : Loc := ⟨Block.tile.base i + (0x180 + 4 * n), 14, 0⟩
def TILE_DECAY (i n : Nat) : Loc := ⟨Block.tile.base i + (0x1C0 + 4 * n), 31, 0⟩
def TILE_DECAY_EN (i n : Nat) : Loc := ⟨Block.tile.base i + (0x1C0 + 4 * n), 31, 31⟩
def TILE_DECAY_BASE (i n : Nat) : Loc := ⟨Block.tile.base i + (0x1C0 + 4 * n), 4, 0⟩
def TILE_STOP_LO (i : Nat) : Loc := ⟨Block.tile.base i + (0x054), 31, 0⟩
def TILE_STOP_HI (i : Nat) : Loc := ⟨Block.tile.base i + (0x058), 31, 0⟩
def TILE_KSLOT_GEOM (i n : Nat) : Loc := ⟨Block.tile.base i + (0x380 + 8 * n), 31, 0⟩
def TILE_KSLOT_GEOM_XB (i n : Nat) : Loc := ⟨Block.tile.base i + (0x380 + 8 * n), 31, 28⟩
def TILE_KSLOT_GEOM_YB (i n : Nat) : Loc := ⟨Block.tile.base i + (0x380 + 8 * n), 27, 24⟩
def TILE_KSLOT_GEOM_CB (i n : Nat) : Loc := ⟨Block.tile.base i + (0x380 + 8 * n), 23, 20⟩
def TILE_KSLOT_GEOM_KW (i n : Nat) : Loc := ⟨Block.tile.base i + (0x380 + 8 * n), 18, 16⟩
def TILE_KSLOT_GEOM_KH (i n : Nat) : Loc := ⟨Block.tile.base i + (0x380 + 8 * n), 14, 12⟩
def TILE_KSLOT_GEOM_SX (i n : Nat) : Loc := ⟨Block.tile.base i + (0x380 + 8 * n), 11, 10⟩
def TILE_KSLOT_GEOM_SY (i n : Nat) : Loc := ⟨Block.tile.base i + (0x380 + 8 * n), 9, 8⟩
def TILE_KSLOT_OUT (i n : Nat) : Loc := ⟨Block.tile.base i + (0x384 + 8 * n), 31, 0⟩
def TILE_KSLOT_OUT_OH (i n : Nat) : Loc := ⟨Block.tile.base i + (0x384 + 8 * n), 13, 7⟩
def TILE_KSLOT_OUT_OW (i n : Nat) : Loc := ⟨Block.tile.base i + (0x384 + 8 * n), 6, 0⟩
def TILE_PROMO_CFG (i : Nat) : Loc := ⟨Block.tile.base i + (0x3C0), 31, 0⟩
def TILE_PROMO_CFG_EN (i : Nat) : Loc := ⟨Block.tile.base i + (0x3C0), 31, 31⟩
def TILE_PROMO_CFG_SLOT_SHIFT (i : Nat) : Loc := ⟨Block.tile.base i + (0x3C0), 18, 16⟩
def TILE_PROMO_CFG_BASE (i : Nat) : Loc := ⟨Block.tile.base i + (0x3C0), 14, 0⟩
def TILE_PROMO_HIT (i n : Nat) : Loc := ⟨Block.tile.base i + (0x3C4 + 4 * n), 31, 0⟩
def TILE_PROMO_HIT_SLOT3 (i n : Nat) : Loc := ⟨Block.tile.base i + (0x3C4 + 4 * n), 31, 24⟩
def TILE_PROMO_HIT_SLOT2 (i n : Nat) : Loc := ⟨Block.tile.base i + (0x3C4 + 4 * n), 23, 16⟩
def TILE_PROMO_HIT_SLOT1 (i n : Nat) : Loc := ⟨Block.tile.base i + (0x3C4 + 4 * n), 15, 8⟩
def TILE_PROMO_HIT_SLOT0 (i n : Nat) : Loc := ⟨Block.tile.base i + (0x3C4 + 4 * n), 7, 0⟩
def TILE_PLASTIC_IGN (i : Nat) : Loc := ⟨Block.tile.base i + (0x3D4), 31, 0⟩

/-! Fields of the CLU registers. -/
def CLU_COLD_BASE (i : Nat) : Loc := ⟨Block.clu.base i + (0x200), 31, 0⟩
def CLU_COLD_BASE_BASE (i : Nat) : Loc := ⟨Block.clu.base i + (0x200), 30, 0⟩
def CLU_COLD_CFG (i : Nat) : Loc := ⟨Block.clu.base i + (0x204), 31, 0⟩
def CLU_COLD_CFG_TIMEOUT (i : Nat) : Loc := ⟨Block.clu.base i + (0x204), 31, 16⟩
def CLU_COLD_CFG_MAX_OUT (i : Nat) : Loc := ⟨Block.clu.base i + (0x204), 7, 0⟩
def CLU_COLD_HIT_CFG (i : Nat) : Loc := ⟨Block.clu.base i + (0x208), 31, 0⟩
def CLU_COLD_HIT_CFG_HIT_EN (i : Nat) : Loc := ⟨Block.clu.base i + (0x208), 31, 31⟩
def CLU_COLD_HIT_CFG_HSHIFT (i : Nat) : Loc := ⟨Block.clu.base i + (0x208), 14, 12⟩
def CLU_COLD_HIT_CFG_HSIZE (i : Nat) : Loc := ⟨Block.clu.base i + (0x208), 10, 8⟩
def CLU_COLD_HIT_CFG_HBASE (i : Nat) : Loc := ⟨Block.clu.base i + (0x208), 5, 0⟩
def CLU_COLD_AGE (i : Nat) : Loc := ⟨Block.clu.base i + (0x20C), 31, 0⟩
def CLU_COLD_AGE_BUSY (i : Nat) : Loc := ⟨Block.clu.base i + (0x20C), 1, 1⟩
def CLU_COLD_AGE_GO (i : Nat) : Loc := ⟨Block.clu.base i + (0x20C), 0, 0⟩
def CLU_COLD_FETCHES (i : Nat) : Loc := ⟨Block.clu.base i + (0x210), 31, 0⟩
def CLU_COLD_UNITS (i : Nat) : Loc := ⟨Block.clu.base i + (0x214), 31, 0⟩
def CLU_COLD_FAILS (i : Nat) : Loc := ⟨Block.clu.base i + (0x218), 31, 0⟩
def CLU_COLD_TIMEOUTS (i : Nat) : Loc := ⟨Block.clu.base i + (0x21C), 31, 0⟩
def CLU_COLD_STALE (i : Nat) : Loc := ⟨Block.clu.base i + (0x220), 31, 0⟩
def CLU_COLD_HIT_SAT (i : Nat) : Loc := ⟨Block.clu.base i + (0x224), 31, 0⟩
def CLU_COLD_LAT_MAX (i : Nat) : Loc := ⟨Block.clu.base i + (0x228), 31, 0⟩
def CLU_COLD_LAT_MAX_MAX (i : Nat) : Loc := ⟨Block.clu.base i + (0x228), 15, 0⟩
def CLU_COLD_OUT (i : Nat) : Loc := ⟨Block.clu.base i + (0x22C), 31, 0⟩
def CLU_COLD_OUT_UNITS (i : Nat) : Loc := ⟨Block.clu.base i + (0x22C), 7, 0⟩
def CLU_PROMO_CFG (i : Nat) : Loc := ⟨Block.clu.base i + (0x230), 31, 0⟩
def CLU_PROMO_CFG_EN (i : Nat) : Loc := ⟨Block.clu.base i + (0x230), 31, 31⟩
def CLU_PROMO_CFG_DEMOTE_MAX (i : Nat) : Loc := ⟨Block.clu.base i + (0x230), 23, 16⟩
def CLU_PROMO_CFG_PROMOTE_MIN (i : Nat) : Loc := ⟨Block.clu.base i + (0x230), 15, 0⟩
def CLU_PROMO_STAT (i : Nat) : Loc := ⟨Block.clu.base i + (0x234), 31, 0⟩
def CLU_PROMO_STAT_DEMOTED (i : Nat) : Loc := ⟨Block.clu.base i + (0x234), 31, 16⟩
def CLU_PROMO_STAT_PROMOTED (i : Nat) : Loc := ⟨Block.clu.base i + (0x234), 15, 0⟩

/-! Fields of the TILE registers. -/
def TILE_THR_BIND (i n : Nat) : Loc := ⟨Block.tile.base i + (0x100 + 8 * n), 31, 0⟩
def TILE_THR_BIND_EN (i n : Nat) : Loc := ⟨Block.tile.base i + (0x100 + 8 * n), 31, 31⟩
def TILE_THR_BIND_TWO (i n : Nat) : Loc := ⟨Block.tile.base i + (0x100 + 8 * n), 30, 30⟩
def TILE_THR_BIND_COUNT (i n : Nat) : Loc := ⟨Block.tile.base i + (0x100 + 8 * n), 29, 15⟩
def TILE_THR_BIND_BASE (i n : Nat) : Loc := ⟨Block.tile.base i + (0x100 + 8 * n), 13, 0⟩
def TILE_THR_PROG (i n : Nat) : Loc := ⟨Block.tile.base i + (0x104 + 8 * n), 31, 0⟩
def TILE_THR_PROG_FAULT (i n : Nat) : Loc := ⟨Block.tile.base i + (0x104 + 8 * n), 31, 31⟩
def TILE_THR_PROG_FCODE (i n : Nat) : Loc := ⟨Block.tile.base i + (0x104 + 8 * n), 30, 28⟩
def TILE_THR_PROG_BUILTIN (i n : Nat) : Loc := ⟨Block.tile.base i + (0x104 + 8 * n), 27, 27⟩
def TILE_THR_PROG_LIMIT (i n : Nat) : Loc := ⟨Block.tile.base i + (0x104 + 8 * n), 26, 24⟩
def TILE_THR_PROG_PARAM (i n : Nat) : Loc := ⟨Block.tile.base i + (0x104 + 8 * n), 23, 13⟩
def TILE_THR_PROG_ENTRY (i n : Nat) : Loc := ⟨Block.tile.base i + (0x104 + 8 * n), 12, 0⟩

/-! Fields of the CLU registers. -/
def CLU_THR_FAULT (i : Nat) : Loc := ⟨Block.clu.base i + (0x280), 31, 0⟩
def CLU_THR_FAULT_VALID (i : Nat) : Loc := ⟨Block.clu.base i + (0x280), 31, 31⟩
def CLU_THR_FAULT_FCODE (i : Nat) : Loc := ⟨Block.clu.base i + (0x280), 30, 28⟩
def CLU_THR_FAULT_TILE (i : Nat) : Loc := ⟨Block.clu.base i + (0x280), 27, 22⟩
def CLU_THR_FAULT_THREAD (i : Nat) : Loc := ⟨Block.clu.base i + (0x280), 21, 18⟩
def CLU_THR_FAULT_PC (i : Nat) : Loc := ⟨Block.clu.base i + (0x280), 12, 0⟩
def CLU_THR_FAULTS (i : Nat) : Loc := ⟨Block.clu.base i + (0x284), 31, 0⟩

/-! Fields of the TMR registers. -/
def TMR_STEP_CTRL : Loc := ⟨Block.tmr.base 0 + (0x400), 31, 0⟩
def TMR_STEP_CTRL_STEP : Loc := ⟨Block.tmr.base 0 + (0x400), 3, 3⟩
def TMR_STEP_CTRL_FORCE_CLOSE : Loc := ⟨Block.tmr.base 0 + (0x400), 2, 2⟩
def TMR_STEP_CTRL_RUN : Loc := ⟨Block.tmr.base 0 + (0x400), 0, 0⟩
def TMR_STEP_PERIOD : Loc := ⟨Block.tmr.base 0 + (0x404), 31, 0⟩
def TMR_STEP_PERIOD_PERIOD : Loc := ⟨Block.tmr.base 0 + (0x404), 23, 0⟩
def TMR_STEP_BOUND : Loc := ⟨Block.tmr.base 0 + (0x408), 31, 0⟩
def TMR_STEP_BOUND_REFILL : Loc := ⟨Block.tmr.base 0 + (0x408), 23, 16⟩
def TMR_STEP_BOUND_LAG_MAX : Loc := ⟨Block.tmr.base 0 + (0x408), 15, 8⟩
def TMR_STEP_BOUND_STRETCH_MAX : Loc := ⟨Block.tmr.base 0 + (0x408), 7, 0⟩
def TMR_STEP_ROUND : Loc := ⟨Block.tmr.base 0 + (0x40C), 31, 0⟩
def TMR_STEP_ROUND_ROUND_TIMEOUT : Loc := ⟨Block.tmr.base 0 + (0x40C), 31, 16⟩
def TMR_STEP_ROUND_GAP : Loc := ⟨Block.tmr.base 0 + (0x40C), 15, 0⟩
def TMR_STEP_LO : Loc := ⟨Block.tmr.base 0 + (0x410), 31, 0⟩
def TMR_STEP_HI_SNAP : Loc := ⟨Block.tmr.base 0 + (0x414), 31, 0⟩
def TMR_STEP_START_LO : Loc := ⟨Block.tmr.base 0 + (0x418), 31, 0⟩
def TMR_STEP_START_HI : Loc := ⟨Block.tmr.base 0 + (0x41C), 31, 0⟩
def TMR_STEP_STAT : Loc := ⟨Block.tmr.base 0 + (0x420), 31, 0⟩
def TMR_STEP_STAT_RUNNING : Loc := ⟨Block.tmr.base 0 + (0x420), 31, 31⟩
def TMR_STEP_STAT_RELAY : Loc := ⟨Block.tmr.base 0 + (0x420), 30, 30⟩
def TMR_STEP_STAT_SEALED : Loc := ⟨Block.tmr.base 0 + (0x420), 29, 29⟩
def TMR_STEP_STAT_EXH : Loc := ⟨Block.tmr.base 0 + (0x420), 28, 28⟩
def TMR_STEP_STAT_LOAD_ARMED : Loc := ⟨Block.tmr.base 0 + (0x420), 27, 27⟩
def TMR_STEP_STAT_CAUSE : Loc := ⟨Block.tmr.base 0 + (0x420), 26, 24⟩
def TMR_STEP_STAT_OUT_VALID : Loc := ⟨Block.tmr.base 0 + (0x420), 23, 23⟩
def TMR_STEP_ACCOUNT : Loc := ⟨Block.tmr.base 0 + (0x424), 31, 0⟩
def TMR_STEP_ACCOUNT_A : Loc := ⟨Block.tmr.base 0 + (0x424), 27, 0⟩
def TMR_STEP_LAST_LEN : Loc := ⟨Block.tmr.base 0 + (0x428), 31, 0⟩
def TMR_STEP_OUTSTANDING : Loc := ⟨Block.tmr.base 0 + (0x42C), 31, 0⟩
def TMR_STEP_SHORTS : Loc := ⟨Block.tmr.base 0 + (0x430), 31, 0⟩
def TMR_STEP_UNDELIVERED : Loc := ⟨Block.tmr.base 0 + (0x434), 31, 0⟩
def TMR_STEP_ROUNDS : Loc := ⟨Block.tmr.base 0 + (0x438), 31, 0⟩
def TMR_STEP_RTIMEOUT : Loc := ⟨Block.tmr.base 0 + (0x43C), 31, 0⟩
def TMR_STEP_SYNC : Loc := ⟨Block.tmr.base 0 + (0x440), 31, 0⟩
def TMR_STEP_MISSING : Loc := ⟨Block.tmr.base 0 + (0x444), 31, 0⟩

/-! Fields of the TILE registers. -/
def TILE_INJ0 (i : Nat) : Loc := ⟨Block.tile.base i + (0x200), 31, 0⟩
def TILE_INJ1 (i : Nat) : Loc := ⟨Block.tile.base i + (0x204), 31, 0⟩
def TILE_CON0 (i : Nat) : Loc := ⟨Block.tile.base i + (0x208), 31, 0⟩
def TILE_CON1 (i : Nat) : Loc := ⟨Block.tile.base i + (0x20C), 31, 0⟩
def TILE_STEP_STAT (i : Nat) : Loc := ⟨Block.tile.base i + (0x210), 31, 0⟩
def TILE_STEP_STAT_EXH (i : Nat) : Loc := ⟨Block.tile.base i + (0x210), 31, 31⟩
def TILE_STEP_STAT_SHORT (i : Nat) : Loc := ⟨Block.tile.base i + (0x210), 30, 30⟩
def TILE_STEP_STAT_EMITTED (i : Nat) : Loc := ⟨Block.tile.base i + (0x210), 29, 29⟩
def TILE_STEP_STAT_PASSIVE (i : Nat) : Loc := ⟨Block.tile.base i + (0x210), 28, 28⟩
def TILE_STEP_STAT_CLOSED (i : Nat) : Loc := ⟨Block.tile.base i + (0x210), 7, 0⟩
def TILE_CLOSES (i : Nat) : Loc := ⟨Block.tile.base i + (0x214), 31, 0⟩

/-! Fields of the RT registers. -/
def RT_ID (i : Nat) : Loc := ⟨Block.rt.base i + (0x040), 31, 0⟩
def RT_ID_GW (i : Nat) : Loc := ⟨Block.rt.base i + (0x040), 31, 24⟩
def RT_ID_EAST (i : Nat) : Loc := ⟨Block.rt.base i + (0x040), 18, 18⟩
def RT_ID_CLUSTER (i : Nat) : Loc := ⟨Block.rt.base i + (0x040), 17, 14⟩
def RT_ID_TILE (i : Nat) : Loc := ⟨Block.rt.base i + (0x040), 9, 0⟩
def RT_CFG (i : Nat) : Loc := ⟨Block.rt.base i + (0x044), 31, 0⟩
def RT_CFG_ADAPT (i : Nat) : Loc := ⟨Block.rt.base i + (0x044), 31, 31⟩
def RT_CFG_CMB_EN (i : Nat) : Loc := ⟨Block.rt.base i + (0x044), 30, 30⟩
def RT_CFG_CWIN (i : Nat) : Loc := ⟨Block.rt.base i + (0x044), 23, 16⟩
def RT_GWIN (i : Nat) : Loc := ⟨Block.rt.base i + (0x048), 31, 0⟩
def RT_GWIN_EN (i : Nat) : Loc := ⟨Block.rt.base i + (0x048), 31, 31⟩
def RT_GWIN_BASE (i : Nat) : Loc := ⟨Block.rt.base i + (0x048), 15, 0⟩
def RT_STAT (i : Nat) : Loc := ⟨Block.rt.base i + (0x04C), 31, 0⟩
def RT_STAT_SINK (i : Nat) : Loc := ⟨Block.rt.base i + (0x04C), 31, 31⟩
def RT_STAT_REASON (i : Nat) : Loc := ⟨Block.rt.base i + (0x04C), 30, 29⟩
def RT_STAT_CMB_USED (i : Nat) : Loc := ⟨Block.rt.base i + (0x04C), 4, 0⟩
def RT_INFLIGHT (i : Nat) : Loc := ⟨Block.rt.base i + (0x050), 31, 0⟩
def RT_INFLIGHT_CL (i : Nat) : Loc := ⟨Block.rt.base i + (0x050), 31, 24⟩
def RT_INFLIGHT_RP (i : Nat) : Loc := ⟨Block.rt.base i + (0x050), 23, 16⟩
def RT_INFLIGHT_RQ (i : Nat) : Loc := ⟨Block.rt.base i + (0x050), 15, 8⟩
def RT_INFLIGHT_EV (i : Nat) : Loc := ⟨Block.rt.base i + (0x050), 7, 0⟩
def RT_INFLIGHT_MG (i : Nat) : Loc := ⟨Block.rt.base i + (0x054), 31, 0⟩
def RT_INFLIGHT_MG_MG (i : Nat) : Loc := ⟨Block.rt.base i + (0x054), 7, 0⟩
def RT_SINK_INJ0 (i : Nat) : Loc := ⟨Block.rt.base i + (0x058), 31, 0⟩
def RT_SINK_INJ1 (i : Nat) : Loc := ⟨Block.rt.base i + (0x05C), 31, 0⟩
def RT_SINK_CON0 (i : Nat) : Loc := ⟨Block.rt.base i + (0x060), 31, 0⟩
def RT_SINK_CON1 (i : Nat) : Loc := ⟨Block.rt.base i + (0x064), 31, 0⟩
def RT_SINK_PKTS (i : Nat) : Loc := ⟨Block.rt.base i + (0x068), 31, 0⟩
def RT_PSUM_COMB (i : Nat) : Loc := ⟨Block.rt.base i + (0x06C), 31, 0⟩
def RT_PSUM_SAT (i : Nat) : Loc := ⟨Block.rt.base i + (0x070), 31, 0⟩
def RT_ESCAPE (i : Nat) : Loc := ⟨Block.rt.base i + (0x074), 31, 0⟩
def RT_BAD_PKT (i : Nat) : Loc := ⟨Block.rt.base i + (0x078), 31, 0⟩

/-! Fields of the MTR registers. -/
def MTR_DRAIN : Loc := ⟨Block.mtr.base 0 + (0x040), 31, 0⟩
def MTR_DRAIN_E_ON : Loc := ⟨Block.mtr.base 0 + (0x040), 3, 3⟩
def MTR_DRAIN_W_ON : Loc := ⟨Block.mtr.base 0 + (0x040), 2, 2⟩
def MTR_DRAIN_E_DRAINED : Loc := ⟨Block.mtr.base 0 + (0x040), 1, 1⟩
def MTR_DRAIN_W_DRAINED : Loc := ⟨Block.mtr.base 0 + (0x040), 0, 0⟩
def MTR_INJ_HOLD : Loc := ⟨Block.mtr.base 0 + (0x044), 31, 0⟩
def MTR_INJ_HOLD_TIES : Loc := ⟨Block.mtr.base 0 + (0x044), 21, 21⟩
def MTR_INJ_HOLD_SYS : Loc := ⟨Block.mtr.base 0 + (0x044), 20, 20⟩
def MTR_INJ_HOLD_T1SG : Loc := ⟨Block.mtr.base 0 + (0x044), 19, 19⟩
def MTR_INJ_HOLD_SNSE : Loc := ⟨Block.mtr.base 0 + (0x044), 18, 18⟩
def MTR_INJ_HOLD_SNSW : Loc := ⟨Block.mtr.base 0 + (0x044), 17, 17⟩
def MTR_INJ_HOLD_HOST : Loc := ⟨Block.mtr.base 0 + (0x044), 16, 16⟩
def MTR_INJ_HOLD_CLUSTER : Loc := ⟨Block.mtr.base 0 + (0x044), 15, 0⟩
def MTR_XROUTE : Loc := ⟨Block.mtr.base 0 + (0x048), 31, 0⟩
def MTR_XROUTE_CLUSTER : Loc := ⟨Block.mtr.base 0 + (0x048), 15, 0⟩
def MTR_COLLAR : Loc := ⟨Block.mtr.base 0 + (0x04C), 31, 0⟩
def MTR_COLLAR_E_SINK : Loc := ⟨Block.mtr.base 0 + (0x04C), 1, 1⟩
def MTR_COLLAR_W_SINK : Loc := ⟨Block.mtr.base 0 + (0x04C), 0, 0⟩
def MTR_CSINK_INJ0 : Loc := ⟨Block.mtr.base 0 + (0x050), 31, 0⟩
def MTR_CSINK_INJ1 : Loc := ⟨Block.mtr.base 0 + (0x054), 31, 0⟩
def MTR_CSINK_CON0 : Loc := ⟨Block.mtr.base 0 + (0x058), 31, 0⟩
def MTR_CSINK_CON1 : Loc := ⟨Block.mtr.base 0 + (0x05C), 31, 0⟩
def MTR_CSINK_PKTS : Loc := ⟨Block.mtr.base 0 + (0x060), 31, 0⟩
def MTR_CSINK_RQ : Loc := ⟨Block.mtr.base 0 + (0x064), 31, 0⟩
def MTR_CSINK_MG : Loc := ⟨Block.mtr.base 0 + (0x068), 31, 0⟩

/-! Fields of the TILE registers. -/
def TILE_PL_AREA (i : Nat) : Loc := ⟨Block.tile.base i + (0x280), 31, 0⟩
def TILE_PL_AREA_FMT (i : Nat) : Loc := ⟨Block.tile.base i + (0x280), 31, 29⟩
def TILE_PL_AREA_WORDS (i : Nat) : Loc := ⟨Block.tile.base i + (0x280), 28, 15⟩
def TILE_PL_AREA_BASE (i : Nat) : Loc := ⟨Block.tile.base i + (0x280), 14, 0⟩
def TILE_PL_DELTA (i : Nat) : Loc := ⟨Block.tile.base i + (0x284), 31, 0⟩
def TILE_PL_DELTA_PSHIFT (i : Nat) : Loc := ⟨Block.tile.base i + (0x284), 17, 16⟩
def TILE_PL_DELTA_DBASE (i : Nat) : Loc := ⟨Block.tile.base i + (0x284), 11, 0⟩
def TILE_PL_RULE (i : Nat) : Loc := ⟨Block.tile.base i + (0x288), 31, 0⟩
def TILE_PL_RULE_A_PLUS (i : Nat) : Loc := ⟨Block.tile.base i + (0x288), 31, 24⟩
def TILE_PL_RULE_A_MINUS (i : Nat) : Loc := ⟨Block.tile.base i + (0x288), 23, 16⟩
def TILE_PL_RULE_ETA (i : Nat) : Loc := ⟨Block.tile.base i + (0x288), 15, 12⟩
def TILE_PL_RULE_CSHIFT (i : Nat) : Loc := ⟨Block.tile.base i + (0x288), 10, 8⟩
def TILE_PL_TRACE (i : Nat) : Loc := ⟨Block.tile.base i + (0x28C), 31, 0⟩
def TILE_PL_TRACE_POST_EN (i : Nat) : Loc := ⟨Block.tile.base i + (0x28C), 31, 16⟩
def TILE_PL_TRACE_TINC_PRE (i : Nat) : Loc := ⟨Block.tile.base i + (0x28C), 15, 8⟩
def TILE_PL_TRACE_TINC_POST (i : Nat) : Loc := ⟨Block.tile.base i + (0x28C), 7, 0⟩
def TILE_PL_TDECAY (i n : Nat) : Loc := ⟨Block.tile.base i + (0x290 + 4 * n), 31, 0⟩
def TILE_PL_TDECAY_TD4K3 (i n : Nat) : Loc := ⟨Block.tile.base i + (0x290 + 4 * n), 31, 24⟩
def TILE_PL_TDECAY_TD4K2 (i n : Nat) : Loc := ⟨Block.tile.base i + (0x290 + 4 * n), 23, 16⟩
def TILE_PL_TDECAY_TD4K1 (i n : Nat) : Loc := ⟨Block.tile.base i + (0x290 + 4 * n), 15, 8⟩
def TILE_PL_TDECAY_TD4K0 (i n : Nat) : Loc := ⟨Block.tile.base i + (0x290 + 4 * n), 7, 0⟩
def TILE_PL_MOD0 (i : Nat) : Loc := ⟨Block.tile.base i + (0x2A0), 31, 0⟩
def TILE_PL_MOD1 (i : Nat) : Loc := ⟨Block.tile.base i + (0x2A4), 31, 0⟩
def TILE_PL_MODAX (i : Nat) : Loc := ⟨Block.tile.base i + (0x2A8), 31, 0⟩
def TILE_PL_MODAX_EN (i : Nat) : Loc := ⟨Block.tile.base i + (0x2A8), 31, 31⟩
def TILE_PL_MODAX_BASE (i : Nat) : Loc := ⟨Block.tile.base i + (0x2A8), 15, 0⟩
def TILE_PL_LIFT (i : Nat) : Loc := ⟨Block.tile.base i + (0x2AC), 31, 0⟩
def TILE_PL_LIFT_LEN (i : Nat) : Loc := ⟨Block.tile.base i + (0x2AC), 31, 16⟩
def TILE_PL_LIFT_POS (i : Nat) : Loc := ⟨Block.tile.base i + (0x2AC), 15, 0⟩
def TILE_PL_REFINE (i : Nat) : Loc := ⟨Block.tile.base i + (0x2B0), 31, 0⟩
def TILE_PL_REFINE_EN (i : Nat) : Loc := ⟨Block.tile.base i + (0x2B0), 31, 16⟩
def TILE_PL_REFINE_OUT (i : Nat) : Loc := ⟨Block.tile.base i + (0x2B0), 15, 15⟩
def TILE_PL_REFINE_PSUM (i : Nat) : Loc := ⟨Block.tile.base i + (0x2B0), 14, 14⟩
def TILE_PL_REFINE_MINC (i : Nat) : Loc := ⟨Block.tile.base i + (0x2B0), 13, 10⟩
def TILE_PL_REFINE_TARGET (i : Nat) : Loc := ⟨Block.tile.base i + (0x2B0), 9, 0⟩
def TILE_PL_DIR_IDX (i : Nat) : Loc := ⟨Block.tile.base i + (0x2B4), 31, 0⟩
def TILE_PL_DIR_IDX_AUTO (i : Nat) : Loc := ⟨Block.tile.base i + (0x2B4), 31, 31⟩
def TILE_PL_DIR_IDX_IDX (i : Nat) : Loc := ⟨Block.tile.base i + (0x2B4), 9, 0⟩
def TILE_PL_DIR_DATA (i : Nat) : Loc := ⟨Block.tile.base i + (0x2B8), 31, 0⟩
def TILE_PL_DIRTY_IDX (i : Nat) : Loc := ⟨Block.tile.base i + (0x2BC), 31, 0⟩
def TILE_PL_DIRTY_IDX_IDX (i : Nat) : Loc := ⟨Block.tile.base i + (0x2BC), 4, 0⟩
def TILE_PL_DIRTY (i : Nat) : Loc := ⟨Block.tile.base i + (0x2C0), 31, 0⟩
def TILE_PL_STAT (i : Nat) : Loc := ⟨Block.tile.base i + (0x2C4), 31, 0⟩
def TILE_PL_STAT_ACTIVE (i : Nat) : Loc := ⟨Block.tile.base i + (0x2C4), 31, 31⟩
def TILE_PL_STAT_CFG_ERR (i : Nat) : Loc := ⟨Block.tile.base i + (0x2C4), 30, 30⟩
def TILE_PL_STAT_ABANDONED (i : Nat) : Loc := ⟨Block.tile.base i + (0x2C4), 29, 29⟩
def TILE_PL_STAT_DEFERRED (i : Nat) : Loc := ⟨Block.tile.base i + (0x2C4), 28, 28⟩
def TILE_PL_STAT_LAST_CYCLES (i : Nat) : Loc := ⟨Block.tile.base i + (0x2C4), 23, 0⟩
def TILE_PL_EVENTS (i : Nat) : Loc := ⟨Block.tile.base i + (0x2C8), 31, 0⟩
def TILE_PL_DSAT (i : Nat) : Loc := ⟨Block.tile.base i + (0x2CC), 31, 0⟩
def TILE_PL_DIRMISS (i : Nat) : Loc := ⟨Block.tile.base i + (0x2D0), 31, 0⟩
def TILE_PL_REFINED (i : Nat) : Loc := ⟨Block.tile.base i + (0x2D4), 31, 0⟩
def TILE_PL_DEFERRED (i : Nat) : Loc := ⟨Block.tile.base i + (0x2D8), 31, 0⟩

/-! Fields of the CLU registers. -/
def CLU_LIFT_CTRL (i : Nat) : Loc := ⟨Block.clu.base i + (0x2A0), 31, 0⟩
def CLU_LIFT_CTRL_ARM (i : Nat) : Loc := ⟨Block.clu.base i + (0x2A0), 31, 31⟩
def CLU_KILN_CFG (i : Nat) : Loc := ⟨Block.clu.base i + (0x2A4), 31, 0⟩
def CLU_KILN_CFG_WB_EN (i : Nat) : Loc := ⟨Block.clu.base i + (0x2A4), 31, 31⟩
def CLU_KILN_CFG_SBASE (i : Nat) : Loc := ⟨Block.clu.base i + (0x2A4), 29, 24⟩
def CLU_KILN_CFG_SSIZE (i : Nat) : Loc := ⟨Block.clu.base i + (0x2A4), 21, 16⟩
def CLU_KILN_CFG_K (i : Nat) : Loc := ⟨Block.clu.base i + (0x2A4), 15, 0⟩
def CLU_KILN_STAT (i : Nat) : Loc := ⟨Block.clu.base i + (0x2A8), 31, 0⟩
def CLU_KILN_STAT_ABANDONED (i : Nat) : Loc := ⟨Block.clu.base i + (0x2A8), 31, 16⟩
def CLU_KILN_STAT_SEALED (i : Nat) : Loc := ⟨Block.clu.base i + (0x2A8), 15, 0⟩

/-! Fields of the KILN registers. -/
def KILN_STAT : Loc := ⟨Block.kiln.base 0 + (0x040), 31, 0⟩
def KILN_STAT_MOUNTED : Loc := ⟨Block.kiln.base 0 + (0x040), 31, 31⟩
def KILN_STAT_BUSY : Loc := ⟨Block.kiln.base 0 + (0x040), 30, 30⟩
def KILN_CFG : Loc := ⟨Block.kiln.base 0 + (0x044), 31, 0⟩
def KILN_CFG_WEAR_LIMIT : Loc := ⟨Block.kiln.base 0 + (0x044), 31, 12⟩
def KILN_WRITES : Loc := ⟨Block.kiln.base 0 + (0x048), 31, 0⟩
def KILN_READS : Loc := ⟨Block.kiln.base 0 + (0x04C), 31, 0⟩
def KILN_RETIRED : Loc := ⟨Block.kiln.base 0 + (0x050), 31, 0⟩
def KILN_RETIRED_COUNT : Loc := ⟨Block.kiln.base 0 + (0x050), 17, 0⟩
def KILN_RDFAIL : Loc := ⟨Block.kiln.base 0 + (0x054), 31, 0⟩
def KILN_WEAR_MAX : Loc := ⟨Block.kiln.base 0 + (0x058), 31, 0⟩
def KILN_WEAR_MAX_WEAR : Loc := ⟨Block.kiln.base 0 + (0x058), 19, 0⟩
def KILN_SLICE (n : Nat) : Loc := ⟨Block.kiln.base 0 + (0x080 + 4 * n), 31, 0⟩
def KILN_SLICE_SIZE16 (n : Nat) : Loc := ⟨Block.kiln.base 0 + (0x080 + 4 * n), 29, 16⟩
def KILN_SLICE_BASE16 (n : Nat) : Loc := ⟨Block.kiln.base 0 + (0x080 + 4 * n), 13, 0⟩
def KILN_FREE (n : Nat) : Loc := ⟨Block.kiln.base 0 + (0x0C0 + 4 * n), 31, 0⟩
def KILN_FREE_BUDGET (n : Nat) : Loc := ⟨Block.kiln.base 0 + (0x0C0 + 4 * n), 31, 31⟩
def KILN_FREE_FREE (n : Nat) : Loc := ⟨Block.kiln.base 0 + (0x0C0 + 4 * n), 17, 0⟩
def KILN_RING_CFG (n : Nat) : Loc := ⟨Block.kiln.base 0 + (0x100 + 8 * n), 31, 0⟩
def KILN_RING_CFG_EN (n : Nat) : Loc := ⟨Block.kiln.base 0 + (0x100 + 8 * n), 31, 31⟩
def KILN_RING_CFG_LOG2N (n : Nat) : Loc := ⟨Block.kiln.base 0 + (0x100 + 8 * n), 27, 24⟩
def KILN_RING_CFG_BASE (n : Nat) : Loc := ⟨Block.kiln.base 0 + (0x100 + 8 * n), 17, 0⟩
def KILN_RING_PTR (n : Nat) : Loc := ⟨Block.kiln.base 0 + (0x104 + 8 * n), 31, 0⟩
def KILN_RING_PTR_HEAD (n : Nat) : Loc := ⟨Block.kiln.base 0 + (0x104 + 8 * n), 31, 16⟩
def KILN_RING_PTR_TAIL (n : Nat) : Loc := ⟨Block.kiln.base 0 + (0x104 + 8 * n), 15, 0⟩
def KILN_SEAL (n : Nat) : Loc := ⟨Block.kiln.base 0 + (0x180 + 4 * n), 31, 0⟩
def KILN_SEAL_SET (n : Nat) : Loc := ⟨Block.kiln.base 0 + (0x180 + 4 * n), 15, 0⟩

/-! Fields of the TIE registers. -/
def TIE_STAT (i : Nat) : Loc := ⟨Block.tie.base i + (0x040), 31, 0⟩
def TIE_STAT_STATE (i : Nat) : Loc := ⟨Block.tie.base i + (0x040), 31, 28⟩
def TIE_STAT_CAUSE (i : Nat) : Loc := ⟨Block.tie.base i + (0x040), 27, 24⟩
def TIE_STAT_WIDTH (i : Nat) : Loc := ⟨Block.tie.base i + (0x040), 23, 22⟩
def TIE_STAT_START (i : Nat) : Loc := ⟨Block.tie.base i + (0x040), 21, 20⟩
def TIE_STAT_UPSTREAM (i : Nat) : Loc := ⟨Block.tie.base i + (0x040), 19, 19⟩
def TIE_STAT_DRAINED (i : Nat) : Loc := ⟨Block.tie.base i + (0x040), 18, 18⟩
def TIE_STAT_NBR (i : Nat) : Loc := ⟨Block.tie.base i + (0x040), 9, 0⟩
def TIE_CFG (i : Nat) : Loc := ⟨Block.tie.base i + (0x044), 31, 0⟩
def TIE_CFG_REQ_TIMEOUT (i : Nat) : Loc := ⟨Block.tie.base i + (0x044), 31, 16⟩
def TIE_CFG_RETRY_MAX (i : Nat) : Loc := ⟨Block.tie.base i + (0x044), 15, 12⟩
def TIE_LANES (i : Nat) : Loc := ⟨Block.tie.base i + (0x048), 31, 0⟩
def TIE_LANES_LOCK (i : Nat) : Loc := ⟨Block.tie.base i + (0x048), 15, 12⟩
def TIE_LANES_ERRSEEN (i : Nat) : Loc := ⟨Block.tie.base i + (0x048), 11, 8⟩
def TIE_LANES_ATTEMPTS (i : Nat) : Loc := ⟨Block.tie.base i + (0x048), 7, 0⟩
def TIE_OUT (i : Nat) : Loc := ⟨Block.tie.base i + (0x074), 31, 0⟩
def TIE_OUT_ENTRIES (i : Nat) : Loc := ⟨Block.tie.base i + (0x074), 8, 0⟩
def TIE_TX_FRAMES (i : Nat) : Loc := ⟨Block.tie.base i + (0x04C), 31, 0⟩
def TIE_RX_FRAMES (i : Nat) : Loc := ⟨Block.tie.base i + (0x050), 31, 0⟩
def TIE_CRC_ERR (i : Nat) : Loc := ⟨Block.tie.base i + (0x054), 31, 0⟩
def TIE_RETX (i : Nat) : Loc := ⟨Block.tie.base i + (0x058), 31, 0⟩
def TIE_SINK_PKTS (i : Nat) : Loc := ⟨Block.tie.base i + (0x05C), 31, 0⟩
def TIE_UNREACH (i : Nat) : Loc := ⟨Block.tie.base i + (0x060), 31, 0⟩
def TIE_DROP_RPMG (i : Nat) : Loc := ⟨Block.tie.base i + (0x064), 31, 0⟩
def TIE_REQ_TO (i : Nat) : Loc := ⟨Block.tie.base i + (0x068), 31, 0⟩
def TIE_LATE_RSP (i : Nat) : Loc := ⟨Block.tie.base i + (0x06C), 31, 0⟩
def TIE_DOWNS (i : Nat) : Loc := ⟨Block.tie.base i + (0x070), 31, 0⟩
def TIE_SINK_CON0 (i : Nat) : Loc := ⟨Block.tie.base i + (0x078), 31, 0⟩
def TIE_SINK_CON1 (i : Nat) : Loc := ⟨Block.tie.base i + (0x07C), 31, 0⟩
def TIE_TORUS (i : Nat) : Loc := ⟨Block.tie.base i + (0x100), 31, 0⟩
def TIE_TORUS_SET (i : Nat) : Loc := ⟨Block.tie.base i + (0x100), 31, 31⟩
def TIE_TORUS_HM1 (i : Nat) : Loc := ⟨Block.tie.base i + (0x100), 12, 8⟩
def TIE_TORUS_WM1 (i : Nat) : Loc := ⟨Block.tie.base i + (0x100), 4, 0⟩
def TIE_TREE (i : Nat) : Loc := ⟨Block.tie.base i + (0x104), 31, 0⟩
def TIE_TREE_PARENT (i : Nat) : Loc := ⟨Block.tie.base i + (0x104), 6, 4⟩
def TIE_TREE_CHILD (i : Nat) : Loc := ⟨Block.tie.base i + (0x104), 3, 0⟩
def TIE_ENUM (i : Nat) : Loc := ⟨Block.tie.base i + (0x108), 31, 0⟩
def TIE_ENUM_CHIPS (i : Nat) : Loc := ⟨Block.tie.base i + (0x108), 31, 16⟩
def TIE_ENUM_ORPHAN (i : Nat) : Loc := ⟨Block.tie.base i + (0x108), 15, 15⟩
def TIE_ENUM_DEPTH (i : Nat) : Loc := ⟨Block.tie.base i + (0x108), 5, 0⟩
def TIE_XDET (i : Nat) : Loc := ⟨Block.tie.base i + (0x10C), 31, 0⟩
def TIE_YDET (i : Nat) : Loc := ⟨Block.tie.base i + (0x110), 31, 0⟩

/-! Fields of the MEM registers. -/
def MEM_CFG (i : Nat) : Loc := ⟨Block.mem.base i + (0x040), 31, 0⟩
def MEM_CFG_RATE (i : Nat) : Loc := ⟨Block.mem.base i + (0x040), 31, 30⟩
def MEM_CFG_DEVS (i : Nat) : Loc := ⟨Block.mem.base i + (0x040), 29, 28⟩
def MEM_CFG_DENSITY (i : Nat) : Loc := ⟨Block.mem.base i + (0x040), 27, 26⟩
def MEM_CFG_PRESERVE (i : Nat) : Loc := ⟨Block.mem.base i + (0x040), 25, 25⟩
def MEM_CFG_RETIRE (i : Nat) : Loc := ⟨Block.mem.base i + (0x040), 24, 24⟩
def MEM_STAT (i : Nat) : Loc := ⟨Block.mem.base i + (0x044), 31, 0⟩
def MEM_STAT_STATE (i : Nat) : Loc := ⟨Block.mem.base i + (0x044), 31, 28⟩
def MEM_STAT_RATE_NOW (i : Nat) : Loc := ⟨Block.mem.base i + (0x044), 27, 26⟩
def MEM_STAT_CAUSE (i : Nat) : Loc := ⟨Block.mem.base i + (0x044), 25, 23⟩
def MEM_IL (i : Nat) : Loc := ⟨Block.mem.base i + (0x048), 31, 0⟩
def MEM_IL_IN_IL (i : Nat) : Loc := ⟨Block.mem.base i + (0x048), 31, 31⟩
def MEM_IL_IDX (i : Nat) : Loc := ⟨Block.mem.base i + (0x048), 30, 26⟩
def MEM_IL_NACT (i : Nat) : Loc := ⟨Block.mem.base i + (0x048), 25, 21⟩
def MEM_LINES (i : Nat) : Loc := ⟨Block.mem.base i + (0x04C), 31, 0⟩
def MEM_LINES_CW (i : Nat) : Loc := ⟨Block.mem.base i + (0x04C), 22, 0⟩
def MEM_TIMING (i : Nat) : Loc := ⟨Block.mem.base i + (0x050), 31, 0⟩
def MEM_TIMING_RLAT (i : Nat) : Loc := ⟨Block.mem.base i + (0x050), 31, 24⟩
def MEM_TIMING_WLAT (i : Nat) : Loc := ⟨Block.mem.base i + (0x050), 23, 16⟩
def MEM_TIMING_CSHI (i : Nat) : Loc := ⟨Block.mem.base i + (0x050), 15, 8⟩
def MEM_OPC (i : Nat) : Loc := ⟨Block.mem.base i + (0x054), 31, 0⟩
def MEM_OPC_RD (i : Nat) : Loc := ⟨Block.mem.base i + (0x054), 31, 24⟩
def MEM_OPC_WR (i : Nat) : Loc := ⟨Block.mem.base i + (0x054), 23, 16⟩
def MEM_OPC_RRD (i : Nat) : Loc := ⟨Block.mem.base i + (0x054), 15, 8⟩
def MEM_OPC_RWR (i : Nat) : Loc := ⟨Block.mem.base i + (0x054), 7, 0⟩
def MEM_MODE (i : Nat) : Loc := ⟨Block.mem.base i + (0x058), 31, 0⟩
def MEM_MODE_MADDR (i : Nat) : Loc := ⟨Block.mem.base i + (0x058), 31, 24⟩
def MEM_MODE_V1800 (i : Nat) : Loc := ⟨Block.mem.base i + (0x058), 23, 16⟩
def MEM_MODE_V1200 (i : Nat) : Loc := ⟨Block.mem.base i + (0x058), 15, 8⟩
def MEM_CRC_POLY (i : Nat) : Loc := ⟨Block.mem.base i + (0x05C), 31, 0⟩
def MEM_CRC_POLY_POLY (i : Nat) : Loc := ⟨Block.mem.base i + (0x05C), 15, 0⟩
def MEM_TRAIN (i : Nat) : Loc := ⟨Block.mem.base i + (0x060), 31, 0⟩
def MEM_TRAIN_RDQS (i : Nat) : Loc := ⟨Block.mem.base i + (0x060), 31, 24⟩
def MEM_TRAIN_WLEV (i : Nat) : Loc := ⟨Block.mem.base i + (0x060), 23, 16⟩
def MEM_DESKEW (i : Nat) : Loc := ⟨Block.mem.base i + (0x064), 31, 0⟩
def MEM_FILL_START (i : Nat) : Loc := ⟨Block.mem.base i + (0x068), 31, 0⟩
def MEM_FILL_START_LINE (i : Nat) : Loc := ⟨Block.mem.base i + (0x068), 22, 0⟩
def MEM_FILL_CTRL (i : Nat) : Loc := ⟨Block.mem.base i + (0x06C), 31, 0⟩
def MEM_FILL_CTRL_GO (i : Nat) : Loc := ⟨Block.mem.base i + (0x06C), 31, 31⟩
def MEM_FILL_CTRL_BUSY (i : Nat) : Loc := ⟨Block.mem.base i + (0x06C), 30, 30⟩
def MEM_FILL_CTRL_COUNT (i : Nat) : Loc := ⟨Block.mem.base i + (0x06C), 22, 0⟩
def MEM_ERR_LINE (i : Nat) : Loc := ⟨Block.mem.base i + (0x070), 31, 0⟩
def MEM_ERR_LINE_VALID (i : Nat) : Loc := ⟨Block.mem.base i + (0x070), 31, 31⟩
def MEM_ERR_LINE_WRITE (i : Nat) : Loc := ⟨Block.mem.base i + (0x070), 30, 30⟩
def MEM_ERR_LINE_LINE (i : Nat) : Loc := ⟨Block.mem.base i + (0x070), 22, 0⟩
def MEM_RD_LINES (i : Nat) : Loc := ⟨Block.mem.base i + (0x074), 31, 0⟩
def MEM_WR_LINES (i : Nat) : Loc := ⟨Block.mem.base i + (0x078), 31, 0⟩
def MEM_CRC_RETRY (i : Nat) : Loc := ⟨Block.mem.base i + (0x07C), 31, 0⟩
def MEM_DATA_FAIL (i : Nat) : Loc := ⟨Block.mem.base i + (0x080), 31, 0⟩

/-! Fields of the CRC registers. -/
def CRC_SRC (i : Nat) : Loc := ⟨Block.crc.base i + (0x040), 31, 0⟩
def CRC_SRC_MODE (i : Nat) : Loc := ⟨Block.crc.base i + (0x040), 31, 30⟩
def CRC_SRC_DISCARD (i : Nat) : Loc := ⟨Block.crc.base i + (0x040), 29, 29⟩
def CRC_SRC_DIR (i : Nat) : Loc := ⟨Block.crc.base i + (0x040), 28, 28⟩
def CRC_SRC_SRC (i : Nat) : Loc := ⟨Block.crc.base i + (0x040), 23, 16⟩
def CRC_SRC_TYPEMASK (i : Nat) : Loc := ⟨Block.crc.base i + (0x040), 15, 0⟩
def CRC_POLY (i : Nat) : Loc := ⟨Block.crc.base i + (0x044), 31, 0⟩
def CRC_INIT (i : Nat) : Loc := ⟨Block.crc.base i + (0x048), 31, 0⟩
def CRC_XOROUT (i : Nat) : Loc := ⟨Block.crc.base i + (0x04C), 31, 0⟩
def CRC_FMT (i : Nat) : Loc := ⟨Block.crc.base i + (0x050), 31, 0⟩
def CRC_FMT_REFIN (i : Nat) : Loc := ⟨Block.crc.base i + (0x050), 31, 31⟩
def CRC_FMT_REFOUT (i : Nat) : Loc := ⟨Block.crc.base i + (0x050), 30, 30⟩
def CRC_FMT_MSBFIRST (i : Nat) : Loc := ⟨Block.crc.base i + (0x050), 29, 29⟩
def CRC_FMT_FOLD (i : Nat) : Loc := ⟨Block.crc.base i + (0x050), 28, 27⟩
def CRC_FMT_WIDTH (i : Nat) : Loc := ⟨Block.crc.base i + (0x050), 5, 0⟩
def CRC_SEQ (i : Nat) : Loc := ⟨Block.crc.base i + (0x054), 31, 0⟩
def CRC_LAST (i : Nat) : Loc := ⟨Block.crc.base i + (0x058), 31, 0⟩
def CRC_MSGS (i : Nat) : Loc := ⟨Block.crc.base i + (0x05C), 31, 0⟩
def CRC_FAILS (i : Nat) : Loc := ⟨Block.crc.base i + (0x060), 31, 0⟩
def CRC_DISCARDS (i : Nat) : Loc := ⟨Block.crc.base i + (0x064), 31, 0⟩
def CRC_GAPS (i : Nat) : Loc := ⟨Block.crc.base i + (0x068), 31, 0⟩

/-! Fields of the TILE registers. -/
def TILE_PAR_CFG (i : Nat) : Loc := ⟨Block.tile.base i + (0x300), 31, 0⟩
def TILE_PAR_CFG_REP_EN (i : Nat) : Loc := ⟨Block.tile.base i + (0x300), 31, 31⟩
def TILE_PAR_CFG_WAIT (i : Nat) : Loc := ⟨Block.tile.base i + (0x300), 23, 16⟩
def TILE_PAR_CFG_PERIOD (i : Nat) : Loc := ⟨Block.tile.base i + (0x300), 15, 0⟩
def TILE_PAR_IMG (i : Nat) : Loc := ⟨Block.tile.base i + (0x304), 31, 0⟩
def TILE_PAR_IMG_VALID (i : Nat) : Loc := ⟨Block.tile.base i + (0x304), 31, 31⟩
def TILE_PAR_IMG_BASE (i : Nat) : Loc := ⟨Block.tile.base i + (0x304), 21, 0⟩
def TILE_PAR_SCRATCH (i : Nat) : Loc := ⟨Block.tile.base i + (0x308), 31, 0⟩
def TILE_PAR_SCRATCH_LEN (i : Nat) : Loc := ⟨Block.tile.base i + (0x308), 24, 16⟩
def TILE_PAR_SCRATCH_BASE (i : Nat) : Loc := ⟨Block.tile.base i + (0x308), 8, 0⟩
def TILE_PAR_PEND (i : Nat) : Loc := ⟨Block.tile.base i + (0x30C), 31, 0⟩
def TILE_PAR_PEND_VALID (i : Nat) : Loc := ⟨Block.tile.base i + (0x30C), 31, 31⟩
def TILE_PAR_PEND_DONE (i : Nat) : Loc := ⟨Block.tile.base i + (0x30C), 30, 30⟩
def TILE_PAR_PEND_FAIL (i : Nat) : Loc := ⟨Block.tile.base i + (0x30C), 29, 29⟩
def TILE_PAR_PEND_POOL (i : Nat) : Loc := ⟨Block.tile.base i + (0x30C), 28, 28⟩
def TILE_PAR_PEND_WORD (i : Nat) : Loc := ⟨Block.tile.base i + (0x30C), 14, 0⟩
def TILE_PAR_LOG (i : Nat) : Loc := ⟨Block.tile.base i + (0x310), 31, 0⟩
def TILE_PAR_LOG_VALID (i : Nat) : Loc := ⟨Block.tile.base i + (0x310), 31, 31⟩
def TILE_PAR_LOG_OUTCOME (i : Nat) : Loc := ⟨Block.tile.base i + (0x310), 30, 28⟩
def TILE_PAR_LOG_MEM (i : Nat) : Loc := ⟨Block.tile.base i + (0x310), 27, 26⟩
def TILE_PAR_LOG_PORT (i : Nat) : Loc := ⟨Block.tile.base i + (0x310), 25, 23⟩
def TILE_PAR_LOG_BYTEMASK (i : Nat) : Loc := ⟨Block.tile.base i + (0x310), 22, 15⟩
def TILE_PAR_LOG_WORD (i : Nat) : Loc := ⟨Block.tile.base i + (0x310), 14, 0⟩
def TILE_PAR_LOG_T (i : Nat) : Loc := ⟨Block.tile.base i + (0x314), 31, 0⟩
def TILE_PAR_CORR (i : Nat) : Loc := ⟨Block.tile.base i + (0x318), 31, 0⟩
def TILE_PAR_UNCORR (i : Nat) : Loc := ⟨Block.tile.base i + (0x31C), 31, 0⟩
def TILE_PAR_LOST (i : Nat) : Loc := ⟨Block.tile.base i + (0x320), 31, 0⟩
def TILE_PAR_DISCARD (i : Nat) : Loc := ⟨Block.tile.base i + (0x324), 31, 0⟩
def TILE_RETIRE_REG (i n : Nat) : Loc := ⟨Block.tile.base i + (0x328 + 4 * n), 31, 0⟩
def TILE_RETIRE_REG_VALID (i n : Nat) : Loc := ⟨Block.tile.base i + (0x328 + 4 * n), 31, 31⟩
def TILE_RETIRE_REG_MEM (i n : Nat) : Loc := ⟨Block.tile.base i + (0x328 + 4 * n), 30, 29⟩
def TILE_RETIRE_REG_BANK (i n : Nat) : Loc := ⟨Block.tile.base i + (0x328 + 4 * n), 13, 8⟩
def TILE_RETIRE_REG_REGION (i n : Nat) : Loc := ⟨Block.tile.base i + (0x328 + 4 * n), 5, 0⟩
def TILE_NDIS (i n : Nat) : Loc := ⟨Block.tile.base i + (0x348 + 4 * n), 31, 0⟩
def TILE_RETIRE (i : Nat) : Loc := ⟨Block.tile.base i + (0x368), 31, 0⟩
def TILE_RETIRE_SYN (i : Nat) : Loc := ⟨Block.tile.base i + (0x368), 7, 0⟩
def TILE_REP_STAT (i : Nat) : Loc := ⟨Block.tile.base i + (0x36C), 31, 0⟩
def TILE_REP_STAT_PASSES (i : Nat) : Loc := ⟨Block.tile.base i + (0x36C), 31, 16⟩
def TILE_REP_STAT_MEM (i : Nat) : Loc := ⟨Block.tile.base i + (0x36C), 15, 14⟩
def TILE_REP_STAT_BANK (i : Nat) : Loc := ⟨Block.tile.base i + (0x36C), 13, 8⟩
def TILE_REP_STAT_REGION (i : Nat) : Loc := ⟨Block.tile.base i + (0x36C), 5, 0⟩

/-! Fields of the CLU registers. -/
def CLU_PAR_CFG (i : Nat) : Loc := ⟨Block.clu.base i + (0x300), 31, 0⟩
def CLU_PAR_CFG_LEAK (i : Nat) : Loc := ⟨Block.clu.base i + (0x300), 15, 8⟩
def CLU_PAR_CFG_SIZE (i : Nat) : Loc := ⟨Block.clu.base i + (0x300), 7, 0⟩
def CLU_PAR_LEVEL (i : Nat) : Loc := ⟨Block.clu.base i + (0x304), 31, 0⟩
def CLU_PAR_LEVEL_LEVEL (i : Nat) : Loc := ⟨Block.clu.base i + (0x304), 7, 0⟩
def CLU_PAR_OVF (i : Nat) : Loc := ⟨Block.clu.base i + (0x308), 31, 0⟩
def CLU_PAR_LOG (i : Nat) : Loc := ⟨Block.clu.base i + (0x30C), 31, 0⟩
def CLU_PAR_LOG_VALID (i : Nat) : Loc := ⟨Block.clu.base i + (0x30C), 31, 31⟩
def CLU_PAR_LOG_PORT (i : Nat) : Loc := ⟨Block.clu.base i + (0x30C), 30, 28⟩
def CLU_PAR_LOG_BANK (i : Nat) : Loc := ⟨Block.clu.base i + (0x30C), 27, 24⟩
def CLU_PAR_LOG_WORD (i : Nat) : Loc := ⟨Block.clu.base i + (0x30C), 14, 0⟩
def CLU_PAR_UNCORR (i : Nat) : Loc := ⟨Block.clu.base i + (0x310), 31, 0⟩
def CLU_REP_CFG (i : Nat) : Loc := ⟨Block.clu.base i + (0x314), 31, 0⟩
def CLU_REP_CFG_REP_EN (i : Nat) : Loc := ⟨Block.clu.base i + (0x314), 31, 31⟩
def CLU_REP_CFG_PERIOD (i : Nat) : Loc := ⟨Block.clu.base i + (0x314), 15, 0⟩
def CLU_REP_STAT (i : Nat) : Loc := ⟨Block.clu.base i + (0x318), 31, 0⟩
def CLU_REP_STAT_PASSES (i : Nat) : Loc := ⟨Block.clu.base i + (0x318), 31, 16⟩
def CLU_REP_STAT_BANK (i : Nat) : Loc := ⟨Block.clu.base i + (0x318), 15, 12⟩
def CLU_REP_STAT_REGION (i : Nat) : Loc := ⟨Block.clu.base i + (0x318), 8, 0⟩
def CLU_RETIRE_BANK (i : Nat) : Loc := ⟨Block.clu.base i + (0x31C), 31, 0⟩
def CLU_RETIRE_BANK_BANK (i : Nat) : Loc := ⟨Block.clu.base i + (0x31C), 15, 0⟩
def CLU_RETIRE_T0 (i : Nat) : Loc := ⟨Block.clu.base i + (0x320), 31, 0⟩
def CLU_RETIRE_T1 (i : Nat) : Loc := ⟨Block.clu.base i + (0x324), 31, 0⟩
def CLU_SEC_WIN (i : Nat) : Loc := ⟨Block.clu.base i + (0x328), 31, 0⟩
def CLU_SEC_WIN_LOCK (i : Nat) : Loc := ⟨Block.clu.base i + (0x328), 31, 31⟩
def CLU_SEC_WIN_WIPED (i : Nat) : Loc := ⟨Block.clu.base i + (0x328), 30, 30⟩
def CLU_SEC_WIN_WIPING (i : Nat) : Loc := ⟨Block.clu.base i + (0x328), 29, 29⟩
def CLU_SEC_WIN_SIZE (i : Nat) : Loc := ⟨Block.clu.base i + (0x328), 11, 8⟩
def CLU_SEC_WIN_EN (i : Nat) : Loc := ⟨Block.clu.base i + (0x328), 7, 7⟩
def CLU_SEC_WIN_BASE (i : Nat) : Loc := ⟨Block.clu.base i + (0x328), 5, 0⟩

/-! Fields of the CSI registers. -/
def CSI_CFG (i : Nat) : Loc := ⟨Block.csi.base i + (0x040), 31, 0⟩
def CSI_CFG_LANES (i : Nat) : Loc := ⟨Block.csi.base i + (0x040), 31, 30⟩
def CSI_CFG_VC (i : Nat) : Loc := ⟨Block.csi.base i + (0x040), 29, 26⟩
def CSI_CFG_DT (i : Nat) : Loc := ⟨Block.csi.base i + (0x040), 25, 20⟩
def CSI_CFG_PAYLOAD (i : Nat) : Loc := ⟨Block.csi.base i + (0x040), 19, 16⟩
def CSI_CFG_SPILL_EN (i : Nat) : Loc := ⟨Block.csi.base i + (0x040), 15, 15⟩
def CSI_FMT0 (i : Nat) : Loc := ⟨Block.csi.base i + (0x044), 31, 0⟩
def CSI_FMT0_XPOS (i : Nat) : Loc := ⟨Block.csi.base i + (0x044), 31, 26⟩
def CSI_FMT0_XW (i : Nat) : Loc := ⟨Block.csi.base i + (0x044), 25, 22⟩
def CSI_FMT0_YPOS (i : Nat) : Loc := ⟨Block.csi.base i + (0x044), 21, 16⟩
def CSI_FMT0_YW (i : Nat) : Loc := ⟨Block.csi.base i + (0x044), 15, 12⟩
def CSI_FMT0_PPOS (i : Nat) : Loc := ⟨Block.csi.base i + (0x044), 11, 6⟩
def CSI_FMT0_PEN (i : Nat) : Loc := ⟨Block.csi.base i + (0x044), 5, 5⟩
def CSI_FMT0_PINV (i : Nat) : Loc := ⟨Block.csi.base i + (0x044), 4, 4⟩
def CSI_FMT0_EW (i : Nat) : Loc := ⟨Block.csi.base i + (0x044), 3, 0⟩
def CSI_FMT1 (i : Nat) : Loc := ⟨Block.csi.base i + (0x048), 31, 0⟩
def CSI_FMT1_TPOS (i : Nat) : Loc := ⟨Block.csi.base i + (0x048), 31, 26⟩
def CSI_FMT1_TWM1 (i : Nat) : Loc := ⟨Block.csi.base i + (0x048), 25, 21⟩
def CSI_FMT1_TMODE (i : Nat) : Loc := ⟨Block.csi.base i + (0x048), 20, 19⟩
def CSI_FMT1_KPOS (i : Nat) : Loc := ⟨Block.csi.base i + (0x048), 18, 13⟩
def CSI_FMT1_KW (i : Nat) : Loc := ⟨Block.csi.base i + (0x048), 12, 11⟩
def CSI_FMT1_KVAL (i : Nat) : Loc := ⟨Block.csi.base i + (0x048), 10, 8⟩
def CSI_GEOM (i : Nat) : Loc := ⟨Block.csi.base i + (0x04C), 31, 0⟩
def CSI_GEOM_BW (i : Nat) : Loc := ⟨Block.csi.base i + (0x04C), 31, 24⟩
def CSI_GEOM_BH (i : Nat) : Loc := ⟨Block.csi.base i + (0x04C), 23, 16⟩
def CSI_GEOM_YSTRIDE (i : Nat) : Loc := ⟨Block.csi.base i + (0x04C), 15, 8⟩
def CSI_GEOM_PSTRIDE (i : Nat) : Loc := ⟨Block.csi.base i + (0x04C), 7, 0⟩
def CSI_BUCKET (i : Nat) : Loc := ⟨Block.csi.base i + (0x050), 31, 0⟩
def CSI_BUCKET_RATE (i : Nat) : Loc := ⟨Block.csi.base i + (0x050), 31, 16⟩
def CSI_BUCKET_DEPTH (i : Nat) : Loc := ⟨Block.csi.base i + (0x050), 15, 0⟩
def CSI_SPILL (i : Nat) : Loc := ⟨Block.csi.base i + (0x054), 31, 0⟩
def CSI_SPILL_AGE (i : Nat) : Loc := ⟨Block.csi.base i + (0x054), 31, 24⟩
def CSI_SPILL_BASE (i : Nat) : Loc := ⟨Block.csi.base i + (0x054), 11, 0⟩
def CSI_MAP_IDX (i : Nat) : Loc := ⟨Block.csi.base i + (0x058), 31, 0⟩
def CSI_MAP_IDX_AUTO (i : Nat) : Loc := ⟨Block.csi.base i + (0x058), 31, 31⟩
def CSI_MAP_IDX_IDX (i : Nat) : Loc := ⟨Block.csi.base i + (0x058), 13, 0⟩
def CSI_MAP_DATA (i : Nat) : Loc := ⟨Block.csi.base i + (0x05C), 31, 0⟩
def CSI_LINK (i : Nat) : Loc := ⟨Block.csi.base i + (0x060), 31, 0⟩
def CSI_LINK_CLK_ACTIVE (i : Nat) : Loc := ⟨Block.csi.base i + (0x060), 31, 31⟩
def CSI_LINK_DESKEWED (i : Nat) : Loc := ⟨Block.csi.base i + (0x060), 30, 30⟩
def CSI_LINK_HS (i : Nat) : Loc := ⟨Block.csi.base i + (0x060), 3, 0⟩
def CSI_TS_LAST (i : Nat) : Loc := ⟨Block.csi.base i + (0x064), 31, 0⟩
def CSI_TS_SEAL (i : Nat) : Loc := ⟨Block.csi.base i + (0x068), 31, 0⟩
def CSI_SPILL_LVL (i : Nat) : Loc := ⟨Block.csi.base i + (0x06C), 31, 0⟩
def CSI_SPILL_LVL_ENTRIES (i : Nat) : Loc := ⟨Block.csi.base i + (0x06C), 23, 0⟩
def CSI_PKTS (i : Nat) : Loc := ⟨Block.csi.base i + (0x080), 31, 0⟩
def CSI_OTHER (i : Nat) : Loc := ⟨Block.csi.base i + (0x084), 31, 0⟩
def CSI_HDR_CORR (i : Nat) : Loc := ⟨Block.csi.base i + (0x088), 31, 0⟩
def CSI_HDR_ERR (i : Nat) : Loc := ⟨Block.csi.base i + (0x08C), 31, 0⟩
def CSI_CRC_ERR (i : Nat) : Loc := ⟨Block.csi.base i + (0x090), 31, 0⟩
def CSI_SKIP (i : Nat) : Loc := ⟨Block.csi.base i + (0x094), 31, 0⟩
def CSI_EVENTS (i : Nat) : Loc := ⟨Block.csi.base i + (0x098), 31, 0⟩
def CSI_OOMAP (i : Nat) : Loc := ⟨Block.csi.base i + (0x09C), 31, 0⟩
def CSI_DROP_BUCKET (i : Nat) : Loc := ⟨Block.csi.base i + (0x0A0), 31, 0⟩
def CSI_DROP_NOROOM (i : Nat) : Loc := ⟨Block.csi.base i + (0x0A4), 31, 0⟩
def CSI_SPILLED (i : Nat) : Loc := ⟨Block.csi.base i + (0x0A8), 31, 0⟩
def CSI_SPILL_STALE (i : Nat) : Loc := ⟨Block.csi.base i + (0x0AC), 31, 0⟩
def CSI_SPILL_FAIL (i : Nat) : Loc := ⟨Block.csi.base i + (0x0B0), 31, 0⟩
def CSI_INJ (i : Nat) : Loc := ⟨Block.csi.base i + (0x0B4), 31, 0⟩

/-! Fields of the AER registers. -/
def AER_CFG (n : Nat) : Loc := ⟨Block.aer.base 0 + (0x040 + 128 * n), 31, 0⟩
def AER_CFG_PEN (n : Nat) : Loc := ⟨Block.aer.base 0 + (0x040 + 128 * n), 31, 31⟩
def AER_CFG_PAYLOAD (n : Nat) : Loc := ⟨Block.aer.base 0 + (0x040 + 128 * n), 19, 16⟩
def AER_FMT (n : Nat) : Loc := ⟨Block.aer.base 0 + (0x044 + 128 * n), 31, 0⟩
def AER_FMT_XPOS (n : Nat) : Loc := ⟨Block.aer.base 0 + (0x044 + 128 * n), 31, 28⟩
def AER_FMT_XW (n : Nat) : Loc := ⟨Block.aer.base 0 + (0x044 + 128 * n), 27, 24⟩
def AER_FMT_YPOS (n : Nat) : Loc := ⟨Block.aer.base 0 + (0x044 + 128 * n), 23, 20⟩
def AER_FMT_YW (n : Nat) : Loc := ⟨Block.aer.base 0 + (0x044 + 128 * n), 19, 16⟩
def AER_FMT_PPOS (n : Nat) : Loc := ⟨Block.aer.base 0 + (0x044 + 128 * n), 15, 12⟩
def AER_FMT_POLEN (n : Nat) : Loc := ⟨Block.aer.base 0 + (0x044 + 128 * n), 11, 11⟩
def AER_FMT_PINV (n : Nat) : Loc := ⟨Block.aer.base 0 + (0x044 + 128 * n), 10, 10⟩
def AER_GEOM (n : Nat) : Loc := ⟨Block.aer.base 0 + (0x048 + 128 * n), 31, 0⟩
def AER_GEOM_BW (n : Nat) : Loc := ⟨Block.aer.base 0 + (0x048 + 128 * n), 31, 24⟩
def AER_GEOM_BH (n : Nat) : Loc := ⟨Block.aer.base 0 + (0x048 + 128 * n), 23, 16⟩
def AER_GEOM_YSTRIDE (n : Nat) : Loc := ⟨Block.aer.base 0 + (0x048 + 128 * n), 15, 8⟩
def AER_GEOM_PSTRIDE (n : Nat) : Loc := ⟨Block.aer.base 0 + (0x048 + 128 * n), 7, 0⟩
def AER_BUCKET (n : Nat) : Loc := ⟨Block.aer.base 0 + (0x04C + 128 * n), 31, 0⟩
def AER_BUCKET_RATE (n : Nat) : Loc := ⟨Block.aer.base 0 + (0x04C + 128 * n), 31, 16⟩
def AER_BUCKET_DEPTH (n : Nat) : Loc := ⟨Block.aer.base 0 + (0x04C + 128 * n), 15, 0⟩
def AER_MAP_IDX (n : Nat) : Loc := ⟨Block.aer.base 0 + (0x050 + 128 * n), 31, 0⟩
def AER_MAP_IDX_AUTO (n : Nat) : Loc := ⟨Block.aer.base 0 + (0x050 + 128 * n), 31, 31⟩
def AER_MAP_IDX_IDX (n : Nat) : Loc := ⟨Block.aer.base 0 + (0x050 + 128 * n), 11, 0⟩
def AER_MAP_DATA (n : Nat) : Loc := ⟨Block.aer.base 0 + (0x054 + 128 * n), 31, 0⟩
def AER_EVENTS (n : Nat) : Loc := ⟨Block.aer.base 0 + (0x058 + 128 * n), 31, 0⟩
def AER_OOMAP (n : Nat) : Loc := ⟨Block.aer.base 0 + (0x05C + 128 * n), 31, 0⟩
def AER_DROP_BUCKET (n : Nat) : Loc := ⟨Block.aer.base 0 + (0x060 + 128 * n), 31, 0⟩
def AER_DROP_NOROOM (n : Nat) : Loc := ⟨Block.aer.base 0 + (0x064 + 128 * n), 31, 0⟩
def AER_INJ (n : Nat) : Loc := ⟨Block.aer.base 0 + (0x068 + 128 * n), 31, 0⟩

/-! Fields of the T1S registers. -/
def T1S_CFG (i : Nat) : Loc := ⟨Block.t1s.base i + (0x040), 31, 0⟩
def T1S_CFG_TX_EN (i : Nat) : Loc := ⟨Block.t1s.base i + (0x040), 31, 31⟩
def T1S_CFG_PLCA_EN (i : Nat) : Loc := ⟨Block.t1s.base i + (0x040), 30, 30⟩
def T1S_CFG_NODE_ID (i : Nat) : Loc := ⟨Block.t1s.base i + (0x040), 29, 27⟩
def T1S_CFG_NODE_CNTM1 (i : Nat) : Loc := ⟨Block.t1s.base i + (0x040), 26, 24⟩
def T1S_CFG_TO_TMR (i : Nat) : Loc := ⟨Block.t1s.base i + (0x040), 23, 16⟩
def T1S_CFG_BURST_CNT (i : Nat) : Loc := ⟨Block.t1s.base i + (0x040), 15, 8⟩
def T1S_CFG_BURST_TMR (i : Nat) : Loc := ⟨Block.t1s.base i + (0x040), 7, 0⟩
def T1S_MAC_LO (i : Nat) : Loc := ⟨Block.t1s.base i + (0x044), 31, 0⟩
def T1S_MAC_HI (i : Nat) : Loc := ⟨Block.t1s.base i + (0x048), 31, 0⟩
def T1S_MAC_HI_BCAST (i : Nat) : Loc := ⟨Block.t1s.base i + (0x048), 31, 31⟩
def T1S_MAC_HI_MAC (i : Nat) : Loc := ⟨Block.t1s.base i + (0x048), 15, 0⟩
def T1S_RXCFG (i : Nat) : Loc := ⟨Block.t1s.base i + (0x04C), 31, 0⟩
def T1S_RXCFG_FRAME_RATE (i : Nat) : Loc := ⟨Block.t1s.base i + (0x04C), 15, 0⟩
def T1S_BUCKET (i : Nat) : Loc := ⟨Block.t1s.base i + (0x050), 31, 0⟩
def T1S_BUCKET_RATE (i : Nat) : Loc := ⟨Block.t1s.base i + (0x050), 31, 16⟩
def T1S_BUCKET_DEPTH (i : Nat) : Loc := ⟨Block.t1s.base i + (0x050), 15, 0⟩
def T1S_STAT (i : Nat) : Loc := ⟨Block.t1s.base i + (0x054), 31, 0⟩
def T1S_STAT_PLCA_UP (i : Nat) : Loc := ⟨Block.t1s.base i + (0x054), 31, 31⟩
def T1S_SRC_LO (i n : Nat) : Loc := ⟨Block.t1s.base i + (0x100 + 16 * n), 31, 0⟩
def T1S_SRC_HI (i n : Nat) : Loc := ⟨Block.t1s.base i + (0x104 + 16 * n), 31, 0⟩
def T1S_SRC_HI_VALID (i n : Nat) : Loc := ⟨Block.t1s.base i + (0x104 + 16 * n), 31, 31⟩
def T1S_SRC_HI_MAC (i n : Nat) : Loc := ⟨Block.t1s.base i + (0x104 + 16 * n), 15, 0⟩
def T1S_SRC_TYPE (i n : Nat) : Loc := ⟨Block.t1s.base i + (0x108 + 16 * n), 31, 0⟩
def T1S_SRC_TYPE_ETYPE (i n : Nat) : Loc := ⟨Block.t1s.base i + (0x108 + 16 * n), 15, 0⟩
def T1S_RULE_SEL (i n : Nat) : Loc := ⟨Block.t1s.base i + (0x200 + 16 * n), 31, 0⟩
def T1S_RULE_SEL_EN (i n : Nat) : Loc := ⟨Block.t1s.base i + (0x200 + 16 * n), 31, 31⟩
def T1S_RULE_SEL_SRC (i n : Nat) : Loc := ⟨Block.t1s.base i + (0x200 + 16 * n), 30, 28⟩
def T1S_RULE_SEL_SIGNED (i n : Nat) : Loc := ⟨Block.t1s.base i + (0x200 + 16 * n), 27, 27⟩
def T1S_RULE_SEL_BE (i n : Nat) : Loc := ⟨Block.t1s.base i + (0x200 + 16 * n), 26, 26⟩
def T1S_RULE_SEL_WIDTH (i n : Nat) : Loc := ⟨Block.t1s.base i + (0x200 + 16 * n), 25, 24⟩
def T1S_RULE_SEL_NEG (i n : Nat) : Loc := ⟨Block.t1s.base i + (0x200 + 16 * n), 23, 23⟩
def T1S_RULE_SEL_TBL (i n : Nat) : Loc := ⟨Block.t1s.base i + (0x200 + 16 * n), 22, 22⟩
def T1S_RULE_SEL_OFFSET (i n : Nat) : Loc := ⟨Block.t1s.base i + (0x200 + 16 * n), 21, 11⟩
def T1S_RULE_SCALE (i n : Nat) : Loc := ⟨Block.t1s.base i + (0x204 + 16 * n), 31, 0⟩
def T1S_RULE_SCALE_S (i n : Nat) : Loc := ⟨Block.t1s.base i + (0x204 + 16 * n), 12, 8⟩
def T1S_RULE_SCALE_M (i n : Nat) : Loc := ⟨Block.t1s.base i + (0x204 + 16 * n), 7, 0⟩
def T1S_RULE_TGT (i n : Nat) : Loc := ⟨Block.t1s.base i + (0x208 + 16 * n), 31, 0⟩
def T1S_RULE_TGT_PRIO (i n : Nat) : Loc := ⟨Block.t1s.base i + (0x208 + 16 * n), 29, 28⟩
def T1S_RULE_TGT_TILE (i n : Nat) : Loc := ⟨Block.t1s.base i + (0x208 + 16 * n), 25, 16⟩
def T1S_RULE_TGT_AXON (i n : Nat) : Loc := ⟨Block.t1s.base i + (0x208 + 16 * n), 15, 0⟩
def T1S_THR (i n : Nat) : Loc := ⟨Block.t1s.base i + (0x400 + 4 * n), 31, 0⟩
def T1S_ACT_DST_LO (i n : Nat) : Loc := ⟨Block.t1s.base i + (0x800 + 256 * n), 31, 0⟩
def T1S_ACT_DST_HI (i n : Nat) : Loc := ⟨Block.t1s.base i + (0x804 + 256 * n), 31, 0⟩
def T1S_ACT_DST_HI_ETYPE (i n : Nat) : Loc := ⟨Block.t1s.base i + (0x804 + 256 * n), 31, 16⟩
def T1S_ACT_DST_HI_MAC (i n : Nat) : Loc := ⟨Block.t1s.base i + (0x804 + 256 * n), 15, 0⟩
def T1S_ACT_CTRL (i n : Nat) : Loc := ⟨Block.t1s.base i + (0x808 + 256 * n), 31, 0⟩
def T1S_ACT_CTRL_EN (i n : Nat) : Loc := ⟨Block.t1s.base i + (0x808 + 256 * n), 31, 31⟩
def T1S_ACT_CTRL_PERIOD (i n : Nat) : Loc := ⟨Block.t1s.base i + (0x808 + 256 * n), 23, 16⟩
def T1S_ACT_CTRL_SEND (i n : Nat) : Loc := ⟨Block.t1s.base i + (0x808 + 256 * n), 15, 15⟩
def T1S_ACT_CTRL_LEN (i n : Nat) : Loc := ⟨Block.t1s.base i + (0x808 + 256 * n), 6, 0⟩
def T1S_ACT_BUF (i n w : Nat) : Loc := ⟨Block.t1s.base i + (0x840 + 256 * n + 4 * w), 31, 0⟩
def T1S_RX_FRAMES (i : Nat) : Loc := ⟨Block.t1s.base i + (0x060), 31, 0⟩
def T1S_TX_FRAMES (i : Nat) : Loc := ⟨Block.t1s.base i + (0x064), 31, 0⟩
def T1S_FCS_ERR (i : Nat) : Loc := ⟨Block.t1s.base i + (0x068), 31, 0⟩
def T1S_SYM_ERR (i : Nat) : Loc := ⟨Block.t1s.base i + (0x06C), 31, 0⟩
def T1S_COLL (i : Nat) : Loc := ⟨Block.t1s.base i + (0x070), 31, 0⟩
def T1S_LATE_COLL (i : Nat) : Loc := ⟨Block.t1s.base i + (0x074), 31, 0⟩
def T1S_EXC_COLL (i : Nat) : Loc := ⟨Block.t1s.base i + (0x078), 31, 0⟩
def T1S_STRANGER (i : Nat) : Loc := ⟨Block.t1s.base i + (0x07C), 31, 0⟩
def T1S_RATE_DROP (i : Nat) : Loc := ⟨Block.t1s.base i + (0x080), 31, 0⟩
def T1S_RULE_SHORT (i : Nat) : Loc := ⟨Block.t1s.base i + (0x084), 31, 0⟩
def T1S_CONV (i : Nat) : Loc := ⟨Block.t1s.base i + (0x088), 31, 0⟩
def T1S_CLIP (i : Nat) : Loc := ⟨Block.t1s.base i + (0x08C), 31, 0⟩
def T1S_DROP_BUCKET (i : Nat) : Loc := ⟨Block.t1s.base i + (0x090), 31, 0⟩
def T1S_DROP_NOROOM (i : Nat) : Loc := ⟨Block.t1s.base i + (0x094), 31, 0⟩
def T1S_INJ (i : Nat) : Loc := ⟨Block.t1s.base i + (0x098), 31, 0⟩
def T1S_TX_REPLACED (i : Nat) : Loc := ⟨Block.t1s.base i + (0x09C), 31, 0⟩

/-! Fields of the GPIO registers. -/
def GPIO_DIR : Loc := ⟨Block.gpio.base 0 + (0x040), 31, 0⟩
def GPIO_DIR_DIR : Loc := ⟨Block.gpio.base 0 + (0x040), 15, 0⟩
def GPIO_OUT : Loc := ⟨Block.gpio.base 0 + (0x044), 31, 0⟩
def GPIO_OUT_OUT : Loc := ⟨Block.gpio.base 0 + (0x044), 15, 0⟩
def GPIO_SET : Loc := ⟨Block.gpio.base 0 + (0x048), 31, 0⟩
def GPIO_SET_SET : Loc := ⟨Block.gpio.base 0 + (0x048), 15, 0⟩
def GPIO_CLR : Loc := ⟨Block.gpio.base 0 + (0x04C), 31, 0⟩
def GPIO_CLR_CLR : Loc := ⟨Block.gpio.base 0 + (0x04C), 15, 0⟩
def GPIO_IN : Loc := ⟨Block.gpio.base 0 + (0x050), 31, 0⟩
def GPIO_IN_IN : Loc := ⟨Block.gpio.base 0 + (0x050), 15, 0⟩
def GPIO_OD : Loc := ⟨Block.gpio.base 0 + (0x054), 31, 0⟩
def GPIO_OD_OD : Loc := ⟨Block.gpio.base 0 + (0x054), 15, 0⟩
def GPIO_EDGE : Loc := ⟨Block.gpio.base 0 + (0x058), 31, 0⟩
def GPIO_FOOT : Loc := ⟨Block.gpio.base 0 + (0x05C), 31, 0⟩
def GPIO_FOOT_FOOT_EN : Loc := ⟨Block.gpio.base 0 + (0x05C), 3, 0⟩

/-! Fields of the HOST registers. -/
def HOST_CFG : Loc := ⟨Block.host.base 0 + (0x040), 31, 0⟩
def HOST_CFG_ETYPE : Loc := ⟨Block.host.base 0 + (0x040), 31, 16⟩
def HOST_CFG_VLAN_EN : Loc := ⟨Block.host.base 0 + (0x040), 15, 15⟩
def HOST_CFG_PCP : Loc := ⟨Block.host.base 0 + (0x040), 14, 12⟩
def HOST_CFG_VID : Loc := ⟨Block.host.base 0 + (0x040), 11, 0⟩
def HOST_PHY : Loc := ⟨Block.host.base 0 + (0x044), 31, 0⟩
def HOST_PHY_LINK : Loc := ⟨Block.host.base 0 + (0x044), 31, 31⟩
def HOST_PHY_ROLE : Loc := ⟨Block.host.base 0 + (0x044), 30, 30⟩
def HOST_PHY_SQI : Loc := ⟨Block.host.base 0 + (0x044), 2, 0⟩
def HOST_MAC_LO : Loc := ⟨Block.host.base 0 + (0x048), 31, 0⟩
def HOST_MAC_HI : Loc := ⟨Block.host.base 0 + (0x04C), 31, 0⟩
def HOST_MAC_HI_MAC : Loc := ⟨Block.host.base 0 + (0x04C), 15, 0⟩
def HOST_BIND : Loc := ⟨Block.host.base 0 + (0x050), 31, 0⟩
def HOST_BIND_BOUND : Loc := ⟨Block.host.base 0 + (0x050), 31, 31⟩
def HOST_BIND_RELEASE : Loc := ⟨Block.host.base 0 + (0x050), 16, 16⟩
def HOST_BIND_PEER_HI : Loc := ⟨Block.host.base 0 + (0x050), 15, 0⟩
def HOST_PEER_LO : Loc := ⟨Block.host.base 0 + (0x054), 31, 0⟩
def HOST_RLIMIT : Loc := ⟨Block.host.base 0 + (0x058), 31, 0⟩
def HOST_RLIMIT_RATE : Loc := ⟨Block.host.base 0 + (0x058), 15, 0⟩
def HOST_SEC : Loc := ⟨Block.host.base 0 + (0x05C), 31, 0⟩
def HOST_SEC_REQUIRE : Loc := ⟨Block.host.base 0 + (0x05C), 31, 31⟩
def HOST_SEC_XPN : Loc := ⟨Block.host.base 0 + (0x05C), 30, 30⟩
def HOST_SEC_TX_AN : Loc := ⟨Block.host.base 0 + (0x05C), 29, 28⟩
def HOST_IBUCKET : Loc := ⟨Block.host.base 0 + (0x060), 31, 0⟩
def HOST_IBUCKET_RATE : Loc := ⟨Block.host.base 0 + (0x060), 31, 16⟩
def HOST_IBUCKET_DEPTH : Loc := ⟨Block.host.base 0 + (0x060), 15, 0⟩
def HOST_GRACE : Loc := ⟨Block.host.base 0 + (0x064), 31, 0⟩
def HOST_GRACE_EN : Loc := ⟨Block.host.base 0 + (0x064), 31, 31⟩
def HOST_GRACE_SIZE : Loc := ⟨Block.host.base 0 + (0x064), 18, 16⟩
def HOST_GRACE_BASE : Loc := ⟨Block.host.base 0 + (0x064), 15, 0⟩
def HOST_LEASE : Loc := ⟨Block.host.base 0 + (0x068), 31, 0⟩
def HOST_LEASE_STATE : Loc := ⟨Block.host.base 0 + (0x068), 31, 30⟩
def HOST_LEASE_AUTONOMOUS : Loc := ⟨Block.host.base 0 + (0x068), 29, 29⟩
def HOST_OSTR_CFG (n : Nat) : Loc := ⟨Block.host.base 0 + (0x070 + 8 * n), 31, 0⟩
def HOST_OSTR_CFG_EN (n : Nat) : Loc := ⟨Block.host.base 0 + (0x070 + 8 * n), 31, 31⟩
def HOST_OSTR_CFG_MODE (n : Nat) : Loc := ⟨Block.host.base 0 + (0x070 + 8 * n), 30, 30⟩
def HOST_OSTR_CFG_WIDE (n : Nat) : Loc := ⟨Block.host.base 0 + (0x070 + 8 * n), 29, 29⟩
def HOST_OSTR_CFG_SIGNED (n : Nat) : Loc := ⟨Block.host.base 0 + (0x070 + 8 * n), 28, 28⟩
def HOST_OSTR_CFG_COUNTM1 (n : Nat) : Loc := ⟨Block.host.base 0 + (0x070 + 8 * n), 25, 16⟩
def HOST_OSTR_CFG_FIRST (n : Nat) : Loc := ⟨Block.host.base 0 + (0x070 + 8 * n), 15, 0⟩
def HOST_OSTR_SCALE (n : Nat) : Loc := ⟨Block.host.base 0 + (0x074 + 8 * n), 31, 0⟩
def HOST_OSTR_SCALE_S (n : Nat) : Loc := ⟨Block.host.base 0 + (0x074 + 8 * n), 12, 8⟩
def HOST_OSTR_SCALE_M (n : Nat) : Loc := ⟨Block.host.base 0 + (0x074 + 8 * n), 7, 0⟩
def HOST_RX_FRAMES : Loc := ⟨Block.host.base 0 + (0x0B0), 31, 0⟩
def HOST_TX_FRAMES : Loc := ⟨Block.host.base 0 + (0x0B4), 31, 0⟩
def HOST_FCS_ERR : Loc := ⟨Block.host.base 0 + (0x0B8), 31, 0⟩
def HOST_SEC_DROP : Loc := ⟨Block.host.base 0 + (0x0BC), 31, 0⟩
def HOST_OTHER : Loc := ⟨Block.host.base 0 + (0x0C0), 31, 0⟩
def HOST_BAD_FRAME : Loc := ⟨Block.host.base 0 + (0x0C4), 31, 0⟩
def HOST_RATE_DROP : Loc := ⟨Block.host.base 0 + (0x0C8), 31, 0⟩
def HOST_STRANGER : Loc := ⟨Block.host.base 0 + (0x0CC), 31, 0⟩
def HOST_MBOX_DROP : Loc := ⟨Block.host.base 0 + (0x0D0), 31, 0⟩
def HOST_IN_DROP_BUCKET : Loc := ⟨Block.host.base 0 + (0x0D4), 31, 0⟩
def HOST_IN_DROP_NOROOM : Loc := ⟨Block.host.base 0 + (0x0D8), 31, 0⟩
def HOST_IN_INJ : Loc := ⟨Block.host.base 0 + (0x0DC), 31, 0⟩
def HOST_OUT_SPIKES : Loc := ⟨Block.host.base 0 + (0x0E0), 31, 0⟩
def HOST_OUT_DROP : Loc := ⟨Block.host.base 0 + (0x0E4), 31, 0⟩
def HOST_OUT_UNMAPPED : Loc := ⟨Block.host.base 0 + (0x0E8), 31, 0⟩
def HOST_GRACE_DROP : Loc := ⟨Block.host.base 0 + (0x0EC), 31, 0⟩
def HOST_INJ0 : Loc := ⟨Block.host.base 0 + (0x0F0), 31, 0⟩
def HOST_INJ1 : Loc := ⟨Block.host.base 0 + (0x0F4), 31, 0⟩
def HOST_CON0 : Loc := ⟨Block.host.base 0 + (0x0F8), 31, 0⟩
def HOST_CON1 : Loc := ⟨Block.host.base 0 + (0x0FC), 31, 0⟩
def HOST_LINK_DOWNS : Loc := ⟨Block.host.base 0 + (0x100), 31, 0⟩
def HOST_OUT_LATE : Loc := ⟨Block.host.base 0 + (0x104), 31, 0⟩

/-! Fields of the FWC registers. -/
def FWC_HOD_CFG : Loc := ⟨Block.fwc.base 0 + (0x040), 31, 0⟩
def FWC_HOD_CFG_RETRY : Loc := ⟨Block.fwc.base 0 + (0x040), 31, 24⟩
def FWC_HOD_CFG_SEND_TIMEOUT : Loc := ⟨Block.fwc.base 0 + (0x040), 15, 0⟩
def FWC_HOD_DB : Loc := ⟨Block.fwc.base 0 + (0x044), 31, 0⟩
def FWC_HOD_DB_DB : Loc := ⟨Block.fwc.base 0 + (0x044), 15, 0⟩
def FWC_FW_LOCK : Loc := ⟨Block.fwc.base 0 + (0x048), 31, 0⟩
def FWC_FW_LOCK_LOCK : Loc := ⟨Block.fwc.base 0 + (0x048), 0, 0⟩
def FWC_FWP_IDX : Loc := ⟨Block.fwc.base 0 + (0x04C), 31, 0⟩
def FWC_FWP_IDX_PAGE : Loc := ⟨Block.fwc.base 0 + (0x04C), 11, 0⟩
def FWC_FWP_MASK : Loc := ⟨Block.fwc.base 0 + (0x050), 31, 0⟩
def FWC_FWP_MASK_WMASK : Loc := ⟨Block.fwc.base 0 + (0x050), 23, 0⟩
def FWC_FW_DENIED : Loc := ⟨Block.fwc.base 0 + (0x054), 31, 0⟩
def FWC_FW_LAST : Loc := ⟨Block.fwc.base 0 + (0x058), 31, 0⟩
def FWC_FW_LAST_VALID : Loc := ⟨Block.fwc.base 0 + (0x058), 31, 31⟩
def FWC_FW_LAST_READ : Loc := ⟨Block.fwc.base 0 + (0x058), 30, 30⟩
def FWC_FW_LAST_INIT : Loc := ⟨Block.fwc.base 0 + (0x058), 29, 25⟩
def FWC_FW_LAST_ADDR : Loc := ⟨Block.fwc.base 0 + (0x058), 24, 0⟩
def FWC_MBOX : Loc := ⟨Block.fwc.base 0 + (0x05C), 31, 0⟩
def FWC_MBOX_DROPPED : Loc := ⟨Block.fwc.base 0 + (0x05C), 7, 4⟩
def FWC_MBOX_QUEUED : Loc := ⟨Block.fwc.base 0 + (0x05C), 3, 0⟩
def FWC_FWP_BUFMASK : Loc := ⟨Block.fwc.base 0 + (0x060), 31, 0⟩
def FWC_FWP_BUFMASK_WMASK : Loc := ⟨Block.fwc.base 0 + (0x060), 23, 0⟩
def FWC_CORE_STAT (n : Nat) : Loc := ⟨Block.fwc.base 0 + (0x100 + 4 * n), 31, 0⟩
def FWC_CORE_STAT_STATE (n : Nat) : Loc := ⟨Block.fwc.base 0 + (0x100 + 4 * n), 31, 29⟩
def FWC_CORE_STAT_CAUSE (n : Nat) : Loc := ⟨Block.fwc.base 0 + (0x100 + 4 * n), 28, 26⟩
def FWC_CORE_STAT_CRASHES (n : Nat) : Loc := ⟨Block.fwc.base 0 + (0x100 + 4 * n), 25, 18⟩
def FWC_CORE_STAT_RELEASE (n : Nat) : Loc := ⟨Block.fwc.base 0 + (0x100 + 4 * n), 0, 0⟩
def FWC_WDOG (n : Nat) : Loc := ⟨Block.fwc.base 0 + (0x180 + 4 * n), 31, 0⟩
def FWC_WDOG_EN (n : Nat) : Loc := ⟨Block.fwc.base 0 + (0x180 + 4 * n), 31, 31⟩
def FWC_WDOG_TIMEOUT (n : Nat) : Loc := ⟨Block.fwc.base 0 + (0x180 + 4 * n), 15, 0⟩
def FWC_KICK (n : Nat) : Loc := ⟨Block.fwc.base 0 + (0x200 + 4 * n), 31, 0⟩
def FWC_KICK_PANIC (n : Nat) : Loc := ⟨Block.fwc.base 0 + (0x200 + 4 * n), 1, 1⟩
def FWC_KICK_KICK (n : Nat) : Loc := ⟨Block.fwc.base 0 + (0x200 + 4 * n), 0, 0⟩
def FWC_FWW_BASE (n : Nat) : Loc := ⟨Block.fwc.base 0 + (0x400 + 16 * n), 31, 0⟩
def FWC_FWW_BASE_BASE (n : Nat) : Loc := ⟨Block.fwc.base 0 + (0x400 + 16 * n), 25, 0⟩
def FWC_FWW_SIZE (n : Nat) : Loc := ⟨Block.fwc.base 0 + (0x404 + 16 * n), 31, 0⟩
def FWC_FWW_SIZE_SIZE (n : Nat) : Loc := ⟨Block.fwc.base 0 + (0x404 + 16 * n), 5, 0⟩
def FWC_FWW_WMASK (n : Nat) : Loc := ⟨Block.fwc.base 0 + (0x408 + 16 * n), 31, 0⟩
def FWC_FWW_WMASK_WMASK (n : Nat) : Loc := ⟨Block.fwc.base 0 + (0x408 + 16 * n), 23, 0⟩
def FWC_FWW_RMASK (n : Nat) : Loc := ⟨Block.fwc.base 0 + (0x40C + 16 * n), 31, 0⟩
def FWC_FWW_RMASK_RMASK (n : Nat) : Loc := ⟨Block.fwc.base 0 + (0x40C + 16 * n), 23, 0⟩

/-! Fields of the CLU registers. -/
def CLU_HOD_CFG (i : Nat) : Loc := ⟨Block.clu.base i + (0x400), 31, 0⟩
def CLU_HOD_CFG_RETRY (i : Nat) : Loc := ⟨Block.clu.base i + (0x400), 31, 24⟩
def CLU_HOD_CFG_SEND_TIMEOUT (i : Nat) : Loc := ⟨Block.clu.base i + (0x400), 15, 0⟩
def CLU_HOD_REG_OWNER (i : Nat) : Loc := ⟨Block.clu.base i + (0x404), 31, 0⟩
def CLU_HOD_REG_OWNER_KIND (i : Nat) : Loc := ⟨Block.clu.base i + (0x404), 31, 30⟩
def CLU_HOD_REG_OWNER_CHIP (i : Nat) : Loc := ⟨Block.clu.base i + (0x404), 29, 20⟩
def CLU_HOD_REG_OWNER_TILE (i : Nat) : Loc := ⟨Block.clu.base i + (0x404), 19, 10⟩
def CLU_HOD_REG_OWNER_GW (i : Nat) : Loc := ⟨Block.clu.base i + (0x404), 9, 9⟩
def CLU_HOD_REG_OWNER_THREAD (i : Nat) : Loc := ⟨Block.clu.base i + (0x404), 3, 0⟩
def CLU_HOD_REG_CMD (i : Nat) : Loc := ⟨Block.clu.base i + (0x408), 31, 0⟩
def CLU_HOD_REG_CMD_OP (i : Nat) : Loc := ⟨Block.clu.base i + (0x408), 31, 30⟩
def CLU_HOD_REG_CMD_DEPTH (i : Nat) : Loc := ⟨Block.clu.base i + (0x408), 29, 24⟩
def CLU_HOD_REG_CMD_ARG (i : Nat) : Loc := ⟨Block.clu.base i + (0x408), 15, 0⟩
def CLU_HOD_REG_RSP (i : Nat) : Loc := ⟨Block.clu.base i + (0x40C), 31, 0⟩
def CLU_HOD_REG_RSP_STATUS (i : Nat) : Loc := ⟨Block.clu.base i + (0x40C), 31, 16⟩
def CLU_HOD_REG_RSP_HANDLE (i : Nat) : Loc := ⟨Block.clu.base i + (0x40C), 15, 0⟩
def CLU_HOD_DBG_IDX (i : Nat) : Loc := ⟨Block.clu.base i + (0x410), 31, 0⟩
def CLU_HOD_DBG_IDX_WORD (i : Nat) : Loc := ⟨Block.clu.base i + (0x410), 10, 8⟩
def CLU_HOD_DBG_IDX_SLOT (i : Nat) : Loc := ⟨Block.clu.base i + (0x410), 6, 0⟩
def CLU_HOD_DBG_STAT (i : Nat) : Loc := ⟨Block.clu.base i + (0x414), 31, 0⟩
def CLU_HOD_DBG_STAT_OPEN (i : Nat) : Loc := ⟨Block.clu.base i + (0x414), 31, 31⟩
def CLU_HOD_DBG_STAT_OCC (i : Nat) : Loc := ⟨Block.clu.base i + (0x414), 30, 25⟩
def CLU_HOD_DBG_STAT_DEPTH (i : Nat) : Loc := ⟨Block.clu.base i + (0x414), 24, 19⟩
def CLU_HOD_DBG_STAT_KIND (i : Nat) : Loc := ⟨Block.clu.base i + (0x414), 18, 17⟩
def CLU_HOD_DBG_STAT_BLOCKED (i : Nat) : Loc := ⟨Block.clu.base i + (0x414), 16, 16⟩
def CLU_HOD_DBG_STAT_SVC (i : Nat) : Loc := ⟨Block.clu.base i + (0x414), 15, 0⟩
def CLU_HOD_DBG_HEAD (i : Nat) : Loc := ⟨Block.clu.base i + (0x418), 31, 0⟩
def CLU_HOD_DBG_GEN (i : Nat) : Loc := ⟨Block.clu.base i + (0x41C), 31, 0⟩
def CLU_HOD_DBG_GEN_GEN (i : Nat) : Loc := ⟨Block.clu.base i + (0x41C), 7, 0⟩
def CLU_HOD_SENDS (i : Nat) : Loc := ⟨Block.clu.base i + (0x420), 31, 0⟩
def CLU_HOD_FULLS (i : Nat) : Loc := ⟨Block.clu.base i + (0x424), 31, 0⟩
def CLU_HOD_CLOSED_DISC (i : Nat) : Loc := ⟨Block.clu.base i + (0x428), 31, 0⟩
def CLU_HOD_DEADLOCKS (i : Nat) : Loc := ⟨Block.clu.base i + (0x42C), 31, 0⟩
def CLU_HOD_FREE (i : Nat) : Loc := ⟨Block.clu.base i + (0x430), 31, 0⟩
def CLU_HOD_FREE_SLOTS (i : Nat) : Loc := ⟨Block.clu.base i + (0x430), 31, 24⟩
def CLU_HOD_FREE_ENTRIES (i : Nat) : Loc := ⟨Block.clu.base i + (0x430), 11, 0⟩
def CLU_BCAST_DISC (i : Nat) : Loc := ⟨Block.clu.base i + (0x434), 31, 0⟩
def CLU_HOD_WSET_CTRL (i n : Nat) : Loc := ⟨Block.clu.base i + (0x440 + 16 * n), 31, 0⟩
def CLU_HOD_WSET_CTRL_EN (i n : Nat) : Loc := ⟨Block.clu.base i + (0x440 + 16 * n), 31, 31⟩
def CLU_HOD_WSET_CTRL_ROT (i n : Nat) : Loc := ⟨Block.clu.base i + (0x440 + 16 * n), 30, 30⟩
def CLU_HOD_WSET_CTRL_DB (i n : Nat) : Loc := ⟨Block.clu.base i + (0x440 + 16 * n), 29, 29⟩
def CLU_HOD_WSET_CTRL_READY (i n : Nat) : Loc := ⟨Block.clu.base i + (0x440 + 16 * n), 0, 0⟩
def CLU_HOD_WSET_A (i n : Nat) : Loc := ⟨Block.clu.base i + (0x444 + 16 * n), 31, 0⟩
def CLU_HOD_WSET_B (i n : Nat) : Loc := ⟨Block.clu.base i + (0x448 + 16 * n), 31, 0⟩
def CLU_HOD_WSET_SEL (i n : Nat) : Loc := ⟨Block.clu.base i + (0x44C + 16 * n), 31, 0⟩
def CLU_HOD_WSET_SEL_STATUS (i n : Nat) : Loc := ⟨Block.clu.base i + (0x44C + 16 * n), 31, 16⟩
def CLU_HOD_WSET_SEL_HANDLE (i n : Nat) : Loc := ⟨Block.clu.base i + (0x44C + 16 * n), 15, 0⟩

/-! Fields of the BOOT registers. -/
def BOOT_CMD : Loc := ⟨Block.boot.base 0 + (0x040), 31, 0⟩
def BOOT_CMD_LAST : Loc := ⟨Block.boot.base 0 + (0x040), 15, 12⟩
def BOOT_CMD_METHOD : Loc := ⟨Block.boot.base 0 + (0x040), 11, 8⟩
def BOOT_CMD_STEP : Loc := ⟨Block.boot.base 0 + (0x040), 3, 0⟩
def BOOT_STATUS : Loc := ⟨Block.boot.base 0 + (0x044), 31, 0⟩
def BOOT_STATUS_BUSY : Loc := ⟨Block.boot.base 0 + (0x044), 31, 31⟩
def BOOT_STATUS_DONE : Loc := ⟨Block.boot.base 0 + (0x044), 30, 30⟩
def BOOT_STATUS_RESULT : Loc := ⟨Block.boot.base 0 + (0x044), 25, 22⟩
def BOOT_STATUS_METHOD : Loc := ⟨Block.boot.base 0 + (0x044), 21, 18⟩
def BOOT_STATUS_NEXT : Loc := ⟨Block.boot.base 0 + (0x044), 15, 12⟩
def BOOT_STATUS_STEP : Loc := ⟨Block.boot.base 0 + (0x044), 11, 8⟩
def BOOT_STATUS_ERR : Loc := ⟨Block.boot.base 0 + (0x044), 7, 0⟩
def BOOT_RESET_SRC : Loc := ⟨Block.boot.base 0 + (0x048), 31, 0⟩
def BOOT_RESET_SRC_RESETS : Loc := ⟨Block.boot.base 0 + (0x048), 31, 16⟩
def BOOT_RESET_SRC_MON : Loc := ⟨Block.boot.base 0 + (0x048), 11, 8⟩
def BOOT_RESET_SRC_SRC : Loc := ⟨Block.boot.base 0 + (0x048), 3, 0⟩
def BOOT_REC_CTRL : Loc := ⟨Block.boot.base 0 + (0x04C), 31, 0⟩
def BOOT_REC_CTRL_KEY : Loc := ⟨Block.boot.base 0 + (0x04C), 31, 16⟩
def BOOT_REC_CTRL_FROM_KILN : Loc := ⟨Block.boot.base 0 + (0x04C), 2, 2⟩
def BOOT_REC_CTRL_VALID : Loc := ⟨Block.boot.base 0 + (0x04C), 1, 1⟩
def BOOT_REC_CTRL_CLEAR : Loc := ⟨Block.boot.base 0 + (0x04C), 0, 0⟩
def BOOT_FW_BASE : Loc := ⟨Block.boot.base 0 + (0x050), 31, 0⟩
def BOOT_FW_BASE_BASE : Loc := ⟨Block.boot.base 0 + (0x050), 21, 0⟩
def BOOT_IMG_BASE : Loc := ⟨Block.boot.base 0 + (0x054), 31, 0⟩
def BOOT_IMG_BASE_BASE : Loc := ⟨Block.boot.base 0 + (0x054), 21, 0⟩
def BOOT_CKPT_BASE : Loc := ⟨Block.boot.base 0 + (0x058), 31, 0⟩
def BOOT_CKPT_BASE_BASE : Loc := ⟨Block.boot.base 0 + (0x058), 21, 0⟩
def BOOT_STAGE_BASE : Loc := ⟨Block.boot.base 0 + (0x05C), 31, 0⟩
def BOOT_STAGE_BASE_BASE : Loc := ⟨Block.boot.base 0 + (0x05C), 21, 0⟩
def BOOT_T7_LIMIT : Loc := ⟨Block.boot.base 0 + (0x060), 31, 0⟩
def BOOT_T7_LIMIT_MS : Loc := ⟨Block.boot.base 0 + (0x060), 15, 0⟩
def FOOT_CFG : Loc := ⟨Block.boot.base 0 + (0x064), 31, 0⟩
def FOOT_CFG_CSI : Loc := ⟨Block.boot.base 0 + (0x064), 29, 28⟩
def FOOT_CFG_SAFE : Loc := ⟨Block.boot.base 0 + (0x064), 27, 24⟩
def FOOT_CFG_INV : Loc := ⟨Block.boot.base 0 + (0x064), 23, 20⟩
def FOOT_CFG_OBASE : Loc := ⟨Block.boot.base 0 + (0x064), 15, 0⟩
def FOOT_CTRL : Loc := ⟨Block.boot.base 0 + (0x068), 31, 0⟩
def FOOT_CTRL_EXIT : Loc := ⟨Block.boot.base 0 + (0x068), 1, 1⟩
def FOOT_CTRL_ENTER : Loc := ⟨Block.boot.base 0 + (0x068), 0, 0⟩
def BOOT_LOG (n : Nat) : Loc := ⟨Block.boot.base 0 + (0x080 + 4 * n), 31, 0⟩
def BOOT_LOG_ERR (n : Nat) : Loc := ⟨Block.boot.base 0 + (0x080 + 4 * n), 31, 24⟩
def BOOT_LOG_RESULT (n : Nat) : Loc := ⟨Block.boot.base 0 + (0x080 + 4 * n), 23, 20⟩
def BOOT_LOG_METHOD (n : Nat) : Loc := ⟨Block.boot.base 0 + (0x080 + 4 * n), 19, 16⟩
def BOOT_LOG_DURATION (n : Nat) : Loc := ⟨Block.boot.base 0 + (0x080 + 4 * n), 15, 0⟩
def BOOT_REC (n : Nat) : Loc := ⟨Block.boot.base 0 + (0x100 + 4 * n), 31, 0⟩
def FOOT_STAT : Loc := ⟨Block.boot.base 0 + (0x0B4), 31, 0⟩
def FOOT_STAT_ACTIVE : Loc := ⟨Block.boot.base 0 + (0x0B4), 31, 31⟩
def FOOT_STAT_UNAVAIL : Loc := ⟨Block.boot.base 0 + (0x0B4), 30, 30⟩
def FOOT_STAT_TRIGGER : Loc := ⟨Block.boot.base 0 + (0x0B4), 29, 26⟩
def FOOT_STAT_SEEN : Loc := ⟨Block.boot.base 0 + (0x0B4), 25, 20⟩
def FOOT_STAT_PINS : Loc := ⟨Block.boot.base 0 + (0x0B4), 19, 16⟩
def FOOT_STAT_SEL : Loc := ⟨Block.boot.base 0 + (0x0B4), 15, 15⟩
def FOOT_STAT_CMD_CAUSE : Loc := ⟨Block.boot.base 0 + (0x0B4), 14, 14⟩
def FOOT_STAT_ENTRIES : Loc := ⟨Block.boot.base 0 + (0x0B4), 13, 0⟩

/-! Fields of the PWR registers. -/
def PWR_CFG : Loc := ⟨Block.pwr.base 0 + (0x040), 31, 0⟩
def PWR_CFG_REF_OFF : Loc := ⟨Block.pwr.base 0 + (0x040), 16, 16⟩
def PWR_CFG_HOLD : Loc := ⟨Block.pwr.base 0 + (0x040), 15, 0⟩
def PWR_ON : Loc := ⟨Block.pwr.base 0 + (0x044), 31, 0⟩
def PWR_ON_ON : Loc := ⟨Block.pwr.base 0 + (0x044), 29, 0⟩
def PWR_LEVEL : Loc := ⟨Block.pwr.base 0 + (0x048), 31, 0⟩
def PWR_LEVEL_CLAMP : Loc := ⟨Block.pwr.base 0 + (0x048), 31, 31⟩
def PWR_LEVEL_FROZEN : Loc := ⟨Block.pwr.base 0 + (0x048), 30, 30⟩
def PWR_LEVEL_BUSY_E : Loc := ⟨Block.pwr.base 0 + (0x048), 29, 29⟩
def PWR_LEVEL_BUSY_W : Loc := ⟨Block.pwr.base 0 + (0x048), 28, 28⟩
def PWR_LEVEL_APP_E : Loc := ⟨Block.pwr.base 0 + (0x048), 15, 14⟩
def PWR_LEVEL_APP_W : Loc := ⟨Block.pwr.base 0 + (0x048), 13, 12⟩
def PWR_LEVEL_REQ_E : Loc := ⟨Block.pwr.base 0 + (0x048), 3, 2⟩
def PWR_LEVEL_REQ_W : Loc := ⟨Block.pwr.base 0 + (0x048), 1, 0⟩
def PWR_LIMIT : Loc := ⟨Block.pwr.base 0 + (0x04C), 31, 0⟩
def PWR_LIMIT_LIMIT : Loc := ⟨Block.pwr.base 0 + (0x04C), 8, 0⟩
def PWR_GOV : Loc := ⟨Block.pwr.base 0 + (0x050), 31, 0⟩
def PWR_GOV_TCAP : Loc := ⟨Block.pwr.base 0 + (0x050), 25, 24⟩
def PWR_GOV_PSTRETCH : Loc := ⟨Block.pwr.base 0 + (0x050), 20, 16⟩
def PWR_GOV_CAP_E : Loc := ⟨Block.pwr.base 0 + (0x050), 15, 14⟩
def PWR_GOV_CAP_W : Loc := ⟨Block.pwr.base 0 + (0x050), 13, 12⟩
def PWR_GOV_AVG : Loc := ⟨Block.pwr.base 0 + (0x050), 8, 0⟩
def PWR_THERM : Loc := ⟨Block.pwr.base 0 + (0x054), 31, 0⟩
def PWR_THERM_TJ_MAX : Loc := ⟨Block.pwr.base 0 + (0x054), 31, 16⟩
def PWR_THERM_TJ : Loc := ⟨Block.pwr.base 0 + (0x054), 15, 0⟩
def PWR_THERM_CFG : Loc := ⟨Block.pwr.base 0 + (0x058), 31, 0⟩
def PWR_THERM_CFG_THR_P3 : Loc := ⟨Block.pwr.base 0 + (0x058), 15, 8⟩
def PWR_THERM_CFG_THR_P2 : Loc := ⟨Block.pwr.base 0 + (0x058), 7, 0⟩
def PWR_WAKE_SRC : Loc := ⟨Block.pwr.base 0 + (0x05C), 31, 0⟩
def PWR_WAKE_SRC_SRC : Loc := ⟨Block.pwr.base 0 + (0x05C), 31, 28⟩
def PWR_WAKE_SRC_UNIT : Loc := ⟨Block.pwr.base 0 + (0x05C), 27, 24⟩
def PWR_WAKE_T : Loc := ⟨Block.pwr.base 0 + (0x060), 31, 0⟩
def PWR_WAKE_CFG : Loc := ⟨Block.pwr.base 0 + (0x064), 31, 0⟩
def PWR_WAKE_CFG_REC : Loc := ⟨Block.pwr.base 0 + (0x064), 26, 26⟩
def PWR_WAKE_CFG_WAKE_N : Loc := ⟨Block.pwr.base 0 + (0x064), 25, 25⟩
def PWR_WAKE_CFG_HOST : Loc := ⟨Block.pwr.base 0 + (0x064), 24, 24⟩
def PWR_WAKE_CFG_T1S : Loc := ⟨Block.pwr.base 0 + (0x064), 23, 20⟩
def PWR_WAKE_CFG_CSI : Loc := ⟨Block.pwr.base 0 + (0x064), 19, 16⟩
def PWR_WAKE_CFG_TMR : Loc := ⟨Block.pwr.base 0 + (0x064), 15, 0⟩
def PWR_RET (n : Nat) : Loc := ⟨Block.pwr.base 0 + (0x080 + 4 * n), 31, 0⟩
def PWR_RET_SHM (n : Nat) : Loc := ⟨Block.pwr.base 0 + (0x080 + 4 * n), 31, 16⟩
def PWR_RET_PROG (n : Nat) : Loc := ⟨Block.pwr.base 0 + (0x080 + 4 * n), 15, 14⟩
def PWR_RET_ACC (n : Nat) : Loc := ⟨Block.pwr.base 0 + (0x080 + 4 * n), 13, 13⟩
def PWR_RET_STOP (n : Nat) : Loc := ⟨Block.pwr.base 0 + (0x080 + 4 * n), 12, 12⟩
def PWR_RET_NEU (n : Nat) : Loc := ⟨Block.pwr.base 0 + (0x080 + 4 * n), 11, 8⟩
def PWR_RET_SYN (n : Nat) : Loc := ⟨Block.pwr.base 0 + (0x080 + 4 * n), 7, 0⟩
def PWR_VOTE (n : Nat) : Loc := ⟨Block.pwr.base 0 + (0x100 + 16 * n), 31, 0⟩
def PWR_VOTE_ON (n : Nat) : Loc := ⟨Block.pwr.base 0 + (0x100 + 16 * n), 31, 31⟩
def PWR_VOTE_IMPLICIT (n : Nat) : Loc := ⟨Block.pwr.base 0 + (0x100 + 16 * n), 30, 30⟩
def PWR_VOTE_TRANS (n : Nat) : Loc := ⟨Block.pwr.base 0 + (0x100 + 16 * n), 29, 29⟩
def PWR_VOTE_CLIENTS (n : Nat) : Loc := ⟨Block.pwr.base 0 + (0x100 + 16 * n), 15, 0⟩
def PWR_VSET (n : Nat) : Loc := ⟨Block.pwr.base 0 + (0x104 + 16 * n), 31, 0⟩
def PWR_VSET_SET (n : Nat) : Loc := ⟨Block.pwr.base 0 + (0x104 + 16 * n), 15, 0⟩
def PWR_VCLR (n : Nat) : Loc := ⟨Block.pwr.base 0 + (0x108 + 16 * n), 31, 0⟩
def PWR_VCLR_CLR (n : Nat) : Loc := ⟨Block.pwr.base 0 + (0x108 + 16 * n), 15, 0⟩
def PWR_RISES (n : Nat) : Loc := ⟨Block.pwr.base 0 + (0x10C + 16 * n), 31, 0⟩

/-! Fields of the CLK registers. -/
def CLK_STAT : Loc := ⟨Block.clk.base 0 + (0x040), 31, 0⟩
def CLK_STAT_PLL : Loc := ⟨Block.clk.base 0 + (0x040), 14, 8⟩
def CLK_STAT_AON32_OK : Loc := ⟨Block.clk.base 0 + (0x040), 1, 1⟩
def CLK_STAT_REF_OK : Loc := ⟨Block.clk.base 0 + (0x040), 0, 0⟩
def CLK_CLU (n : Nat) : Loc := ⟨Block.clk.base 0 + (0x080 + 4 * n), 31, 0⟩
def CLK_CLU_RUN (n : Nat) : Loc := ⟨Block.clk.base 0 + (0x080 + 4 * n), 31, 31⟩
def CLK_CLU_APPLIED (n : Nat) : Loc := ⟨Block.clk.base 0 + (0x080 + 4 * n), 9, 8⟩
def CLK_CLU_LEVEL (n : Nat) : Loc := ⟨Block.clk.base 0 + (0x080 + 4 * n), 1, 0⟩

/-! Fields of the TMR registers. -/
def TB_LO : Loc := ⟨Block.tmr.base 0 + (0x040), 31, 0⟩
def TB_HI : Loc := ⟨Block.tmr.base 0 + (0x044), 31, 0⟩
def TB_HI_SNAP : Loc := ⟨Block.tmr.base 0 + (0x048), 31, 0⟩
def TB_CFG : Loc := ⟨Block.tmr.base 0 + (0x04C), 31, 0⟩
def TB_CFG_GPTP : Loc := ⟨Block.tmr.base 0 + (0x04C), 31, 31⟩
def TB_CFG_LOCKED : Loc := ⟨Block.tmr.base 0 + (0x04C), 30, 30⟩
def TB_RATE : Loc := ⟨Block.tmr.base 0 + (0x050), 31, 0⟩
def TB_OFFSET : Loc := ⟨Block.tmr.base 0 + (0x054), 31, 0⟩
def TB_SLEW : Loc := ⟨Block.tmr.base 0 + (0x058), 31, 0⟩
def TMR_ARM_MULTI : Loc := ⟨Block.tmr.base 0 + (0x05C), 31, 0⟩
def TMR_ARM_MULTI_ARM : Loc := ⟨Block.tmr.base 0 + (0x05C), 15, 0⟩
def TMRCH_CTRL (n : Nat) : Loc := ⟨Block.tmr.base 0 + (0x100 + 32 * n), 31, 0⟩
def TMRCH_CTRL_WAKE (n : Nat) : Loc := ⟨Block.tmr.base 0 + (0x100 + 32 * n), 31, 31⟩
def TMRCH_CTRL_MODE (n : Nat) : Loc := ⟨Block.tmr.base 0 + (0x100 + 32 * n), 30, 29⟩
def TMRCH_CTRL_ABS (n : Nat) : Loc := ⟨Block.tmr.base 0 + (0x100 + 32 * n), 28, 28⟩
def TMRCH_CTRL_SRC (n : Nat) : Loc := ⟨Block.tmr.base 0 + (0x100 + 32 * n), 23, 16⟩
def TMRCH_CTRL_STOP (n : Nat) : Loc := ⟨Block.tmr.base 0 + (0x100 + 32 * n), 1, 1⟩
def TMRCH_CTRL_ARM (n : Nat) : Loc := ⟨Block.tmr.base 0 + (0x100 + 32 * n), 0, 0⟩
def TMRCH_COMPARE (n : Nat) : Loc := ⟨Block.tmr.base 0 + (0x104 + 32 * n), 31, 0⟩
def TMRCH_INTERVAL (n : Nat) : Loc := ⟨Block.tmr.base 0 + (0x108 + 32 * n), 31, 0⟩
def TMRCH_PHASE (n : Nat) : Loc := ⟨Block.tmr.base 0 + (0x10C + 32 * n), 31, 0⟩
def TMRCH_CAP (n : Nat) : Loc := ⟨Block.tmr.base 0 + (0x110 + 32 * n), 31, 0⟩
def TMRCH_STAT (n : Nat) : Loc := ⟨Block.tmr.base 0 + (0x114 + 32 * n), 31, 0⟩
def TMRCH_STAT_ARMED (n : Nat) : Loc := ⟨Block.tmr.base 0 + (0x114 + 32 * n), 31, 31⟩
def TMRCH_STAT_NEW (n : Nat) : Loc := ⟨Block.tmr.base 0 + (0x114 + 32 * n), 30, 30⟩
def TMRCH_STAT_OVR (n : Nat) : Loc := ⟨Block.tmr.base 0 + (0x114 + 32 * n), 29, 29⟩
def TMRCH_STAT_MISSED (n : Nat) : Loc := ⟨Block.tmr.base 0 + (0x114 + 32 * n), 7, 0⟩
def TMRCH_SEQ (n : Nat) : Loc := ⟨Block.tmr.base 0 + (0x118 + 32 * n), 31, 0⟩

/-! Fields of the SEC registers. -/
def SEC_LC : Loc := ⟨Block.sec.base 0 + (0x040), 31, 0⟩
def SEC_LC_DEBUG : Loc := ⟨Block.sec.base 0 + (0x040), 7, 7⟩
def SEC_LC_PAIRED : Loc := ⟨Block.sec.base 0 + (0x040), 6, 6⟩
def SEC_LC_IKEY : Loc := ⟨Block.sec.base 0 + (0x040), 5, 5⟩
def SEC_LC_STATE : Loc := ⟨Block.sec.base 0 + (0x040), 3, 0⟩
def SEC_TAMPER : Loc := ⟨Block.sec.base 0 + (0x044), 31, 0⟩
def SEC_TAMPER_SEEN : Loc := ⟨Block.sec.base 0 + (0x044), 31, 31⟩
def SEC_TAMPER_WIPES : Loc := ⟨Block.sec.base 0 + (0x044), 23, 16⟩
def SEC_TAMPER_SRC : Loc := ⟨Block.sec.base 0 + (0x044), 4, 0⟩
def SEC_TAMPER_CFG : Loc := ⟨Block.sec.base 0 + (0x048), 31, 0⟩
def SEC_TAMPER_CFG_FILT : Loc := ⟨Block.sec.base 0 + (0x048), 15, 8⟩
def SEC_TAMPER_CFG_PIN_EN : Loc := ⟨Block.sec.base 0 + (0x048), 0, 0⟩
def SEC_WDOG : Loc := ⟨Block.sec.base 0 + (0x04C), 31, 0⟩
def SEC_WDOG_EN : Loc := ⟨Block.sec.base 0 + (0x04C), 31, 31⟩
def SEC_WDOG_TIMEOUT : Loc := ⟨Block.sec.base 0 + (0x04C), 15, 0⟩
def SEC_WDOG_KICK : Loc := ⟨Block.sec.base 0 + (0x050), 31, 0⟩
def SEC_WDOG_KICK_KICK : Loc := ⟨Block.sec.base 0 + (0x050), 0, 0⟩
def SEC_HASH_JOBS : Loc := ⟨Block.sec.base 0 + (0x054), 31, 0⟩
def SEC_UID_LO : Loc := ⟨Block.sec.base 0 + (0x058), 31, 0⟩
def SEC_UID_HI : Loc := ⟨Block.sec.base 0 + (0x05C), 31, 0⟩
def SEC_MEAS (n w : Nat) : Loc := ⟨Block.sec.base 0 + (0x080 + 32 * n + 4 * w), 31, 0⟩

/-! Fields of the REC registers. -/
def REC_CFG : Loc := ⟨Block.recd.base 0 + (0x040), 31, 0⟩
def REC_CFG_PERSIST : Loc := ⟨Block.recd.base 0 + (0x040), 31, 24⟩
def REC_CFG_WINDOW : Loc := ⟨Block.recd.base 0 + (0x040), 15, 0⟩
def REC_MINUTES : Loc := ⟨Block.recd.base 0 + (0x044), 31, 0⟩
def REC_CYCLES : Loc := ⟨Block.recd.base 0 + (0x048), 31, 0⟩
def REC_IDX : Loc := ⟨Block.recd.base 0 + (0x04C), 31, 0⟩
def REC_IDX_IDX : Loc := ⟨Block.recd.base 0 + (0x04C), 5, 0⟩
def REC_STAT : Loc := ⟨Block.recd.base 0 + (0x050), 31, 0⟩
def REC_STAT_FRESH : Loc := ⟨Block.recd.base 0 + (0x050), 31, 31⟩
def REC_STAT_COPY : Loc := ⟨Block.recd.base 0 + (0x050), 30, 30⟩
def REC_STAT_PFAIL : Loc := ⟨Block.recd.base 0 + (0x050), 15, 0⟩
def REC_CLR : Loc := ⟨Block.recd.base 0 + (0x054), 31, 0⟩
def REC_CLR_KEY : Loc := ⟨Block.recd.base 0 + (0x054), 31, 16⟩
def REC_CLR_GO : Loc := ⟨Block.recd.base 0 + (0x054), 0, 0⟩
def REC_THR (n : Nat) : Loc := ⟨Block.recd.base 0 + (0x058 + 4 * n), 31, 0⟩
def REC_THR_EN (n : Nat) : Loc := ⟨Block.recd.base 0 + (0x058 + 4 * n), 31, 31⟩
def REC_THR_BIN (n : Nat) : Loc := ⟨Block.recd.base 0 + (0x058 + 4 * n), 13, 8⟩
def REC_THR_ID (n : Nat) : Loc := ⟨Block.recd.base 0 + (0x058 + 4 * n), 5, 0⟩

/-! Fields of the SPI registers. -/
def SPI_STAT : Loc := ⟨Block.spi.base 0 + (0x040), 31, 0⟩
def SPI_STAT_BUSY : Loc := ⟨Block.spi.base 0 + (0x040), 31, 31⟩
def SPI_STAT_OVF : Loc := ⟨Block.spi.base 0 + (0x040), 30, 30⟩
def SPI_STAT_LAST : Loc := ⟨Block.spi.base 0 + (0x040), 23, 16⟩
def SPI_STAT_NDONE : Loc := ⟨Block.spi.base 0 + (0x040), 15, 0⟩
def SPI_XFERS : Loc := ⟨Block.spi.base 0 + (0x044), 31, 0⟩
def SPI_ERRS : Loc := ⟨Block.spi.base 0 + (0x048), 31, 0⟩

end Sys2Proof.Machine
end

