-- ==== Sys2Proof/Machine/State.lean ====
section
/-! DEFINITION. The state of the EZ-G1024 as plain data, its reset, and the reasons a step can stop. Visible register fields live in
`regs`; the structures below hold what no register shows. -/

namespace Sys2Proof.Machine
open Sys2Proof

/-- Why the machine stops with a fault. -/
inductive Fault
  /-- Raised by mailbox commands of a message whose major version HELLO did not settle on (R444 calls the behaviour undefined). Safe. -/
  | undefinedVersion
deriving DecidableEq, Repr

/-- Why a command has no meaning. -/
inductive Refusal
  /-- A row of the opcode table that this model has not reached. Safe. -/
  | notModelled (mnemonic : String)
deriving DecidableEq, Repr

/-! ## Tiles -/

/-- An entry of a tile's input queue (R78): a spike or a partial sum. -/
inductive QEntry
  | spike (axon payload prio : Nat)
  | psum (neuron : Nat) (sum : Int)
deriving DecidableEq, Repr

/-- A fired neuron waiting in the emitter (R110): its index, payload, the step its packets carry, and how many templates of its
map entry are already handled, with the byte of the next one. -/
structure Emit where
  neuron : Nat
  payload : Nat
  step : Nat
  done : Nat := 0
  next : Nat := 0
deriving DecidableEq, Repr

/-- A CLOSE recorded while a phase is in progress (R114). -/
structure CloseRec where
  step : Nat
  short : Bool
  exh : Bool
deriving DecidableEq, Repr

/-- One quad that a thread still has to touch in this RUN (R113): lanes due normally and lanes due in the idle sweep. -/
structure Work where
  thread : Nat
  quad : Nat
  due : Nat
  sweep : Nat
deriving DecidableEq, Repr

/-- One lane of the neuron unit's context of a thread (R179–R181): the registers (sparse, 0 where unlisted), the predicates, and
what the touch in progress has latched. -/
structure Lane where
  g : List (Nat × BitVec 32) := []
  active : Bool := false
  sweep : Bool := false
  pr1 : Bool := false
  pr2 : Bool := false
  pr3 : Bool := false
  delta : Nat := 0
  rf : Option Nat := none
  decayed : Bool := false
  folded : Bool := false
  pendSet : Bool := false
  raise : Option Nat := none
deriving DecidableEq, Repr

/-- The touch or service run a thread has in progress (R179, R192): its quad, whether it is a service run or an immediate touch, the
step whose work it does, the step its emissions carry, the next instruction, how many it has issued, and whether it waits for replies. -/
structure Touch where
  quad : Nat
  service : Bool := false
  imm : Bool := false
  stouch : Nat := 0
  semit : Nat := 0
  pc : Nat := 0
  issued : Nat := 0
  wait : Bool := false
deriving DecidableEq, Repr

/-- A thread's context: its lanes, the touch in progress, where a service thread resumes (none: at ENTRY), the thresholds latched
at its last run (R56; before the first run the model's fifteen zeros, a DESIGN CHOICE, notes/assumptions/125.md), and whether a parity
failure has stopped it (R385). -/
structure Thread where
  l0 : Lane := {}
  l1 : Lane := {}
  l2 : Lane := {}
  l3 : Lane := {}
  touch : Option Touch := none
  resume : Option Nat := none
  thr : List Int := List.replicate 15 0
  stopped : Bool := false
deriving DecidableEq, Repr

/-- What a thread's global or hod request asks for: a load into a register, a store, or a hod operation. -/
inductive ReqKind
  | load (rd : Nat)
  | store
  | hopen (rd : Nat)
  | hsend (rd : Nat)
  | hrecv (rd : Nat) (buf : Nat)
deriving DecidableEq, Repr

/-- A reply buffer of the tile (R187): the thread and lane that wait, what the request asks for, and the reply once it is here
(status, hod status, data). A faulted thread's reply is received and discarded (`dead`). A request that found no buffer
free waits with `issued = false` and its packet in `pkt`. -/
structure ReplyBuf where
  thread : Nat
  lane : Nat
  kind : ReqKind
  tag : Nat
  issued : Bool := true
  dead : Bool := false
  reply : Option (Nat × Nat × List (BitVec 64)) := none
  pkt : Option Packet := none
deriving DecidableEq, Repr

/-- An event on a plastic row waiting for the plasticity unit (R282): axon, payload and the descriptor the engine read. -/
structure PlEvent where
  axon : Nat
  payload : Nat
  desc : BitVec 64
deriving DecidableEq, Repr

/-- What a held word's failure switches off (R385). -/
inductive Contain
  | nullDesc (entry : Nat)
  | routeMap (entry : Nat)
  | template
  | block (neuron : Nat)
  | program (thread : Nat)
  | none
deriving DecidableEq, Repr

/-- A held word (R381–R384): memory code, word index, failing bytes, the accesses that wait (port, and what their failure contains; the
one that found the error first), the path, whether the refetch has been issued, and its reply (R382). Once `failed`, each access that
still stands in `waits` goes on as on an uncorrectable word. -/
structure Hold where
  mem : Nat
  word : Nat
  mask : Nat
  waits : List (Nat × Contain) := []
  fw : Bool
  issued : Bool := false
  rsp : Option (Nat × List (BitVec 64)) := none
  failed : Bool := false
deriving DecidableEq, Repr

/-- An entry of the parity log (R391): the TILE_PAR_LOG word and the time base at the event. -/
structure ParLog where
  word : BitVec 32
  time : BitVec 32
deriving DecidableEq, Repr

/-- State of a tile beyond its registers and memories (chapters 3–5, 8, 11). -/
structure Tile where
  /-- open step S (R78) -/
  step : BitVec 64 := 0
  /-- queue halves by parity (R78) -/
  half0 : List QEntry := []
  half1 : List QEntry := []
  /-- bitmaps (R98, R102, R283) -/
  active : BitVec 16384 := 0
  pend : BitVec 16384 := 0
  fired : BitVec 16384 := 0
  post : BitVec 16384 := 0
  /-- immediate-touch queue and the touches of a finished row still to be queued (R105) -/
  immq : List Nat := []
  immWait : List Nat := []
  /-- emitter queue (R110) -/
  emitq : List Emit := []
  /-- recorded CLOSE (R114) -/
  closeRec : Option CloseRec := none
  /-- work left in this RUN: quads and service threads (R113, R192) -/
  work : List Work := []
  svc : List Nat := []
  runDone : Bool := false
  /-- thread contexts -/
  threads : List (Nat × Thread) := []
  /-- reply buffers (R187) -/
  bufs : List ReplyBuf := []
  /-- pre-trace directory, default 0x0000_FFFF (R276, R311) -/
  dir : List (Nat × BitVec 32) := []
  /-- modulators in force (R281) and those in force during the step of the pending post pass (R283) -/
  mod : BitVec 64 := 0
  modPost : BitVec 64 := 0
  /-- plastic event queue (R284) -/
  plq : List PlEvent := []
  /-- step of the post pass still to run (R283) -/
  passStep : Option Nat := none
  /-- the plastic configuration passed R308 with WORDS ≠ 0 -/
  plOk : Bool := false
  /-- dirty map (R288): bit v of block v -/
  dirty : BitVec 1024 := 0
  /-- the step being closed ends a lift (R286), and ARM as sampled (R287) -/
  liftEnd : Bool := false
  commitPos : Option Nat := none
  /-- step of the last lift end whose COMMIT the tile has left (R298) -/
  lastLift : Option Nat := none
  /-- the quad (thread · 8,192 + quad) at which an enable goes on with its rebase pass, while a word it needs is held (R117, R381) -/
  rebasing : Option Nat := none
  /-- words with bad parity: key mem·2^15 + word, failing bytes (R379) -/
  bad : List (Nat × BitVec 8) := []
  holds : List Hold := []
  log : List ParLog := []
  /-- regions that failed their march (R389) and the region last tested: memory·2^12 + bank·2^6 + region -/
  marchFail : List Nat := []
  repNext : Nat := 0
  /-- banks in their retention or off selection while the tile is stopped (R375) -/
  asleep : Bool := false
deriving DecidableEq, Repr

/-! ## Clusters -/

/-- A cold event on its way (R93, R145): the tile's cluster-local index, the descriptor and axon entry that named the row, the
event's axon and payload. -/
structure ColdRow where
  tile : Nat
  entry : Nat
  axon : Nat
  payload : Nat
  desc : BitVec 64
deriving DecidableEq, Repr

/-- One 32-byte read of a cold unit (R240): the unit, its part of it, its place among the reads that a cluster may have outstanding (which
gives its centre router and its TAG), whether the request has entered the mortar, and its reply (STATUS code, data). -/
structure ColdReq where
  unit : Nat
  part : Nat
  place : Nat
  issued : Bool := false
  rsp : Option (Nat × List (BitVec 64)) := none
deriving DecidableEq, Repr

/-- An admitted row (R145–R147): its outstanding reads, each unit back with OK and its data, whether the row has failed and its
outstanding units are stale, and the time of admission. -/
structure ColdFetch where
  id : Nat
  row : ColdRow
  reqs : List ColdReq := []
  units : List (Nat × List Nat) := []
  stale : Bool := false
  time : Nat
deriving DecidableEq, Repr

/-- An MSE probe (R62, R73): what it sampled when armed, and its live sums. -/
structure Probe where
  tile : Nat := 0
  site : Nat := 0
  thread : Nat := 0
  sum : Nat := 0
  sat : Bool := false
  count : Nat := 0
  emax : Nat := 0
deriving DecidableEq, Repr

/-- A channel slot of a hod controller (R460–R462): whether it is registered, its generation, service, owner, depth, the queued
32-byte entries oldest first, and the order number of its last close. -/
structure HodSlot where
  opened : Bool := false
  used : Bool := false
  gen : Nat := 1
  svc : Nat := 0
  kind : Nat := 0
  chip : Nat := 0
  tile : Nat := 0
  gw : Bool := false
  thread : Nat := 0
  depth : Nat := 0
  entries : List (BitVec 256) := []
  closedAt : Nat := 0
deriving DecidableEq, Repr

/-- Who makes a hod request: the cluster's own control core at its hod port, or the requester (SCHIP, STILE, SGW) (R461, R467). -/
inductive HodFrom
  | core
  | remote (chip tile : Nat) (gw : Bool)
deriving DecidableEq, Repr

/-- A blocked record (R467): endpoint, the slot it is blocked on, the time of the attempt that first found it full, and whether its
next attempt is to be answered DEADLOCK. -/
structure HodBlock where
  who : HodFrom
  slot : Nat
  start : Nat
  fail : Bool := false
deriving DecidableEq, Repr

/-- The set a cluster's firmware is writing to the kiln (R297, R298): its number and lift count, the logical rows of its blocks, how many
are queued, whether its SEAL is queued, and whether one of its WRITEs has failed. -/
structure KilnSet where
  set : Nat
  lift : Nat := 0
  blocks : List Nat
  queued : Nat := 0
  sealing : Bool := false
  failed : Bool := false
deriving DecidableEq, Repr

/-- A row held in a slot of a tile's promotion pool (R154–R156): its descriptor entry, its cold address, its hit-table entry, and the
step S at which the slot was freed. -/
structure PromoRow where
  entry : Nat
  cold : Nat
  hit : Nat
  freed : Option Nat := none
deriving DecidableEq, Repr

/-- State of a cluster beyond its registers and shared memory. -/
structure Cluster where
  /-- cold rows waiting for admission, oldest first, and the last tile admitted (R145); before the first admission tile 0 comes first, a
  DESIGN CHOICE (notes/assumptions/127.md) -/
  waiting : List ColdRow := []
  lastTile : Nat := 63
  /-- admitted rows with units outstanding -/
  fetches : List ColdFetch := []
  nextId : Nat := 0
  /-- next hit-table entry to halve, while BUSY (R152) -/
  aging : Option Nat := none
  /-- hod channel slots (R460), blocked records (R467), closes so far, and the position each wait set last answered (R465) -/
  slots : List (Nat × HodSlot) := []
  blocked : List HodBlock := []
  closes : Nat := 0
  rot : List (Nat × Nat) := []
  /-- MSE probes (R62) -/
  p0 : Probe := {}
  p1 : Probe := {}
  p2 : Probe := {}
  p3 : Probe := {}
  /-- shared-memory words with bad parity (R379), regions that failed their march, and the region last tested + 1 (R388, R389) -/
  bad : List (Nat × BitVec 8) := []
  marchFail : List Nat := []
  repNext : Nat := 0
  /-- the firmware's plastic map (R294: logical row, place) with its digest, dirty rows not yet written, lift ends and lift ends since
  the last set, and the set being written (R298) -/
  kmap : List (Nat × Nat) := []
  kdigest : BitVec 256 := 0
  cdirty : List Nat := []
  liftCount : Nat := 0
  lifts : Nat := 0
  kset : Option KilnSet := none
  /-- lift ends up to this step (exclusive) have been written back, and promoted (R156, R298) -/
  liftDone : Nat := 0
  promoDone : Nat := 0
  /-- the firmware's cold directory (R151: hit-table entry, tile · 32,768 + descriptor entry) and the pool's rows by tile · 16 + slot -/
  cdir : List (Nat × Nat) := []
  promo : List (Nat × PromoRow) := []
deriving DecidableEq, Repr

/-! ## The mortar -/

/-- A packet in a router's input channel (R249): where its head is, the port it came in by, its lane, whether it is in an escape lane
or in an adaptive channel, whether it waits in the collar bridge out of this router, for a packet that came over a tie the
tie and whether it came on DVC 1 (R329), and the adaptive channel upstream (router, port, bridge) that its tail still occupies: a
packet of more than four flits spans two of them. -/
structure Flight where
  pkt : Packet
  at_ : Nat
  inp : Port
  lane : LaneId
  escape : Bool
  bridge : Bool := false
  arr : Option (Nat × Bool) := none
  trail : Option (Nat × Port × Bool) := none
deriving DecidableEq, Repr

/-- A PSUM held in a combine buffer (R257) with the input it came by; `due` once it is to leave. -/
structure PsumBuf where
  at_ : Nat
  buf : Nat
  inp : Port
  lane : LaneId
  arr : Option (Nat × Bool) := none
  dtile : BitVec 10
  dchip : BitVec 10
  neuron : BitVec 14
  step : BitVec 8
  ccount : BitVec 6
  sum : BitVec 20
  due : Bool := false
deriving DecidableEq, Repr

/-- Combine buffer 0 (R262): whether a POLL has tagged it and whether its sum has left, the tag and the sums so far, and how many
answers are still awaited. -/
structure CountBuf where
  valid : Bool := false
  done : Bool := false
  step : BitVec 8 := 0
  round : BitVec 4 := 0
  missing : Bool := false
  notEmitted : Nat := 0
  notPassive : Nat := 0
  inj : BitVec 32 := 0
  con : BitVec 32 := 0
  left : Nat := 0
deriving DecidableEq, Repr

/-- A completed or running round (R208). -/
structure Round where
  inj : BitVec 32 := 0
  con : BitVec 32 := 0
  clean : Bool := false
deriving DecidableEq, Repr

/-- The step controller (chapter 6) beyond its registers. -/
structure StepCtl where
  /-- TMR_STEP (R196) -/
  step : BitVec 64 := 0
  /-- the open step is held (R201); sealed and run by STEP -/
  held : Bool := false
  /-- hold the next step when this one closes (R201) -/
  holdNext : Bool := false
  /-- values sampled at the opening, in 10 ns units (R215) -/
  openT : Nat := 0
  period : Nat := 0
  stretch : Nat := 0
  lagMax : Nat := 0
  refill : Nat := 0
  allowance : Nat := 0
  /-- the lag account in 10 ns units (R215) -/
  account : Nat := 0
  /-- deadline passed before confirmation (R215) -/
  overdue : Bool := false
  confirmed : Bool := false
  periodOver : Bool := false
  /-- number of the next round, and the round in progress if any, with whether it began after the seal (R208) -/
  round : BitVec 4 := 0
  active : Bool := false
  activeSealed : Bool := false
  /-- rounds run back to back or pause until the period end (R210) -/
  gap : Bool := false
  /-- the last completed round begun after the seal (R212) -/
  last : Option Round := none
  /-- the open step was held and STEP has sealed it: its close leaves the lag account alone (R201) -/
  stepped : Bool := false
  /-- a recorded FORCE_CLOSE (R215) -/
  forced : Bool := false
  /-- deadline of the open step (R215) -/
  deadline : Nat := 0
  /-- time the last CLOSE arrived, on a worker (R231) -/
  lastClose : Nat := 0
deriving DecidableEq, Repr


/-- Outcomes of a request (R27), in the order of the STATUS codes of R241. -/
inductive Status
  | ok | domainOff | unmapped | readOnly | unreachable | denied | dataFail
deriving DecidableEq, Repr

/-! ## External memory -/

/-- A 64-byte line as the device stores it (R353): data, stored check; `written` is false where no valid check can match, a
line never filled since its devices were powered or left partly written (R360). -/
structure MemLine where
  written : Bool := false
  data : BitVec 512 := 0
  check : BitVec 16 := 0
deriving DecidableEq, Repr

/-- A request held by a memory channel (R359): its channel line, the request, the data of a write, and once it has been performed or
refused the outcome and data that its reply carries. -/
structure MemReq where
  chan : Nat
  line : Nat
  head : ReqHead
  data : Option (List (BitVec 64)) := none
  res : Option (Status × List (BitVec 64)) := none
deriving DecidableEq, Repr

/-- A wythe's active list and channel lines C_w, as step 6 last fixed them (R354). -/
structure MemList where
  act : List Nat := []
  cw : Nat := 0
deriving DecidableEq, Repr


/-! ## Firmware cores -/

/-- A firmware core as far as the block shows it (R457, R458, R466): the hod port's CSRs, the operation in progress, whether it
waits to retry, its reply (hod status and data) once it is here, a reply due to the core as it was before a restart (R458), interrupt
16, the time of the last kick, the times of the last two crashes, and whether the last one came as the third within 10 s (R459). -/
structure Core where
  hpcmd : BitVec 32 := 0
  hptgt : BitVec 32 := 0
  hpbuf : BitVec 32 := 0
  hpstat : BitVec 32 := 0
  busy : Bool := false
  retry : Bool := false
  first : Nat := 0
  rsp : Option (Nat × List (BitVec 64)) := none
  stale : Bool := false
  irq16 : Bool := false
  kick : Nat := 0
  crash1 : Option Nat := none
  crash2 : Option Nat := none
  rep : Bool := false
deriving DecidableEq, Repr

/-- The footing controller (R500–R508) beyond FOOT_STAT: an entry has begun and is not finished, the triggers held pending before
step 10, the time of entry, the output spikes and the FOOT pins hit by step parity (R504, R505), FIRST_STEP of the footing image. -/
structure Foot where
  entering : Bool := false
  held : List Nat := []
  since : Nat := 0
  spikes0 : Nat := 0
  spikes1 : Nat := 0
  hits0 : Nat := 0
  hits1 : Nat := 0
  firstStep : Nat := 0
deriving DecidableEq, Repr

/-- A record of the event recorder (R557): SEQ_BEGIN and SEQ_END (equal between updates), the stamps, the counts and the bins. -/
structure Rec where
  seq : Nat := 0
  minutes : Nat := 0
  cycles : Nat := 0
  count : Nat := 0
  min : Nat := 0xFFFFFFFF
  max : Nat := 0
  last : Nat := 0
  maxMin : Nat := 0
  bins : List (Nat × Nat) := []
deriving DecidableEq, Repr


/-! ## Ties and timers -/

/-- A frame that a tie port has sent and that is not acknowledged (R324): its sequence number, whether it is a TREE frame, its
dateline channel, the packet it carries and how often it has been resent in a row. -/
structure TieFrame where
  seq : Nat
  tree : Bool
  dvc : Bool
  pkt : Packet
  resends : Nat := 0
deriving DecidableEq, Repr

/-- A tie port beyond its registers (chapter 9). -/
structure Tie where
  /-- egress and ingress buffers, oldest first, with the dateline channel (R333) -/
  egress : List (Bool × Packet) := []
  ingress : List (Bool × Packet) := []
  /-- tree queue towards the partner (R333), and tree packets in the relay registers before it (R340) -/
  tree : List Packet := []
  relay : List Packet := []
  /-- link-local packets that wait for room in the egress buffer (R321, R335), and a port that goes DOWN once its CONFLICT has left -/
  linkq : List Packet := []
  ending : Bool := false
  /-- UNREACHABLE replies of a port that went DOWN that have found no room in the mortar yet (R326) -/
  due : List Packet := []
  /-- retry buffer (R324), the next sequence number to send and the next expected (R322) -/
  retry : List TieFrame := []
  txSeq : Nat := 0
  rxSeq : Nat := 0
  /-- frames accepted since the last CTRL frame, a NAK to be sent, and whether frames are being discarded since the last one (R324) -/
  since : Nat := 0
  nak : Bool := false
  skip : Bool := false
  /-- flits sent, credits received and flits freed, by buffer (R323) -/
  sent : List (Nat × Nat) := []
  credit : List (Nat × Nat) := []
  freed : List (Nat × Nat) := []
  /-- the outstanding table (R332): the UNREACHABLE reply of each entry -/
  out : List Packet := []
  /-- the reporter's open step (R205) -/
  step : BitVec 64 := 0
  /-- the child's COUNT of the round is awaited (R340) -/
  childDue : Bool := false
  /-- the width of the attempt in progress (R319) -/
  width : Nat := 0
  /-- a token has been sent and the partner's is awaited; a token has arrived (R318, R336) -/
  token : Bool := false
  got : Bool := false
  /-- the data words of the last CTRL frame sent (R323) -/
  ctrl : Option (BitVec 64 × BitVec 64) := none
deriving DecidableEq, Repr

/-- What a timer channel took at its last arming (R531): MODE and SRC. -/
structure TmrLatch where
  mode : Nat := 0
  src : Nat := 0
deriving DecidableEq, Repr


/-! ## Sensor and actuator ports -/

/-- An event between admission and injection (R402, R405); one that came through the spill ring keeps its recorded step. -/
structure PEvent where
  tile : Nat
  axon : Nat
  payload : Nat
  prio : Nat
  rec? : Option Nat := none
deriving DecidableEq, Repr

/-- A frame of an actuator template (R416): destination address, EtherType, payload. -/
structure ActFrame where
  dst : Nat
  etype : Nat
  body : List Nat
deriving DecidableEq, Repr

/-- An actuator template (R416): CLOSEs since its last trigger, frames built, and the frame that waits for the bus. -/
structure ActTpl where
  closes : Nat := 0
  frames : Nat := 0
  waiting : Option ActFrame := none
deriving DecidableEq, Repr

/-- A sensor port (R402–R416): 0 to 3 CSI, 4 and 5 AER, 6 to 9 T1S. -/
structure SPort where
  /-- output FIFO, oldest first -/
  fifo : List PEvent := []
  /-- spill ring and write buffer with the recorded steps, oldest first, and the ring memory's next entry to write and to read -/
  ring : List (PEvent × Nat) := []
  buf : List (PEvent × Nat) := []
  head : Nat := 0
  tail : Nat := 0
  /-- tokens in 1/1,600, and RATE and DEPTH as the last event found them, which the bucket gains and holds (R404) -/
  tokens : Nat := 0
  rate : Nat := 0
  depth : Nat := 0
  /-- block map, and its entries with bad parity (R403) -/
  map : List (Nat × BitVec 32) := []
  mapBad : List Nat := []
  /-- the reporter's counts and open step (R202, R205) -/
  inj0 : BitVec 32 := 0
  inj1 : BitVec 32 := 0
  step : BitVec 64 := 0
  /-- frame number of the last frame start (R408); frames accepted in the current millisecond (R414) -/
  frame : Nat := 0
  ms : Nat := 0
  accepted : Nat := 0
  /-- actuator templates, by number (R416), and the frames sent, oldest first -/
  acts : List (Nat × ActTpl) := []
  sent : List ActFrame := []
  /-- the page has been enabled since its domain rose (R412, R418) -/
  seen : Bool := false
deriving DecidableEq, Repr



/-! ## The host port and the firmware's messages -/

/-- A control frame the host port sends (R429, R439): destination address, KIND, SEQ, CHIP and body, and the association number
and packet number that protect it. -/
structure TxFrame where
  dst : Nat
  kind : Nat
  seq : Nat
  chip : Nat
  body : List Nat
  sec : Option (Nat × Nat) := none
deriving DecidableEq, Repr

/-- An installed MACsec association (R550): number, channel, the next packet number to send or to accept, SSCI, salt and key. -/
structure Assoc where
  an : Nat
  sci : Nat
  pn : Nat
  ssci : Nat
  salt : Nat
  key : Nat
deriving DecidableEq, Repr

/-- A register frame of the responder (R433–R436): SEQ, CHIP, body, words done, data read so far, and whether a word waits for its
reply through the mortar. -/
structure RegJob where
  seq : Nat
  chip : Nat
  body : List Nat
  done : Nat := 0
  data : List Nat := []
  wait : Bool := false
deriving DecidableEq, Repr

/-- A register request that a worker's agent holds (R337): the chip that asks, its SEQ, whether it writes, its address, its words (of a
read, one for each to read), the words done and the data read so far. -/
structure AgentJob where
  chip : Nat
  seq : Nat
  write : Bool
  addr : Nat
  words : List Nat
  done : Nat := 0
  data : List Nat := []
deriving DecidableEq, Repr

/-- A received message (R442, R443): the chip that carried it (none: this chip's own host port), its bytes and the SEQ of the frame that
brought its last fragment, which the frames of its answer echo (R429). -/
structure Msg where
  via : Option Nat
  bytes : List Nat
  fseq : Nat := 0
deriving DecidableEq, Repr

/-- An entry of the list output buffer (R437, R438). -/
structure OutEntry where
  stream : Nat
  step : Nat
  word : Nat
deriving DecidableEq, Repr

/-- A long operation of the firmware in progress (R443, R470, R496): its message, its stage and place in it, writes done, the outcome
that ended it, the SEQ of a forwarded register access it waits for, that access's outcome and word, and the tiles it disabled. -/
structure LongOp where
  msg : Msg
  stage : Nat := 0
  idx : Nat := 0
  ndone : Nat := 0
  code : Nat := 0
  await : Option Nat := none
  reply : Option (Nat × Nat) := none
  tiles : List Nat := []
deriving DecidableEq, Repr

/-- The host port beyond its registers (chapter 13). -/
structure HostPort where
  /-- tokens of the responder bucket (R432) and of the input bucket in 1/1,600, with its RATE and DEPTH in effect (R404, R441): EN resets
  to 1, so it starts full -/
  tokens : Nat := 40
  itokens : Nat := 1638400
  irate : Nat := 0xA0
  idepth : Nat := 0x400
  /-- register frames waiting, the first in progress, and the last answer sent with its request (R436) -/
  jobs : List RegJob := []
  last : Option (RegJob × TxFrame) := none
  /-- frames sent, oldest first -/
  tx : List TxFrame := []
  /-- input FIFO: chip and event (R441) -/
  fifo : List (Nat × PEvent) := []
  /-- the reporter's open step (R205) -/
  step : BitVec 64 := 0
  /-- output: list entries, dense counts by parity · 1,024 + place, first place + 1 of each dense stream, streams held disabled, streams
  with a loss to report, frame counts by stream (R437–R440) -/
  list : List OutEntry := []
  dense : List (Nat × Nat) := []
  place : List (Nat × Nat) := []
  off : List Nat := []
  loss : List Nat := []
  oseq : List (Nat × Nat) := []
  /-- grace ring, oldest first, and its next byte (R446) -/
  ring : List TxFrame := []
  gpos : Nat := 0
  /-- lease interval and grace in 10 ns units, and the time GRACE expires (R445, R446) -/
  interval : Nat := 10000000
  grace : Nat := 50000000
  graceAt : Nat := 0
  /-- message being assembled from the host, and from MGMT fragments: number, next fragment, bytes (R442, R337) -/
  asm : Option (Nat × Nat × Nat × List Nat) := none
  masm : List (Nat × Nat × Nat × List Nat) := []
  /-- messages the firmware holds, oldest first (R442); the notifications sent so far (R443), and
  whether HELLO has completed since the last binding or footing entry (R508) -/
  msgs : List Msg := []
  nseq : Nat := 0
  mnum : Nat := 0
  hello : Bool := false
  /-- the next SEQ of a MGMT request, the SEQ of the register request forwarded for the responder, and the messages forwarded to a
  worker and not answered: chip, TYPE, SEQ and the frame's SEQ (R337, R429) -/
  mgseq : Nat := 0
  fwd : Option Nat := none
  fwdMsgs : List (Nat × Nat × Nat × Nat) := []
  /-- register requests that the agent of a worker holds, the first in progress (R337) -/
  agent : List AgentJob := []
  /-- the long operation in progress (R443) -/
  long : Option LongOp := none
  /-- MGMT packets that wait to enter the mortar -/
  mgOut : List Packet := []
  /-- associations (R550) -/
  rx : List Assoc := []
  txa : List Assoc := []
  /-- an activated transmit association protects what is sent (R428, R550) -/
  txOn : Bool := false
deriving DecidableEq, Repr

/-- A thread in start-up calibration (R494): tile, thread, CAL_STEPS, CAL_LIFTS, the refinement bit of the image, whether the table phase
has ended, and the step or lift count at which the phase began. -/
structure Cal where
  tile : Nat
  thread : Nat
  steps : Nat
  lifts : Nat
  refine : Bool := false
  second : Bool := false
  from_ : Nat := 0
deriving DecidableEq, Repr

/-- What the scheduler firmware keeps of the loaded network (R491–R496). -/
structure Net where
  /-- tiles the container loaded, in order -/
  tiles : List Nat := []
  firstStep : Nat := 0
  /-- a step has run since the load -/
  ran : Bool := false
  /-- the load is finished and tiles may be enabled -/
  ready : Bool := false
  /-- the start has been written and the tiles wait to be enabled -/
  starting : Bool := false
  /-- threads in calibration -/
  cal : List Cal := []
deriving DecidableEq, Repr


/-! ## The kiln -/

/-- A kiln row (R293): data, tag and CRC as stored. -/
structure KRow where
  data : BitVec 512 := 0
  tag : BitVec 64 := 0
  crc : BitVec 16 := 0
deriving DecidableEq, Repr

/-- What the kiln controller keeps of a slice while it is mounted (R296, R299): whether a sealed set exists, the open set, the free
queues of the four banks, the bank whose queue is next, and the rows in use. -/
structure KSlice where
  hasSet : Bool := false
  opened : Option Nat := none
  q0 : List Nat := []
  q1 : List Nat := []
  q2 : List Nat := []
  q3 : List Nat := []
  next : Nat := 0
  used : List Nat := []
deriving DecidableEq, Repr

/-- A persistent copy of the recorder (R558): sequence number, minutes, power cycles, the records. -/
structure RecCopy where
  seq : Nat
  minutes : Nat
  cycles : Nat
  recs : List (Nat × Rec)
deriving DecidableEq, Repr

/-- What the kiln's first four partitions hold (R292): the two mirror copies of the boot record (R482), the retirements kept for step 4
(R393: the retirement registers written, by address) and the stored training results by channel (R362), the recorder's copies A and B
(R558), the footing container. -/
structure KilnParts where
  mirrorA : Option (List (BitVec 32)) := none
  mirrorB : Option (List (BitVec 32)) := none
  /-- the next mirror write goes to copy B -/
  mirrorNext : Bool := false
  retired : List (Nat × BitVec 32) := []
  training : List (Nat × (BitVec 32 × BitVec 32)) := []
  copyA : Option RecCopy := none
  copyB : Option RecCopy := none
  footing : List Nat := []
deriving DecidableEq, Repr


/-! ## Fuses, bring-up and power -/

/-- The fuses (R30, R33, R426, R539, R540, R543, R548, R550): grade, good-tile map (bit = tile ID), MAC address, identifier, lifecycle state,
the hashes of the vendor and integrator keys, the pairing key and the device secret. -/
structure Fuses where
  grade : Nat := 1
  tiles : BitVec 1024 := BitVec.allOnes 1024
  mac : Nat := 0
  uid : Nat := 0
  lc : Nat := 1
  vkey : BitVec 256 := 0
  ikey : Option (BitVec 256) := none
  pair : Option (BitVec 256) := none
  secret : BitVec 256 := 0
deriving DecidableEq, Repr

/-- The bring-up sequencer (R478, R479): the step that runs, the last of its run, the method of the command for it, the time it began;
a mirror write is due (R482); the straps as last sampled (R590): ROLE, BOOT_IF, FOOT_SEL. -/
structure Boot where
  run : Option Nat := none
  last : Nat := 0
  method : Nat := 0
  start : Nat := 0
  mirror : Bool := false
  manager : Bool := false
  spi : Bool := false
  sel : Bool := false
  /-- power-on, and no step 1 since; a host write of the record waits for the step's end -/
  pon : Bool := true
  hostw : Bool := false
deriving DecidableEq, Repr

/-- The management SPI target beyond its registers (R581–R583): words of the WRITE that wait, with their global addresses; the READ in
progress, with the words clocked and not yet performed and its next address; the SEQ of a forwarded word; the bytes driven so far in
the transaction. -/
structure Spi where
  queue : List (Nat × Nat) := []
  readLeft : Nat := 0
  readAt : Nat := 0
  await : Option Nat := none
  out : List Nat := []
deriving DecidableEq, Repr

/-- The power controller beyond its registers: targets of the level changes in progress (R525), quiet windows (R526). -/
structure Power where
  toW : Option Nat := none
  toE : Option Nat := none
  quiet : Nat := 0
deriving DecidableEq, Repr

/-- The security part beyond its registers: the cluster firmware kept in firmware shared memory (R485), the identity key of the vault
(R548), hash jobs in progress by area (R546), the last kick of the security watchdog (R554). -/
structure Secure where
  fwClu : List Nat := []
  vault : Option (BitVec 256) := none
  jobs : List Bool := []
  kick : Nat := 0
  /-- a tamper event holds the security core until the next whole reset (R553) -/
  stuck : Bool := false
  /-- the time base at which the wipe of the secure window in progress began (R395) -/
  wipe : Option Nat := none
deriving DecidableEq, Repr


/-- The state of the EZ-G1024 (INVENTORY.md, '## State', lists every field with its rule). -/
structure State where
  /-- registers of all pages, by decoded local address; unlisted: the reset value (`regReset`) -/
  regs : List (Nat × BitVec 32) := []
  /-- bytes of the tile windows, cluster shared memories, firmware and security memories, by local address; unlisted: 0 -/
  mem : List Host.Cell := []
  /-- tiles, by tile ID -/
  tiles : List (Nat × Tile) := []
  /-- clusters, by number -/
  clusters : List (Nat × Cluster) := []
  /-- packets in the routers and collar bridges, oldest first -/
  flights : List Flight := []
  /-- combine buffers of the routers (R257), oldest first -/
  psums : List PsumBuf := []
  /-- combine buffer 0 of the routers (R262), by router -/
  counts : List (Nat × CountBuf) := []
  /-- open steps of the router sinks, by router (R205) -/
  sinkStep : List (Nat × BitVec 64) := []
  /-- open step of the collar bridges in sink mode (R205) -/
  collarStep : BitVec 64 := 0
  /-- the input that each output port granted last, by router, port, channel and class (R251) -/
  arb : List (Nat × Nat) := []
  /-- whether the condition of MTR's DRAINED held when last looked at, for the west and the east wythe (R275) -/
  drainW : Bool := false
  drainE : Bool := false
  /-- the step controller's TMR_STEP and what no register shows of it -/
  ctl : StepCtl := {}
  /-- the 64-bit time base (R529) -/
  tb : BitVec 64 := 0
  /-- lines of the memory devices, by channel · 2^24 + device · 2^23 + device line (R353) -/
  ext : List (Nat × MemLine) := []
  /-- the active lists of the west and the east wythe (R354) -/
  memW : MemList := {}
  memE : MemList := {}
  /-- fills in progress: first line and number of lines by channel (R360) -/
  fills : List (Nat × (Nat × Nat)) := []
  /-- requests held by the memory channels, oldest first (R359) -/
  memq : List MemReq := []
  /-- replies that reached requesters outside the model (firmware cores, debug access), oldest first (R241) -/
  answers : List Packet := []
  /-- firmware cores, by the core number of R449 -/
  cores : List (Nat × Core) := []
  /-- write-owner masks of the register pages that differ from R455, by page index -/
  fwmask : List (Nat × BitVec 24) := []
  /-- the READY pin (R480) -/
  ready : Bool := false
  /-- the footing controller (R500) -/
  foot : Foot := {}
  /-- records of the event recorder, by ID (R555), and the events of each window record since its window began -/
  recs : List (Nat × Rec) := []
  recWin : List (Nat × Nat) := []
  /-- tie ports, by number (R327); W and H of the torus as sampled at step 7 or assigned (R347) -/
  ties : List (Nat × Tie) := []
  torusW : Nat := 1
  torusH : Nat := 1
  /-- timer channels as armed (R531) -/
  tmr : List (Nat × TmrLatch) := []
  /-- snapshots of the time base's upper half, by initiator (R530), and the counts since one was withheld (R529) -/
  snaps : List (Nat × BitVec 32) := []
  slewPhase : Nat := 0
  /-- while CK_REF is stopped (R521): the part of a count that CK_AON32 has gained, in 1/128, and the time base at which the
  oscillator began to restart -/
  aonPhase : Nat := 0
  refStart : Option Nat := none
  /-- sensor ports: 0 to 3 CSI, 4 and 5 AER, 6 to 9 T1S; by gateway router, the port that injected last + 1 (R402) -/
  sports : List (Nat × SPort) := []
  portTurn : List (Nat × Nat) := []
  /-- levels that the outside drives on the GPIO pins (R417) -/
  pins : BitVec 16 := 0
  /-- the host port, its mailboxes and MACsec associations (chapter 13) -/
  host : HostPort := {}
  /-- the loaded network (R491) -/
  net : Net := {}
  /-- link map of the manager's firmware (R338): flit 1 by chip · 4 + port -/
  linkmap : List (Nat × BitVec 64) := []
  /-- rows of the kiln's plastic store, by row number (R293); they survive every reset and loss of power -/
  krows : List (Nat × KRow) := []
  /-- the other partitions of the kiln -/
  kparts : KilnParts := {}
  /-- the controller's slices, and the ring it served last (R295, R296) -/
  kslices : List (Nat × KSlice) := []
  kring : Nat := 15
  /-- fuses; nothing but burning changes them -/
  fuse : Fuses := {}
  /-- the bring-up sequencer -/
  boot : Boot := {}
  /-- levels and the governor -/
  power : Power := {}
  /-- the management SPI target -/
  spi : Spi := {}
  /-- security -/
  secure : Secure := {}
  /-- the commands that wait, first in, first out -/
  pending : List Instr := []
  /-- the model's own counter of free values drawn (the argument of Config.freeValue) -/
  free : Nat := 0
deriving DecidableEq, Repr

/-- The state right after reset: every register at its reset value, every memory and queue empty. -/
def State.reset : State := {}

end Sys2Proof.Machine
end

