-- ==== Sys2Proof/Machine/Ops.lean ====
section
/-! DEFINITION. The named operations over registers and memories that every meaning is built from. -/

namespace Sys2Proof.Machine
open Sys2Proof

/-- A command's outcome when it completes. -/
abbrev Out := Host.Outcome State Fault Refusal

/-! ## Registers -/

/-- The register word at decoded local address `a` as it stands. -/
def State.rd (s : State) (a : Nat) : BitVec 32 := Map.get (regReset a) s.regs a

/-- Put `v` into the register at `a`. -/
def State.wr (s : State) (a : Nat) (v : BitVec 32) : State := { s with regs := Map.set (regReset a) s.regs a v }

/-- A field's value. -/
def State.f (s : State) (l : Loc) : Nat := bits (s.rd l.addr).toNat l.hi l.lo

/-- Put `v` into a field, the register's other bits kept. -/
def State.setF (s : State) (l : Loc) (v : Nat) : State :=
  s.wr l.addr (BitVec.ofNat 32 (putBits (s.rd l.addr).toNat l.hi l.lo v))

/-- A one-bit field as a truth value. -/
def State.b (s : State) (l : Loc) : Bool := s.f l != 0

/-- Largest value of a field. -/
def Loc.max (l : Loc) : Nat := 2 ^ (l.hi + 1 - l.lo) - 1

/-- Add `k` to a saturating counter. -/
def State.add (s : State) (l : Loc) (k : Nat) : State := s.setF l (min (s.f l + k) l.max)

/-- Add 1 to a saturating counter. -/
def State.inc (s : State) (l : Loc) : State := s.add l 1

/-- Add `k` to a count that wraps (R202). -/
def State.addWrap (s : State) (l : Loc) (k : Nat) : State := s.setF l (s.f l + k)

/-- Return the registers at addresses lo..hi to their reset values. -/
def State.resetRegs (s : State) (lo hi : Nat) : State :=
  { s with regs := s.regs.filter fun p => !(decide (lo ≤ p.1) && decide (p.1 ≤ hi)) }

/-! ## Bytes of memory (R8) -/

/-- Byte at a local address. -/
def State.ld8 (s : State) (a : Nat) : Nat := (Map.get (0 : BitVec 8) s.mem a).toNat

/-- Store a byte. -/
def State.st8 (s : State) (a v : Nat) : State := { s with mem := Map.set 0 s.mem a (BitVec.ofNat 8 v) }

/-- `n` bytes from `a`, little endian. -/
def State.ldN (s : State) : Nat → Nat → Nat
  | 0, _ => 0
  | n + 1, a => s.ld8 a + 256 * s.ldN n (a + 1)

/-- Store the low `n` bytes of `v` from `a`, little endian. -/
def State.stN : Nat → State → Nat → Nat → State
  | 0, s, _, _ => s
  | n + 1, s, a, v => State.stN n (s.st8 a v) (a + 1) (v / 256)

/-- `n` bytes from `a`, lowest address first. -/
def State.bytes (s : State) (n a : Nat) : List Nat := (List.range n).map fun i => s.ld8 (a + i)

/-- Store bytes from `a`. -/
def State.stBytes (s : State) (a : Nat) : List Nat → State
  | [] => s
  | b :: t => State.stBytes (s.st8 a b) (a + 1) t

/-- Set every byte of lo..hi to what unlisted memory reads as, zero (R376). -/
def State.zeroMem (s : State) (lo hi : Nat) : State :=
  { s with mem := s.mem.filter fun p => !(decide (lo ≤ p.1) && decide (p.1 ≤ hi)) }

/-! ## Places (R11–R14, R18, R23, R24) -/

/-- Column and row of a tile. -/
def tileX (t : Nat) : Nat := t % 32
def tileY (t : Nat) : Nat := t / 32

/-- Cluster of a tile (R12). -/
def clusterOf (t : Nat) : Nat := (tileY t / 8) * 4 + tileX t / 8

/-- Cluster-local index of a tile: (y mod 8) × 8 + (x mod 8). -/
def localIdx (t : Nat) : Nat := (tileY t % 8) * 8 + tileX t % 8

/-- Tile of a cluster by cluster-local index. -/
def tileOf (c i : Nat) : Nat := ((c / 4) * 8 + i / 8) * 32 + (c % 4) * 8 + i % 8

/-- The east wythe holds columns 16 to 31 (R13). -/
def isEast (t : Nat) : Bool := decide (16 ≤ tileX t)

/-- East wythe of a cluster. -/
def clusterEast (c : Nat) : Bool := decide (2 ≤ c % 4)

/-- Tile window (R24). -/
def winBase (t : Nat) : Nat := 0x100000000 + t * 0x80000
def synBase (t : Nat) : Nat := winBase t
def neuBase (t : Nat) : Nat := winBase t + 0x40000
def accBase (t : Nat) : Nat := winBase t + 0x50000
def progBase (t : Nat) : Nat := winBase t + 0x60000

/-- Cluster shared memory (R23). -/
def shmBase (c : Nat) : Nat := 0x200000000 + c * 0x400000

/-! ## Tiles and clusters -/

def State.tile (s : State) (t : Nat) : Tile := Map.get {} s.tiles t
def State.setTile (s : State) (t : Nat) (x : Tile) : State := { s with tiles := Map.set {} s.tiles t x }
def State.modTile (s : State) (t : Nat) (g : Tile → Tile) : State := s.setTile t (g (s.tile t))
def State.cluster (s : State) (c : Nat) : Cluster := Map.get {} s.clusters c
def State.setCluster (s : State) (c : Nat) (x : Cluster) : State := { s with clusters := Map.set {} s.clusters c x }
def State.modCluster (s : State) (c : Nat) (g : Cluster → Cluster) : State := s.setCluster c (g (s.cluster c))

/-- A bit of a tile bitmap. -/
def bmGet (b : BitVec 16384) (i : Nat) : Bool := b.getLsbD i
def bmSet (b : BitVec 16384) (i : Nat) (v : Bool) : BitVec 16384 :=
  let m : BitVec 16384 := BitVec.ofNat 16384 (2 ^ i)
  if v then b ||| m else b &&& ~~~ m

/-! ## Words of a tile (R24, R374, R392) -/

/-- Bank and region of word `w` of tile memory `m`: 0 synapse, 1 neuron state, 2 accumulators, 3 program and scratch. -/
def tileBank (m w : Nat) : Nat × Nat :=
  match m with
  | 0 => (w / 4096, w % 4096 / 64)
  | 1 => (w % 4, w / 4 / 64)
  | 2 => (w % 64, w / 64 / 64)
  | _ => (w / 4096, w % 4096 / 64)

/-- The word lies in a retired region or bank: reads return 0 and writes are discarded (R392). -/
def State.retiredWord (s : State) (t m w : Nat) : Bool :=
  s.regs.any (fun p => decide (Block.tile.base t + 0x328 ≤ p.1) && decide (p.1 ≤ Block.tile.base t + 0x368)) &&
    ((m == 0 && bitAt (s.f (TILE_RETIRE_SYN t)) (tileBank m w).1) ||
      (List.range 8).any fun k =>
        s.b (TILE_RETIRE_REG_VALID t k) && s.f (TILE_RETIRE_REG_MEM t k) == m &&
          s.f (TILE_RETIRE_REG_BANK t k) == (tileBank m w).1 && s.f (TILE_RETIRE_REG_REGION t k) == (tileBank m w).2)

/-- The key of a word in a tile's set of words with bad parity. -/
def badKey (m w : Nat) : Nat := m * 32768 + w

/-- The refetch of a hold has been issued and its reply is not here (R382). -/
def Hold.outstanding (h : Hold) : Bool := !h.fw && h.issued && h.rsp.isNone

/-- The bytes of `cover` of a word have been written, so their parity is good (R379); no access goes on as one that met the old word. -/
def State.freshBytes (s : State) (t m w cover : Nat) : State :=
  if (s.tile t).bad = [] then s
  else
    s.modTile t fun x =>
      let b := Map.get 0 x.bad (badKey m w) &&& ~~~ (BitVec.ofNat 8 cover)
      { x with bad := Map.set 0 x.bad (badKey m w) b,
               holds := x.holds.filterMap fun h =>
                 if b = 0 ∧ h.mem = m ∧ h.word = w ∧ h.failed then (if h.outstanding then some { h with waits := [] } else none)
                 else some h }

/-- The word's parity is good again: it has been written whole (R379). -/
def State.freshWord (s : State) (t m w : Nat) : State := s.freshBytes t m w 0xFF

/-- 64-bit word `v` of synapse memory. -/
def State.synW (s : State) (t v : Nat) : Nat := if s.retiredWord t 0 v then 0 else s.ldN 8 (synBase t + 8 * v)
def State.setSynW (s : State) (t v x : Nat) : State :=
  if s.retiredWord t 0 v then s else (State.stN 8 s (synBase t + 8 * v) x).freshWord t 0 v
/-- Neuron word `i`. -/
def State.neu (s : State) (t i : Nat) : Nat := if s.retiredWord t 1 i then 0 else s.ldN 4 (neuBase t + 4 * i)
def State.setNeu (s : State) (t i x : Nat) : State :=
  if s.retiredWord t 1 i then s else (State.stN 4 s (neuBase t + 4 * i) x).freshWord t 1 i
/-- Accumulator of neuron `i`, sign-extended from 20 bits (R24). -/
def State.acc (s : State) (t i : Nat) : Int := if s.retiredWord t 2 i then 0 else sgn 20 (s.ldN 4 (accBase t + 4 * i))
def State.setAcc (s : State) (t i : Nat) (v : Int) : State :=
  if s.retiredWord t 2 i then s else
    (State.stN 4 s (accBase t + 4 * i) (wrap 32 (sgn 20 (wrap 20 v)))).freshWord t 2 i
/-- Word `p` of program and scratch memory. -/
def State.prog (s : State) (t p : Nat) : Nat := if s.retiredWord t 3 p then 0 else s.ldN 4 (progBase t + 4 * p)
def State.setProg (s : State) (t p x : Nat) : State :=
  if s.retiredWord t 3 p then s else (State.stN 4 s (progBase t + 4 * p) x).freshWord t 3 p

/-! ## Power and presence -/

/-- Power domains by number (R511). -/
def dAON : Nat := 0
def dSEC : Nat := 1
def dFW : Nat := 2
def dPLL : Nat := 3
def dMTW : Nat := 4
def dMTE : Nat := 5
def dMEMW : Nat := 6
def dMEME : Nat := 7
def dHOST : Nat := 8
def dCSI : Nat := 9
def dT1S : Nat := 10
def dTIE : Nat := 11
def dKILN : Nat := 12
def dREC : Nat := 13
def dCLU (c : Nat) : Nat := 14 + c

/-- The domain reads ON (PWR_ON). -/
def State.domOn (s : State) (d : Nat) : Bool := bitAt (s.f PWR_ON) d

/-- The good-tile map holds the tile (R33). -/
def State.tileGood (s : State) (t : Nat) : Bool := bitAt (s.f (SYS_TILEMAP (t / 32))) (t % 32)

/-- The tile is retired (R392). -/
def State.tileRetired (s : State) (t : Nat) : Bool :=
  if localIdx t < 32 then bitAt (s.f (CLU_RETIRE_T0 (clusterOf t))) (localIdx t)
  else bitAt (s.f (CLU_RETIRE_T1 (clusterOf t))) (localIdx t - 32)

/-- Why a router sinks for its tile (R206, R273): 0 it does not, 1 absent, 2 retired, 3 cluster domain off. -/
def State.sinkReason (s : State) (t : Nat) : Nat :=
  if !s.tileGood t then 1 else if s.tileRetired t then 2 else if !s.domOn (dCLU (clusterOf t)) then 3 else 0

/-- The tile is there and powered. -/
def State.tileUp (s : State) (t : Nat) : Bool := s.sinkReason t == 0

/-- The mortar domain of a router. -/
def mortarDom (t : Nat) : Nat := if isEast t then dMTE else dMTW

/-- This chip's ID. -/
def State.chipId (s : State) : Nat := s.f SYS_CHIP_ID_CHIP_ID
/-- ROLE strap: manager. -/
def State.isManager (s : State) : Bool := s.b SYS_CHIP_ID_MANAGER

/-- Draw the next free value (a value the spec leaves open). -/
def State.drawFree (s : State) : BitVec 64 × State := (Config.freeValue s.free, { s with free := s.free + 1 })

end Sys2Proof.Machine
end

