-- ==== Sys2Proof/Machine/Flags.lean ====
section
/-! DEFINITION. Page flags: INT_STATUS bits, request lines and their summary on the CLU page (R564, R573, R574, R579). -/

namespace Sys2Proof.Machine
open Sys2Proof

/-- The request line of a page: a bit set in both INT_STATUS and INT_ENABLE (R573). -/
def State.reqLine (s : State) (b : Block) (i : Nat) : Bool :=
  (s.f (INT_STATUS b i)) &&& (s.f (INT_ENABLE b i)) != 0

/-- The CLU summary bit a TILE or RT line drives when it becomes active (R579). -/
def summaryBit : Block → Option Nat
  | .tile => some 0
  | .rt => some 1
  | _ => none

/-- Run `g`, which may change INT_STATUS or INT_ENABLE of a page; a line that becomes active sets its summary bit (R579). -/
def State.withLine (s : State) (b : Block) (i : Nat) (g : State → State) : State :=
  let s' := g s
  match summaryBit b with
  | some k =>
    if !s.reqLine b i && s'.reqLine b i then
      s'.setF (INT_STATUS .clu (clusterOf i)) (s'.f (INT_STATUS .clu (clusterOf i)) ||| 2 ^ k)
    else s'
  | none => s'

/-- Set bit `k` of the page's INT_STATUS. -/
def State.raise (s : State) (b : Block) (i k : Nat) : State :=
  s.withLine b i fun s => s.setF (INT_STATUS b i) (s.f (INT_STATUS b i) ||| 2 ^ k)

/-- The page's CTRL.EN as it reads. -/
def State.en (s : State) (b : Block) (i : Nat) : Bool := s.b (PAGE_EN b i)

/-- The page's STATUS.DRAINING. -/
def State.draining (s : State) (b : Block) (i : Nat) : Bool := s.b (PAGE_DRAINING b i)

/-- ACTIVE: EN reads 1 and no disable is in progress (R564). -/
def State.actv (s : State) (b : Block) (i : Nat) : Bool := s.en b i && !s.draining b i

/-- A rejected write of an RWD register at decoded byte offset `o` of a page (R569, R570). -/
def State.cfgReject (s : State) (b : Block) (i o : Nat) : State :=
  ((s.inc (CFG_REJECT_COUNT b i)).setF (CFG_REJECT_OFFSET b i) (o / 4)).raise b i 31

/-- IRQ_N is driven low while the BOOT or HOST request line is active (R573). -/
def State.irqN (s : State) : Bool := !(s.reqLine .boot 0 || s.reqLine .host 0)

end Sys2Proof.Machine
end

