-- ==== Sys2Proof/Machine/BootRec.lean ====
section
/-! DEFINITION. The boot record (spec/15_start_recovery_footing.md R481, R482). -/

namespace Sys2Proof.Machine
open Sys2Proof

/-- Word `w` of the boot record. -/
def State.recWord (s : State) (w : Nat) : Nat := (s.rd (BOOT_REC w).addr).toNat

/-- The CRC-16 of words 0 to 62 (R481). -/
def State.recCrc (s : State) : Nat :=
  crcMsb 16 0x1021 0xFFFF ((List.range 63).flatMap fun w => (List.range 4).map fun i => s.recWord w / 2 ^ (8 * i) % 256)

/-- Word 63 after a change of the record: SEQ advances and the CRC is recomputed (R482). -/
def State.recSeal (s : State) : State :=
  s.wr (BOOT_REC 63).addr (BitVec.ofNat 32 ((s.recWord 63 / 65536 + 1) % 65536 * 65536 + s.recCrc))

/-- The hardware changes bits [hi:lo] of word `w` of the record (R481–R483). -/
def State.recPut (s : State) (w hi lo v : Nat) : State :=
  let n := putBits (s.recWord w) hi lo v
  if n = s.recWord w then s else (s.wr (BOOT_REC w).addr (BitVec.ofNat 32 n)).recSeal

end Sys2Proof.Machine
end

