-- ==== Sys2Proof/Machine/Firewall.lean ====
section
/-! DEFINITION. The firewall (spec/14_firmware_and_hods.md R453–R456). -/

namespace Sys2Proof.Machine
open Sys2Proof

/-! ## Initiators (R453) -/

def iSEC : Nat := 0
def iPWR : Nat := 1
def iSCHED : Nat := 2
def iHOST : Nat := 3
def iREMOTE : Nat := 4
def iDEBUG : Nat := 5
def iTHREAD : Nat := 6
def iENGINE : Nat := 7
def iCLU (c : Nat) : Nat := 8 + c

/-- The initiator of core `k` (R449, R453). -/
def coreIni (k : Nat) : Nat := if k < 3 then k else 8 + (k - 3)

/-- The reset write-owner mask of a page (R455). -/
def fwReset (b : Block) (i : Nat) : BitVec 24 :=
  match b with
  | .sec => 0x000001
  | .fwc => 0x000001
  | .clu => BitVec.ofNat 24 (0x3D + 2 ^ (8 + i))
  | .tile => BitVec.ofNat 24 (0x2D + 2 ^ (8 + clusterOf i))
  | .rt => BitVec.ofNat 24 (0x2D + 2 ^ (8 + clusterOf i))
  | _ => 0xFFFF2F

/-- The reset mask of the page at page index `p`; pages with no block hold no mask. -/
def fwResetAt (p : Nat) : BitVec 24 :=
  match pageOf (p * 0x1000) with
  | some (b, i) => fwReset b i
  | none => 0

/-- The write-owner mask of page `p` (R454). -/
def State.fwMask (s : State) (p : Nat) : BitVec 24 := Map.get (fwResetAt p) s.fwmask p

/-- Set the mask of page `p`. -/
def State.setFwMask (s : State) (p : Nat) (v : BitVec 24) : State := { s with fwmask := Map.set (fwResetAt p) s.fwmask p v }

/-- log2 of the size of window `w` in bytes, 0 if disabled (R474); 39 to 63 act as 38. -/
def State.fwSize (s : State) (w : Nat) : Nat :=
  let z := s.f (FWC_FWW_SIZE_SIZE w)
  if z = 0 then 0 else max 12 (min 38 z)

/-- Window `w` is enabled and holds local address `a` (R474). -/
def State.fwHolds (s : State) (w a : Nat) : Bool :=
  s.fwSize w != 0 && a / 2 ^ s.fwSize w == s.f (FWC_FWW_BASE_BASE w) * 4096 / 2 ^ s.fwSize w

/-- The address is an actuator buffer T1S_ACTj_BUFw of a T1S page (R422, R454), counted at its decoded offset. -/
def inActBuf (b : Block) (a : Nat) : Bool :=
  let o := b.decodeOff (a % 0x1000)
  b == .t1s && decide (0x800 ≤ o) && decide (o < 0xC00) && decide (0x40 ≤ o % 0x100) && decide (o % 0x100 < 0x80)

/-- The lifecycle state permits the initiator DEBUG (R539). -/
def State.debugOk (s : State) : Bool := s.fuse.lc != 3 && s.fuse.lc != 5

/-- The firewall's decision (R454–R456), and the hardware's refusal of DEBUG (R539). -/
def State.fwAllows (s : State) (ini a : Nat) (write : Bool) : Bool :=
  if ini == iDEBUG && !s.debugOk then false
  else match (List.range 32).find? fun w => s.fwHolds w a with
  | some w =>
    if write then bitAt (s.f (FWC_FWW_WMASK_WMASK w)) ini
    else s.f (FWC_FWW_RMASK_RMASK w) == 0 || bitAt (s.f (FWC_FWW_RMASK_RMASK w)) ini
  | none =>
    match pageOf a with
    | none => true
    | some (b, i) =>
      !write ||
        (let o := b.decodeOff (a % 0x1000)
         if b == .fwc && decide (0x200 ≤ o) && decide (o < 0x24C) then ini == coreIni ((o - 0x200) / 4)
         else if b == .fwc && (o == 0x050 || o == 0x060 || (decide (0x400 ≤ o) && decide (o < 0x600))) then ini == iSEC
         else if b == .clu && i == 0 && o == 0x328 then ini == iSEC
         else if inActBuf b a then bitAt (s.f FWC_FWP_BUFMASK_WMASK) ini
         else bitAt (s.fwMask (a / 0x1000)).toNat ini)

/-- A refusal is counted and the first one kept (R453, R472). -/
def State.fwRefuse (s : State) (ini a : Nat) (write : Bool) : State :=
  let s := (s.inc FWC_FW_DENIED).raise .fwc 0 2
  if s.b FWC_FW_LAST_VALID then s
  else (((s.setF FWC_FW_LAST_VALID 1).setF FWC_FW_LAST_READ (if write then 0 else 1)).setF FWC_FW_LAST_INIT ini).setF
    FWC_FW_LAST_ADDR (a / 8192 % 2 ^ 25)

/-- FWC_FW_LOCK (R456): the firewall is fixed until reset. -/
def State.fwLock (s : State) : State := s.setF FWC_FW_LOCK_LOCK 1

/-- FWC_FW_LOCK (R456), written by an initiator. -/
def execFwcFwLock (ini : BitVec 5) (s : State) : Out :=
  .next (if s.fwAllows ini.toNat FWC_FW_LOCK.addr true then s.fwLock else s.fwRefuse ini.toNat FWC_FW_LOCK.addr true)

end Sys2Proof.Machine
end

