-- ==== Sys2Proof/Machine/Wake.lean ====
section
/-! DEFINITION. Votes and the wake logic (spec/16_power_clocks_timers.md R512, R513, R517, R519). -/

namespace Sys2Proof.Machine
open Sys2Proof

/-- Set client bits of domain `d`'s vote register. -/
def State.vote (s : State) (d m : Nat) : State := s.setF (PWR_VOTE_CLIENTS d) (s.f (PWR_VOTE_CLIENTS d) ||| m)

/-- Clear client bits. -/
def State.unvote (s : State) (d m : Nat) : State :=
  s.setF (PWR_VOTE_CLIENTS d) (s.f (PWR_VOTE_CLIENTS d) &&& (0xFFFF - m % 65536))

/-- The WAKE client (R513). -/
def vWAKE : Nat := 64

/-! ## The reference oscillator (R521) -/

/-- CK_REF restarts, if it has stopped and does not restart already. -/
def State.refRestart (s : State) : State :=
  if s.b CLK_STAT_REF_OK || s.refStart.isSome then s else { s with refStart := some s.tb.toNat }

/-- CK_REF stops while PD_PLL is off with REF_OFF = 1; with REF_OFF = 0 it restarts. -/
def State.refSync (s : State) : State :=
  if s.b PWR_CFG_REF_OFF && !s.domOn dPLL then
    if s.b CLK_STAT_REF_OK then { s.setF CLK_STAT_REF_OK 0 with refStart := none, aonPhase := 0 } else s
  else s.refRestart

/-- CK_REF runs stably 2 ms after its restart, the longest that R521 allows, a DESIGN CHOICE (notes/assumptions/137.md). -/
def State.refCheck (s : State) : State :=
  match s.refStart with
  | some t => if t + 200000 ≤ s.tb.toNat then { s.setF CLK_STAT_REF_OK 1 with refStart := none } else s
  | none => s

/-! ## Waking -/

/-- A wake source fires (R519). A tie token votes for the ties as well. -/
def State.wake (s : State) (src unit : Nat) : State :=
  let s := ((s.setF PWR_WAKE_SRC_SRC src).setF PWR_WAKE_SRC_UNIT unit).setF PWR_WAKE_T s.tb.toNat
  let s := (((s.vote dFW vWAKE).vote dPLL vWAKE).raise .pwr 0 0).refRestart
  if src = 6 then (s.vote dTIE vWAKE).vote dPLL vWAKE else s

/-- The source is enabled in PWR_WAKE_CFG; a tie token always is (R519). -/
def State.wakeOn (s : State) (src unit : Nat) : Bool :=
  match src with
  | 1 => bitAt (s.f PWR_WAKE_CFG_TMR) unit && s.b (TMRCH_CTRL_WAKE unit)
  | 2 => bitAt (s.f PWR_WAKE_CFG_CSI) unit
  | 3 => bitAt (s.f PWR_WAKE_CFG_T1S) unit
  | 4 => s.b PWR_WAKE_CFG_HOST
  | 5 => s.b PWR_WAKE_CFG_WAKE_N
  | 6 => true
  | 7 => s.b PWR_WAKE_CFG_REC
  | _ => false

/-- A source fires if it is enabled. -/
def State.wakeIf (s : State) (src unit : Nat) : State := if s.wakeOn src unit then s.wake src unit else s

end Sys2Proof.Machine
end

