-- ==== Sys2Proof/Machine/Recorder.lean ====
section
/-! DEFINITION. The event recorder's records (spec/17_security_and_recorder.md R555–R557, R559). -/

namespace Sys2Proof.Machine
open Sys2Proof

/-- Add `k` to the events of window record `id` (R555). -/
def State.recEvt (s : State) (id k : Nat) : State := { s with recWin := Map.set 0 s.recWin id (Map.get 0 s.recWin id + k) }

/-- Count an event in a register and in its window record. -/
def State.incRec (s : State) (l : Loc) (id : Nat) : State := (s.inc l).recEvt id 1

/-- Position of the leading one of a positive number. -/
def log2Of (v : Nat) : Nat := ((List.range 32).filter fun i => decide (2 ^ i ≤ v)).length - 1

/-- The LOG4 bin of a sample (R555). -/
def log4 (v : Nat) : Nat :=
  if v = 0 then 0
  else
    let l := log2Of v
    min 63 (min 63 (4 * l + v * 4 / 2 ^ l % 4) + 1)

/-- Bin of sample `v` of record `id` (R555); `port` serves TIE_WIDTH. Lateness is taken in 10 µs units against the open step's
period. -/
def State.recBin (s : State) (id v port : Nat) : Nat :=
  match id with
  | 0x01 => min 63 (v * 1000 * 16 / max 1 s.ctl.period)
  | 0x18 => (clampI 0 63 ((sgn 32 v + 48) / 3)).toNat
  | 0x19 => (clampI 0 63 (((v : Int) - 500) / 6)).toNat
  | 0x1A => (clampI 0 63 (((v : Int) - 500) / 6)).toNat
  | 0x1F => min 63 (v + 4 * port)
  | 0x21 => min 63 v
  | _ => log4 v

def sat32 (n : Nat) : Nat := min n 0xFFFFFFFF

/-- One update of a record (R555–R557). -/
def Rec.update (r : Rec) (v b minutes cycles : Nat) : Rec :=
  { seq := (r.seq + 2) % 2 ^ 32, minutes := minutes, cycles := cycles, count := sat32 (r.count + 1), min := Nat.min r.min v,
    max := if r.max < v then v else r.max, last := v, maxMin := if r.max < v then minutes else r.maxMin,
    bins := Map.set 0 r.bins b (sat32 (Map.get 0 r.bins b + 1)) }

/-- Thresholds met by a sample in bin `b` of record `id` (R559). -/
def State.recThresholds (s : State) (id b : Nat) : State :=
  (List.range 4).foldl (fun s k =>
    if s.b (REC_THR_EN k) && s.f (REC_THR_ID k) == id && decide (s.f (REC_THR_BIN k) ≤ b) then
      (s.raise .recd 0 k).wakeIf 7 0 else s) s

/-- The recorder updates: its page is on and ACTIVE (R561). -/
def State.recActive (s : State) : Bool := s.domOn dREC && s.actv .recd 0

/-- Record `id` takes sample `v` in bin `b`. -/
def State.recSampleBin (s : State) (id v b : Nat) : State :=
  if s.recActive && decide (id < 34) then
    { s with recs := Map.set {} s.recs id
               ((Map.get ({} : Rec) s.recs id).update (v % 2 ^ 32) b (s.rd REC_MINUTES.addr).toNat (s.rd REC_CYCLES.addr).toNat) }.recThresholds id b
  else s

/-- Record `id` takes sample `v`. -/
def State.recSample (s : State) (id v : Nat) (port : Nat := 0) : State := s.recSampleBin id v (s.recBin id v port)

/-- RECORDER_SAMPLE (R555). -/
def execRecorderSample (id : BitVec 6) (v : BitVec 32) (port : BitVec 2) (s : State) : Out :=
  .next (s.recSample id.toNat v.toNat port.toNat)

/-- Word at offset `o` of the record window (R557, R561). -/
def State.recWindow (s : State) (o : Nat) : Nat :=
  let id := s.f REC_IDX_IDX
  if 34 ≤ id then 0
  else
    let r := Map.get ({} : Rec) s.recs id
    match o with
    | 0x000 => r.seq
    | 0x004 => id
    | 0x008 => r.minutes
    | 0x00C => r.cycles
    | 0x010 => r.count
    | 0x014 => r.min
    | 0x018 => r.max
    | 0x01C => r.last
    | 0x020 => r.maxMin
    | 0x140 => r.seq
    | o => if 0x040 ≤ o ∧ o < 0x140 then Map.get 0 r.bins ((o - 0x40) / 4) else 0

end Sys2Proof.Machine
end

