-- ==== Sys2Proof/Machine/Packets.lean ====
section
/-! DEFINITION. Mortar packets as flits (R234–R248): classes, lengths, counting weights (R203, R204), the flit layouts read and written. -/

namespace Sys2Proof
open Sys2Proof.Machine

/-- Concatenate (value, width) fields, most significant first. -/
def packBits : List (Nat × Nat) → Nat
  | [] => 0
  | (v, w) :: t => (v % 2 ^ w) * 2 ^ ((t.map Prod.snd).sum) + packBits t

/-- A flit from its fields, most significant first. -/
def flit (l : List (Nat × Nat)) : BitVec 64 := BitVec.ofNat 64 (packBits l)

def bn (b : Bool) : Nat := if b then 1 else 0

/-- Code of a class (R234). -/
def Class.code : Class → Nat
  | .ev => 0
  | .rq => 1
  | .rp => 2
  | .cl => 3
  | .mg => 4

/-- Class of a packet (R234). A `raw` packet has none. -/
def Packet.cls : Packet → Option Class
  | .spikeUC .. => some .ev
  | .spikeMC .. => some .ev
  | .psum .. => some .cl
  | .readReq .. => some .rq
  | .writeReq .. => some .rq
  | .readRsp .. => some .rp
  | .writeAck .. => some .rp
  | .close .. => some .cl
  | .seal .. => some .cl
  | .poll .. => some .cl
  | .start .. => some .cl
  | .count .. => some .cl
  | .mgmt .. => some .mg
  | .bcast .. => some .cl
  | .hodMsg .. => some .rq
  | .raw _ => none

/-- Flit 0 of a request after TYPE and CLASS (R239). -/
def ReqHead.tail (h : ReqHead) : List (Nat × Nat) :=
  [(h.dtile.toNat, 10), (h.dchip.toNat, 10), (bn h.dgw, 1), (h.stile.toNat, 10), (h.schip.toNat, 10), (bn h.sgw, 1),
    (h.tag.toNat, 8), (h.size.toNat, 2), (0, 5)]

/-- Flit 0 of a reply after TYPE and CLASS (R239). -/
def RspHead.tail (h : RspHead) : List (Nat × Nat) :=
  [(h.dtile.toNat, 10), (h.dchip.toNat, 10), (bn h.dgw, 1), (h.status.toNat, 4), (0, 6), (h.hstat.toNat, 16),
    (h.tag.toNat, 8), (h.size.toNat, 2)]

/-- The flits of a packet (R237–R248), reserved bits 0. -/
def Packet.flits : Packet → List (BitVec 64)
  | .spikeUC dt dc ax pl pr st =>
    [flit [(1, 4), (0, 3), (dt.toNat, 10), (dc.toNat, 10), (ax.toNat, 16), (pl.toNat, 4), (pr.toNat, 2), (st.toNat, 8), (0, 7)]]
  | .spikeMC cm dc ax pl pr st tm =>
    [flit [(2, 4), (0, 3), (cm.toNat, 16), (dc.toNat, 10), (ax.toNat, 16), (pl.toNat, 4), (pr.toNat, 2), (st.toNat, 8), (0, 1)], tm]
  | .psum dt dc n st cc sm =>
    [flit [(3, 4), (3, 3), (dt.toNat, 10), (dc.toNat, 10), (n.toNat, 14), (st.toNat, 8), (cc.toNat, 6), (0, 9)],
      sm.signExtend 64]
  | .readReq h => [flit ((4, 4) :: (1, 3) :: h.tail), flit [(0, 26), (h.addr.toNat, 38)]]
  | .writeReq h d => flit ((5, 4) :: (1, 3) :: h.tail) :: flit [(0, 26), (h.addr.toNat, 38)] :: d
  | .readRsp h d => flit ((6, 4) :: (2, 3) :: h.tail) :: d
  | .writeAck h => [flit ((7, 4) :: (2, 3) :: h.tail)]
  | .close st sh ex => [flit [(8, 4), (3, 3), (0, 4), (st.toNat, 8), (bn sh, 1), (bn ex, 1), (0, 43)]]
  | .seal st => [flit [(8, 4), (3, 3), (1, 4), (st.toNat, 8), (0, 45)]]
  | .poll st r => [flit [(8, 4), (3, 3), (2, 4), (st.toNat, 8), (0, 4), (r.toNat, 4), (0, 37)]]
  | .start st => [flit [(8, 4), (3, 3), (3, 4), (0, 53)], st]
  | .count st r m ne np i c =>
    [flit [(9, 4), (3, 3), (st.toNat, 8), (r.toNat, 4), (bn m, 1), (ne.toNat, 21), (np.toNat, 21), (0, 2)],
      flit [(i.toNat, 32), (c.toNat, 32)]]
  | .mgmt k dc sc sq d =>
    flit [(10, 4), (4, 3), (k.toNat, 4), (0, 6), (dc.toNat, 10), (0, 11), (sc.toNat, 10), (sq.toNat, 8), (0, 5), (d.length, 3)] :: d
  | .bcast cm dc o d => flit [(11, 4), (3, 3), (cm.toNat, 16), (dc.toNat, 10), (o.toNat, 24), (0, 4), (d.length, 3)] :: d
  | .hodMsg h op sv d =>
    flit ((12, 4) :: (1, 3) :: h.tail) :: flit [(op.toNat, 4), (sv.toNat, 16), (0, 6), (h.addr.toNat, 38)] :: d
  | .raw f => f

/-- Request fields of flits 0 and 1. -/
def readReqHead (f0 f1 : Nat) : ReqHead :=
  { dtile := BitVec.ofNat 10 (bits f0 56 47), dchip := BitVec.ofNat 10 (bits f0 46 37), dgw := bitAt f0 36,
    stile := BitVec.ofNat 10 (bits f0 35 26), schip := BitVec.ofNat 10 (bits f0 25 16), sgw := bitAt f0 15,
    tag := BitVec.ofNat 8 (bits f0 14 7), size := BitVec.ofNat 2 (bits f0 6 5), addr := BitVec.ofNat 38 (bits f1 37 0) }

/-- Reply fields of flit 0. -/
def readRspHead (f0 : Nat) : RspHead :=
  { dtile := BitVec.ofNat 10 (bits f0 56 47), dchip := BitVec.ofNat 10 (bits f0 46 37), dgw := bitAt f0 36,
    status := BitVec.ofNat 4 (bits f0 35 32), hstat := BitVec.ofNat 16 (bits f0 25 10),
    tag := BitVec.ofNat 8 (bits f0 9 2), size := BitVec.ofNat 2 (bits f0 1 0) }

/-- Data flits of an access size (R240). -/
def dataFlits (size : Nat) : Nat := if size = 3 then 4 else if size = 2 then 2 else 1

/-- The packet that begins with flit `f` and goes on with the flits `r`, or `raw` where R235 refuses it; and the flits after it. -/
def Packet.parse (f : BitVec 64) (r : List (BitVec 64)) : Packet × List (BitVec 64) :=
  let f0 := f.toNat
  let f1 := (r.headD 0).toNat
  let cl := bits f0 59 57
  match bits f0 63 60 with
  | 1 => if cl = 0 then (.spikeUC (BitVec.ofNat 10 (bits f0 56 47)) (BitVec.ofNat 10 (bits f0 46 37)) (BitVec.ofNat 16 (bits f0 36 21))
      (BitVec.ofNat 4 (bits f0 20 17)) (BitVec.ofNat 2 (bits f0 16 15)) (BitVec.ofNat 8 (bits f0 14 7)), r) else (.raw (f :: r), [])
  | 2 => if cl = 0 then (.spikeMC (BitVec.ofNat 16 (bits f0 56 41)) (BitVec.ofNat 10 (bits f0 40 31)) (BitVec.ofNat 16 (bits f0 30 15))
      (BitVec.ofNat 4 (bits f0 14 11)) (BitVec.ofNat 2 (bits f0 10 9)) (BitVec.ofNat 8 (bits f0 8 1)) (r.headD 0), r.drop 1)
      else (.raw (f :: r), [])
  | 3 => if cl = 3 then (.psum (BitVec.ofNat 10 (bits f0 56 47)) (BitVec.ofNat 10 (bits f0 46 37)) (BitVec.ofNat 14 (bits f0 36 23))
      (BitVec.ofNat 8 (bits f0 22 15)) (BitVec.ofNat 6 (bits f0 14 9)) (BitVec.ofNat 20 (bits f1 19 0)), r.drop 1)
      else (.raw (f :: r), [])
  | 4 => if cl = 1 then (.readReq (readReqHead f0 f1), r.drop 1) else (.raw (f :: r), [])
  | 5 => if cl = 1 then
      let n := dataFlits (bits f0 6 5)
      (.writeReq (readReqHead f0 f1) ((r.drop 1).take n), r.drop (1 + n)) else (.raw (f :: r), [])
  | 6 => if cl = 2 then
      let n := if bits f0 35 32 = 0 ∧ ¬(bits f0 1 0 = 3 ∧ bits f0 25 10 ≠ 0) then dataFlits (bits f0 1 0) else 0
      (.readRsp (readRspHead f0) (r.take n), r.drop n) else (.raw (f :: r), [])
  | 7 => if cl = 2 then (.writeAck (readRspHead f0), r) else (.raw (f :: r), [])
  | 8 => if cl = 3 then
      match bits f0 56 53 with
      | 0 => (.close (BitVec.ofNat 8 (bits f0 52 45)) (bitAt f0 44) (bitAt f0 43), r)
      | 1 => (.seal (BitVec.ofNat 8 (bits f0 52 45)), r)
      | 2 => (.poll (BitVec.ofNat 8 (bits f0 52 45)) (BitVec.ofNat 4 (bits f0 40 37)), r)
      | 3 => (.start (r.headD 0), r.drop 1)
      | _ => (.raw (f :: r), [])
      else (.raw (f :: r), [])
  | 9 => if cl = 3 then (.count (BitVec.ofNat 8 (bits f0 56 49)) (BitVec.ofNat 4 (bits f0 48 45)) (bitAt f0 44)
      (BitVec.ofNat 21 (bits f0 43 23)) (BitVec.ofNat 21 (bits f0 22 2)) (BitVec.ofNat 32 (bits f1 63 32))
      (BitVec.ofNat 32 (bits f1 31 0)), r.drop 1) else (.raw (f :: r), [])
  | 10 => if cl = 4 then
      let n := bits f0 2 0
      (.mgmt (BitVec.ofNat 4 (bits f0 56 53)) (BitVec.ofNat 10 (bits f0 46 37)) (BitVec.ofNat 10 (bits f0 25 16))
        (BitVec.ofNat 8 (bits f0 15 8)) (r.take n), r.drop n) else (.raw (f :: r), [])
  | 11 => if cl = 3 ∧ bits f0 2 0 ≠ 0 then
      let n := bits f0 2 0
      (.bcast (BitVec.ofNat 16 (bits f0 56 41)) (BitVec.ofNat 10 (bits f0 40 31)) (BitVec.ofNat 24 (bits f0 30 7)) (r.take n), r.drop n)
      else (.raw (f :: r), [])
  | 12 => if cl = 1 then
      let n := if bits f1 63 60 = 1 then 4 else 0
      (.hodMsg (readReqHead f0 f1) (BitVec.ofNat 4 (bits f1 63 60)) (BitVec.ofNat 16 (bits f1 59 44)) ((r.drop 1).take n), r.drop (1 + n))
      else (.raw (f :: r), [])
  | _ => (.raw (f :: r), [])

/-- The packet a flit sequence spells; `raw` where R235 refuses it or flits remain. -/
def Packet.ofFlits (l : List (BitVec 64)) : Packet :=
  match l with
  | [] => .raw []
  | f :: r => let (p, rest) := Packet.parse f r; if rest = [] then p else .raw l

/-- The packets of a DATA frame, one after another (R321), up to `n` of them; a packet cut by its frame is left out and flagged. -/
def Packet.split : Nat → List (BitVec 64) → List Packet × Bool
  | 0, _ => ([], false)
  | _, [] => ([], false)
  | n + 1, f :: r =>
    let (p, rest) := Packet.parse f r
    match p with
    | .raw _ => ([], true)
    | _ =>
      if p.flits.length ≤ (f :: r).length then
        let (q, cut) := Packet.split n rest
        (p :: q, cut)
      else ([], true)

/-- Destination chip of a packet, where it has one. -/
def Packet.dchip? : Packet → Option Nat
  | .spikeUC _ dc .. => some dc.toNat
  | .spikeMC _ dc .. => some dc.toNat
  | .psum _ dc .. => some dc.toNat
  | .readReq h => some h.dchip.toNat
  | .writeReq h _ => some h.dchip.toNat
  | .readRsp h _ => some h.dchip.toNat
  | .writeAck h => some h.dchip.toNat
  | .mgmt _ dc .. => some dc.toNat
  | .bcast _ dc .. => some dc.toNat
  | .hodMsg h .. => some h.dchip.toNat
  | _ => none

/-- Step a spike or PSUM carries. -/
def Packet.step? : Packet → Option Nat
  | .spikeUC _ _ _ _ _ st => some st.toNat
  | .spikeMC _ _ _ _ _ st _ => some st.toNat
  | .psum _ _ _ st _ _ => some st.toNat
  | _ => none

/-- What a packet adds to INJ when it enters the mortar (R203). -/
def Packet.injWeight : Packet → Nat
  | .spikeUC .. => 1
  | .spikeMC cm _ _ _ _ _ tm => popcount 16 cm.toNat * popcount 64 tm.toNat
  | .psum .. => 1
  | _ => 0

/-- What a whole packet consumed adds to CON (R204). -/
def Packet.conWeight : Packet → Nat
  | .spikeUC .. => 1
  | .spikeMC cm _ _ _ _ _ tm => popcount 16 cm.toNat * popcount 64 tm.toNat
  | .psum _ _ _ _ cc _ => cc.toNat
  | _ => 0

/-- TYPE of a packet (R236). -/
def Packet.typeCode (p : Packet) : Nat := bits (p.flits.headD 0).toNat 63 60

/-- The flits of a packet as bytes, each flit least significant byte first. -/
def Packet.bytes (p : Packet) : List Nat := p.flits.flatMap fun f => bytesLE 8 f.toNat

/-- R235: a router discards the packet where it enters the mortar. -/
def Packet.bad : Packet → Bool
  | .raw _ => true
  | .bcast _ _ _ d => d.isEmpty
  | _ => false

end Sys2Proof

namespace Sys2Proof.Machine
open Sys2Proof

/-- Classes of R79 for a step difference: current, next, early, late. -/
inductive StepClass | current | next | early | late
deriving DecidableEq, Repr

/-- R79: classify a packet's step against an open step. -/
def stepClass (pstep : Nat) (s : BitVec 64) : StepClass :=
  let d := (pstep + 256 - s.toNat % 256) % 256
  if d = 0 then .current else if d = 1 then .next else if d < 128 then .early else .late

end Sys2Proof.Machine
end

