-- ==== Sys2Proof/Machine/Timers.lean ====
section
/-! DEFINITION. The time base and the timer channels (spec/16_power_clocks_timers.md R528–R534). -/

namespace Sys2Proof.Machine
open Sys2Proof

/-! ## The time base -/

/-- The time base reaches at least `t`: an event that happens at `t` has come. -/
def State.timeTo (s : State) (t : Nat) : State :=
  if s.tb.toNat < t then { s with tb := BitVec.ofNat 64 t } else s

/-- Counts that a tick of CK_AON32 adds while CK_REF is stopped (R521): 3,051, and one more in 97 of every 128 ticks. Which of them is a
DESIGN CHOICE: spread evenly (notes/assumptions/137.md). -/
def aonCounts (phase : Nat) : Nat := 3051 + ((phase + 1) * 97 / 128 - phase * 97 / 128)

/-- A tick of CK_AON32 while CK_REF is stopped. -/
def State.aonTick (s : State) : State :=
  { s with tb := s.tb + BitVec.ofNat 64 (aonCounts s.aonPhase), aonPhase := (s.aonPhase + 1) % 128 }.refCheck

/-- One count passes (R528); during a slew one count in 16 is withheld, and TB_SLEW moves towards zero (R529). While CK_REF is stopped it
is one tick of CK_AON32 (R521), without slew. -/
def State.tick (s : State) : State :=
  if !s.b CLK_STAT_REF_OK then s.aonTick
  else
  let slew := sgn 32 (s.f TB_SLEW)
  if slew = 0 then { s with tb := s.tb + 1 }
  else if s.slewPhase = 15 then { s.setF TB_SLEW (wrap 32 (slew + 1)) with slewPhase := 0 }
  else { s with tb := s.tb + 1, slewPhase := s.slewPhase + 1 }

/-- A write of TB_OFFSET (R529). -/
def State.tbOffset (s : State) (v : BitVec 32) : State :=
  if 0 ≤ v.toInt then { s with tb := BitVec.ofNat 64 (s.tb.toNat + v.toNat) }
  else s.setF TB_SLEW (wrap 32 (sgn 32 (s.f TB_SLEW) + v.toInt))

/-- TB_OFFSET (R529). -/
def execTbOffset (v : BitVec 32) (s : State) : Out := .next (s.tbOffset v)

/-- A read of TB_LO by an initiator latches its snapshot (R530). -/
def State.tbLoRead (s : State) (ini : Nat) : State :=
  { s with snaps := Map.set 0 s.snaps ini (BitVec.ofNat 32 (s.tb.toNat / 2 ^ 32)) }

/-- TB_LO_READ (R530). -/
def execTbLoRead (ini : BitVec 5) (s : State) : Out := .next (s.tbLoRead ini.toNat)

/-! ## Channels -/

/-- The step controller owns channel 0 (R199). -/
def State.stepOwns (s : State) (k : Nat) : Bool := k == 0 && s.b TMR_STEP_CTRL_RUN && !s.b TMR_STEP_STAT_RELAY

/-- Arm a channel at time base [31:0] (R531). The reserved mode does nothing. -/
def State.tmrArm (s : State) (k : Nat) : State :=
  if s.stepOwns k ∨ 16 ≤ k then s
  else
    let m := s.f (TMRCH_CTRL_MODE k)
    if m = 3 then s
    else
      let s := { s with tmr := Map.set {} s.tmr k { mode := m, src := s.f (TMRCH_CTRL_SRC k) } }
      let s := (s.setF (TMRCH_STAT_ARMED k) 1).setF (TMRCH_STAT_MISSED k) 0
      if m ≠ 2 ∧ !s.b (TMRCH_CTRL_ABS k) then s.setF (TMRCH_COMPARE k) (s.tb.toNat + s.f (TMRCH_PHASE k)) else s

/-- TIMER_ARM (R531). -/
def execTimerArm (k : BitVec 4) (s : State) : Out := .next (s.tmrArm k.toNat)

/-- TMR_ARM_MULTI (R532): every selected channel in the same count. -/
def State.tmrArmMulti (s : State) (v : Nat) : State := (setBits 16 v).foldl (fun s k => s.tmrArm k) s

def execTmrArmMulti (v : BitVec 16) (s : State) : Out := .next (s.tmrArmMulti v.toNat)

/-- TIMER_STOP (R531). -/
def State.tmrStop (s : State) (k : Nat) : State := if s.stepOwns k then s else s.setF (TMRCH_STAT_ARMED k) 0

def execTimerStop (k : BitVec 4) (s : State) : Out := .next (s.tmrStop k.toNat)

/-- Each match or capture: INT_STATUS, SEQ, and a wake source with WAKE = 1 (R531, R519). -/
def State.tmrEvent (s : State) (k : Nat) : State := ((s.raise .tmr 0 k).addWrap (TMRCH_SEQ k) 1).wakeIf 1 k

/-- The channel is armed in a compare mode. -/
def State.tmrCompares (s : State) (k : Nat) : Bool :=
  s.b (TMRCH_STAT_ARMED k) && decide ((Map.get ({} : TmrLatch) s.tmr k).mode < 2)

/-- Counts until the first count at which channel `k` matches: 0 where it has come. -/
def State.tmrAhead (s : State) (k : Nat) : Nat :=
  let d := (s.f (TMRCH_COMPARE k) + 2 ^ 32 - s.tb.toNat % 2 ^ 32) % 2 ^ 32
  if d < 2 ^ 31 then d else 0

/-- Channel `k` matches (R531, R532): a periodic channel's COMPARE advances until it lies ahead of the time base, each interval
skipped counted in MISSED; a one-shot channel disarms. -/
def State.tmrMatch (s : State) (k : Nat) : State :=
  let s := s.timeTo (s.tb.toNat + s.tmrAhead k)
  let s :=
    if (Map.get ({} : TmrLatch) s.tmr k).mode = 0 then
      let iv := max 1 (s.f (TMRCH_INTERVAL k))
      let past := (s.tb.toNat % 2 ^ 32 + 2 ^ 32 - s.f (TMRCH_COMPARE k)) % 2 ^ 32
      let n := past / iv
      (s.setF (TMRCH_COMPARE k) (s.f (TMRCH_COMPARE k) + (n + 1) * iv)).add (TMRCH_STAT_MISSED k) n
    else s.setF (TMRCH_STAT_ARMED k) 0
  s.tmrEvent k

/-- A capture source fires (R533). `rd`: channels whose CAP is read in the same count. -/
def State.capture (s : State) (src rd : Nat) : State :=
  if src = 0 then s
  else
    (List.range 16).foldl (fun s k =>
      let l := Map.get ({} : TmrLatch) s.tmr k
      if s.b (TMRCH_STAT_ARMED k) && l.mode == 2 && l.src == src then
        let s := s.setF (TMRCH_CAP k) (s.tb.toNat + 2 ^ 64 - 2)
        let s := if s.b (TMRCH_STAT_NEW k) && !bitAt rd k then s.setF (TMRCH_STAT_OVR k) 1 else s
        (s.setF (TMRCH_STAT_NEW k) 1).tmrEvent k
      else s) s

/-- The capture sources that exist (R533). -/
def captureSrc (src : Nat) : Bool :=
  (decide (0x10 ≤ src) && decide (src ≤ 0x1F)) || (decide (0x20 ≤ src) && decide (src ≤ 0x23)) ||
    (decide (0x28 ≤ src) && decide (src ≤ 0x2B)) || [0x30, 0x31, 0x38, 0x39, 0x40, 0x41].contains src

/-- TIMER_CAPTURE (R533). -/
def execTimerCapture (src : BitVec 8) (rd : BitVec 16) (s : State) : Out :=
  .next (if captureSrc src.toNat then s.capture src.toNat rd.toNat else s)

/-- A read of CAP clears NEW (R533). -/
def State.tmrCapRead (s : State) (k : Nat) : State := s.setF (TMRCH_STAT_NEW k) 0

/-- TMR_CAP_READ (R533). -/
def execTmrCapRead (k : BitVec 4) (s : State) : Out := .next (s.tmrCapRead k.toNat)

end Sys2Proof.Machine
end

