-- ==== Sys2Proof/Machine/Gpio.lean ====
section
/-! DEFINITION. The GPIO pins: what they drive, their levels and edges (spec/12_sensor_ports.md R417, R424;
spec/15_start_recovery_footing.md R504). -/

namespace Sys2Proof.Machine
open Sys2Proof

/-- The FOOT pins that the footing controller drives. -/
def State.footPins (s : State) : Nat := s.f GPIO_FOOT_FOOT_EN

/-- What a pin drives (R417, R504): `none` is high-impedance. -/
def State.pinDrive (s : State) (n : Nat) : Option Bool :=
  if decide (12 ≤ n) && bitAt s.footPins (n - 12) && s.b FOOT_STAT_ACTIVE then some (bitAt (s.f FOOT_STAT_PINS) (n - 12))
  else if !s.domOn dT1S || !s.en .gpio 0 || !bitAt (s.f GPIO_DIR_DIR) n then none
  else if bitAt (s.f GPIO_OD_OD) n && bitAt (s.f GPIO_OUT_OUT) n then none
  else some (bitAt (s.f GPIO_OUT_OUT) n)

/-- The level of a pin: what the device drives, else what the outside does. -/
def State.pinLevel (s : State) (n : Nat) : Bool := (s.pinDrive n).getD (s.pins.getLsbD n)

/-- GPIO_IN takes a level; an edge that GPIO_EDGE selects sets its bit and is a capture source (R417, R533). The two cycles of the
synchroniser are not counted. -/
def State.gpioTake (s : State) (n : Nat) (level : Bool) : State :=
  let old := bitAt (s.f GPIO_IN_IN) n
  if old = level then s
  else
    let s := s.setF GPIO_IN_IN (putBits (s.f GPIO_IN_IN) n n (bn level))
    let sel := bits (s.rd GPIO_EDGE.addr).toNat (2 * n + 1) (2 * n)
    if bitAt sel (if level then 0 else 1) then (s.raise .gpio 0 n).capture (0x10 + n) 0 else s

/-- GPIO_IN follows the pins. -/
def State.gpioSync (s : State) : State :=
  if s.domOn dT1S then (List.range 16).foldl (fun s n => s.gpioTake n (s.pinLevel n)) s else s

/-- The outside drives a pin to a level (R417). -/
def State.gpioLevel (s : State) (n : Nat) (level : Bool) : State :=
  { s with pins := if level then s.pins ||| BitVec.ofNat 16 (2 ^ n) else s.pins &&& ~~~ (BitVec.ofNat 16 (2 ^ n)) }.gpioSync

/-- GPIO_EDGE (R417). -/
def execGpioEdge (n : BitVec 4) (level : Bool) (s : State) : Out := .next (s.gpioLevel n.toNat level)

/-- Bits of GPIO_OUT are set, or cleared (R417, R424). -/
def State.gpioSet (s : State) (v : Nat) : State := (s.setF GPIO_OUT_OUT (s.f GPIO_OUT_OUT ||| v)).gpioSync
def State.gpioClr (s : State) (v : Nat) : State := (s.setF GPIO_OUT_OUT (s.f GPIO_OUT_OUT &&& (0xFFFF - v % 65536))).gpioSync

/-- GPIO_SET (R417). -/
def execGpioSet (v : BitVec 16) (s : State) : Out := .next (if s.domOn dT1S then s.gpioSet v.toNat else s)

/-- GPIO_CLR (R417). -/
def execGpioClr (v : BitVec 16) (s : State) : Out := .next (if s.domOn dT1S then s.gpioClr v.toNat else s)

end Sys2Proof.Machine
end

