-- ==== Sys2Proof/Machine/Hods.lean ====
section
/-! DEFINITION. Hod controllers: channels, operations, deadlock detection, wait sets and closing (spec/14_firmware_and_hods.md R460–R469). -/

namespace Sys2Proof.Machine
open Sys2Proof

/-! ## Status codes (R191, R464) -/

def hsOk : Nat := 0
def hsFull : Nat := 1
def hsClosed : Nat := 2
def hsEmpty : Nat := 3
def hsNoService : Nat := 4
def hsBadHandle : Nat := 5
def hsUnreachable : Nat := 6
def hsTimeout : Nat := 7
def hsDeadlock : Nat := 8
def hsIllegal : Nat := 9
def hsNoSpace : Nat := 10
def hsDuplicate : Nat := 11

/-! ## Slots -/

def Cluster.slot (x : Cluster) (k : Nat) : HodSlot := Map.get {} x.slots k
def Cluster.setSlot (x : Cluster) (k : Nat) (h : HodSlot) : Cluster := { x with slots := Map.set {} x.slots k h }

/-- Slots that are open, in slot order. -/
def Cluster.openSlots (x : Cluster) : List (Nat × HodSlot) := x.slots.filter fun p => p.2.opened

/-- Free entries of the pool (R460). -/
def Cluster.freeEntries (x : Cluster) : Nat := 2048 - (x.openSlots.map fun p => p.2.depth).sum

/-- Handle of a slot (R462). -/
def HodSlot.handle (h : HodSlot) (k : Nat) : Nat := h.gen * 256 + k

/-- The slot a handle names, or the status it answers (R462). -/
def Cluster.lookup (x : Cluster) (handle : Nat) : Nat × Option Nat :=
  let gen := handle / 256 % 256
  let k := handle % 128
  let h := x.slot k
  if h.opened && h.gen == gen && handle / 128 % 2 == 0 then (hsOk, some k)
  else if gen = 0 ∨ handle / 128 % 2 = 1 then (hsBadHandle, none)
  else (hsClosed, none)

/-- The free slot that was closed longest ago; among slots never closed, the lowest (R462). -/
def Cluster.freeSlot (x : Cluster) : Option Nat :=
  ((List.range 128).filter fun k => !(x.slot k).opened).foldl (fun best k =>
    match best with
    | none => some k
    | some b => if (x.slot k).closedAt < (x.slot b).closedAt then some k else some b) none

/-- The endpoint that owns a channel and may block: none for a thread (R461). -/
def HodSlot.endpoint (h : HodSlot) : Option HodFrom :=
  match h.kind with
  | 0 => some .core
  | 2 => some (.remote h.chip h.tile h.gw)
  | _ => none

/-- The requester is the channel's owner (R461, R463). -/
def State.hodOwns (s : State) (c : Nat) (h : HodSlot) (who : HodFrom) : Bool :=
  match h.kind with
  | 0 => who == .core
  | 1 => who == .remote s.chipId (tileOf c (h.tile % 64)) false
  | _ => who == .remote h.chip h.tile h.gw

/-! ## Wait sets (R465) -/

/-- The eight positions of a wait set: valid slots. -/
def State.wsetSlots (s : State) (c k : Nat) : List (Option Nat) :=
  (List.range 8).map fun i =>
    let w := if i < 4 then s.f (CLU_HOD_WSET_A c k) else s.f (CLU_HOD_WSET_B c k)
    let b := w / 2 ^ (8 * (i % 4)) % 256
    let h := (s.cluster c).slot (b % 128)
    if b / 128 = 1 ∧ h.opened then some (b % 128) else none

/-- Positions whose channel holds an entry. -/
def State.wsetReady (s : State) (c k : Nat) : List Nat :=
  (List.range 8).filter fun i =>
    match (s.wsetSlots c k)[i]?.join with
    | some j => !((s.cluster c).slot j).entries.isEmpty
    | none => false

/-- Set `k` is enabled and READY. -/
def State.wsetOn (s : State) (c k : Nat) : Bool := s.b (CLU_HOD_WSET_CTRL_EN c k) && !(s.wsetReady c k).isEmpty

/-- Raise HOD_READY, and HOD_DB where the set asks for it, for the sets that have become READY from `s` to `s'` (R465). -/
def State.readyEdge (s s' : State) (c : Nat) : State :=
  (List.range 4).foldl (fun r k =>
    if !s.wsetOn c k && s'.wsetOn c k then
      let r := r.raise .clu c 14
      if s'.b (CLU_HOD_WSET_CTRL_DB c k) then (r.setF FWC_HOD_DB_DB (r.f FWC_HOD_DB_DB ||| 2 ^ c)).raise .fwc 0 3 else r
    else r) s'

/-- A read of CLU_HOD_WSETk_SEL (R465): status and handle, and the rotation advanced. -/
def State.wsetSel (s : State) (c k : Nat) : State × Nat :=
  let ready := s.wsetReady c k
  let last := Map.get 7 (s.cluster c).rot k
  let pos :=
    if s.b (CLU_HOD_WSET_CTRL_ROT c k) then
      ((List.range 8).map fun i => (last + 1 + i) % 8).find? fun i => ready.contains i
    else ready.head?
  match pos with
  | none => (s, hsEmpty * 65536)
  | some i =>
    match (s.wsetSlots c k)[i]?.join with
    | none => (s, hsEmpty * 65536)
    | some j =>
      (s.modCluster c fun x => { x with rot := Map.set 7 x.rot k i }, hsOk * 65536 + ((s.cluster c).slot j).handle j)

/-! ## Closing (R468) -/

/-- Close slot `k`: its entries are discarded and counted, the records that name it removed. -/
def State.hodCloseSlot (s : State) (c k : Nat) : State :=
  let h := (s.cluster c).slot k
  if !h.opened then s
  else
    (s.add (CLU_HOD_CLOSED_DISC c) h.entries.length).modCluster c fun x =>
      { x.setSlot k { h with opened := false, entries := [], depth := 0, closedAt := x.closes + 1 } with
        closes := x.closes + 1, blocked := x.blocked.filter fun b => b.slot != k }

/-- Close every channel that satisfies `q`; answers how many. -/
def State.hodCloseWhere (s : State) (c : Nat) (q : HodSlot → Bool) : State × Nat :=
  let ks := ((s.cluster c).openSlots.filter fun p => q p.2).map Prod.fst
  (ks.foldl (fun s k => s.hodCloseSlot c k) s, ks.length)

/-- Close the channels of a thread of a tile (R468); all of the tile's where `n` is none. -/
def State.hodCloseThread (s : State) (t : Nat) (n : Option Nat) : State :=
  (s.hodCloseWhere (clusterOf t) fun h =>
    h.kind == 1 && h.tile % 64 == localIdx t && (match n with | some n => h.thread == n | none => true)).1

/-! ## Operations (R463, R467) -/

/-- What an operation answers: status, handle (OPEN) and entry (RECV). -/
structure HodAns where
  st : Nat
  handle : Nat := 0
  entry : Option (BitVec 256) := none
deriving DecidableEq, Repr

/-- OPEN. -/
def State.hodOpen (s : State) (c svc : Nat) : HodAns :=
  match (s.cluster c).openSlots.find? fun p => p.2.svc == svc with
  | some (k, h) => { st := hsOk, handle := h.handle k }
  | none => { st := hsNoService }

/-- Remove the record of an endpoint. -/
def State.unblock (s : State) (c : Nat) (who : HodFrom) : State :=
  s.modCluster c fun x => { x with blocked := x.blocked.filter fun b => b.who != who }

/-- Count and raise a DEADLOCK answer (R467). -/
def State.deadlocked (s : State) (c : Nat) : State := (s.inc (CLU_HOD_DEADLOCKS c)).raise .clu c 15

/-- A SEND finds channel `k` full and the sender may block: keep its record, or break a cycle of two (R467). -/
def State.hodFull (s : State) (c k : Nat) (who : HodFrom) : State × HodAns :=
  let x := s.cluster c
  let h := x.slot k
  let mine := x.blocked.find? fun b => b.who == who && b.slot == k
  let full : State × HodAns := (s.inc (CLU_HOD_FULLS c), { st := hsFull })
  let keep (s : State) : State :=
    match mine with
    | some _ => s
    | none => (s.unblock c who).modCluster c fun x => { x with blocked := x.blocked ++ [{ who := who, slot := k, start := s.tb.toNat }] }
  match mine with
  | some { fail := true, .. } => (s.unblock c who, { st := hsDeadlock })
  | _ =>
    match h.endpoint.bind fun f => x.blocked.find? fun b => b.who == f && !b.fail && (x.slot b.slot).endpoint == some who with
    | none => (keep full.1, full.2)
    | some b =>
      let start := match mine with | some m => m.start | none => s.tb.toNat
      if b.start ≤ start then ((s.unblock c who).deadlocked c, { st := hsDeadlock })
      else
        (((keep full.1).modCluster c fun x =>
          { x with blocked := x.blocked.map fun y => if y.who = b.who then { y with fail := true } else y }).deadlocked c, full.2)

/-- SEND by `who`; `blocking` is TAG[7] (R463, R466, R467). -/
def State.hodSend (s : State) (c handle : Nat) (who : HodFrom) (blocking : Bool) (e : BitVec 256) : State × HodAns :=
  match (s.cluster c).lookup handle with
  | (_, some k) =>
    let h := (s.cluster c).slot k
    if h.entries.length < h.depth then
      let s' := (s.inc (CLU_HOD_SENDS c)).modCluster c fun x => x.setSlot k { h with entries := h.entries ++ [e] }
      (s.readyEdge (if blocking then s'.unblock c who else s') c, { st := hsOk })
    else if blocking then s.hodFull c k who
    else (s.inc (CLU_HOD_FULLS c), { st := hsFull })
  | (st, none) => (if blocking then s.unblock c who else s, { st := st })

/-- RECV by `who` (R463). -/
def State.hodRecv (s : State) (c handle : Nat) (who : HodFrom) : State × HodAns :=
  match (s.cluster c).lookup handle with
  | (_, some k) =>
    let h := (s.cluster c).slot k
    if !s.hodOwns c h who then (s, { st := hsBadHandle })
    else
      match h.entries with
      | [] => (s, { st := hsEmpty })
      | e :: es => (s.modCluster c fun x => x.setSlot k { h with entries := es }, { st := hsOk, entry := some e })
  | (st, none) => (s, { st := st })

/-- The entry of four data flits, the first in the low bits. -/
def hodEntry (d : List (BitVec 64)) : BitVec 256 :=
  BitVec.ofNat 256 ((d.take 4).foldr (fun f a => f.toNat + 2 ^ 64 * a) 0)

/-- The four data flits of an entry. -/
def hodFlits (e : BitVec 256) : List (BitVec 64) := (List.range 4).map fun i => BitVec.ofNat 64 (e.toNat / 2 ^ (64 * i))

/-- A hod operation by its HOP code (R242); a reserved code answers ILLEGAL. -/
def State.hodServe (s : State) (c op arg : Nat) (who : HodFrom) (blocking : Bool) (d : List (BitVec 64)) : State × HodAns :=
  match op with
  | 0 => (s, s.hodOpen c arg)
  | 1 => s.hodSend c arg who blocking (hodEntry d)
  | 2 => s.hodRecv c arg who
  | _ => (s, { st := hsIllegal })

/-- Data flits of the reply to an operation (R242). -/
def HodAns.data (a : HodAns) (op : Nat) : List (BitVec 64) :=
  match op with
  | 0 => [BitVec.ofNat 64 a.handle]
  | 2 => match a.entry with | some e => hodFlits e | none => []
  | _ => []

/-! ## Registration (R461, R475) -/

/-- Put the answer of a registration command into CLU_HOD_REG_RSP. -/
def State.regRsp (s : State) (c st handle : Nat) : State := s.wr (CLU_HOD_REG_RSP c).addr (BitVec.ofNat 32 (st * 65536 + handle))

/-- OP REGISTER for the owner in CLU_HOD_REG_OWNER. -/
def State.hodRegister (s : State) (c depth svc : Nat) : State :=
  let x := s.cluster c
  if s.f (CLU_HOD_REG_OWNER_KIND c) = 3 ∨ depth < 4 ∨ 32 < depth then s.regRsp c hsIllegal 0
  else if x.openSlots.any fun p => p.2.svc == svc then s.regRsp c hsDuplicate 0
  else if x.freeEntries < depth then s.regRsp c hsNoSpace 0
  else
    match x.freeSlot with
    | none => s.regRsp c hsNoSpace 0
    | some k =>
      let o := x.slot k
      let h : HodSlot :=
        { o with opened := true, used := true, gen := if o.used then o.gen % 255 + 1 else o.gen, svc := svc,
                 kind := s.f (CLU_HOD_REG_OWNER_KIND c), chip := s.f (CLU_HOD_REG_OWNER_CHIP c),
                 tile := s.f (CLU_HOD_REG_OWNER_TILE c), gw := s.b (CLU_HOD_REG_OWNER_GW c),
                 thread := s.f (CLU_HOD_REG_OWNER_THREAD c), depth := depth, entries := [] }
      (s.setCluster c (x.setSlot k h)).regRsp c hsOk (h.handle k)

/-- OP CLOSE of a handle. -/
def State.hodClose (s : State) (c handle : Nat) : State :=
  match (s.cluster c).lookup handle with
  | (_, some k) => (s.hodCloseSlot c k).regRsp c hsOk 0
  | (st, none) => s.regRsp c st 0

/-- OP CLOSE_OWNER for the owner in CLU_HOD_REG_OWNER. -/
def State.hodCloseOwner (s : State) (c : Nat) : State :=
  let kind := s.f (CLU_HOD_REG_OWNER_KIND c)
  let chip := s.f (CLU_HOD_REG_OWNER_CHIP c)
  let tile := s.f (CLU_HOD_REG_OWNER_TILE c)
  let gw := s.b (CLU_HOD_REG_OWNER_GW c)
  let th := s.f (CLU_HOD_REG_OWNER_THREAD c)
  if kind = 3 then s.regRsp c hsIllegal 0
  else
    let r := s.hodCloseWhere c fun h => h.kind == kind &&
      (match kind with
        | 0 => true
        | 1 => h.tile % 64 == tile % 64 && h.thread == th
        | _ => h.chip == chip && h.tile == tile && h.gw == gw)
    r.1.regRsp c hsOk r.2

/-- A write of CLU_HOD_REG_CMD (R461, R475). -/
def State.hodCmd (s : State) (c v : Nat) : State :=
  match bits v 31 30 with
  | 1 => s.hodRegister c (bits v 29 24) (bits v 15 0)
  | 2 => s.hodClose c (bits v 15 0)
  | 3 => s.hodCloseOwner c
  | _ => s

/-- A mortar write corrupts the hod area (R460): what the queued entries hold becomes free. -/
def State.hodCorrupt (s : State) (c : Nat) : State :=
  (s.cluster c).openSlots.foldl (fun s p =>
    let r := p.2.entries.foldl (fun (r : State × List (BitVec 256)) _ =>
      let a := r.1.drawFree
      let b := a.2.drawFree
      let d := b.2.drawFree
      let e := d.2.drawFree
      (e.2, r.2 ++ [hodEntry [a.1, b.1, d.1, e.1]])) (s, [])
    r.1.modCluster c fun x => x.setSlot p.1 { x.slot p.1 with entries := r.2 }) s

/-! ## Registers shown by the controller (R475) -/

/-- CLU_HOD_DBG_STAT. -/
def State.hodDbgStat (s : State) (c : Nat) : Nat :=
  let x := s.cluster c
  let k := s.f (CLU_HOD_DBG_IDX_SLOT c)
  let h := x.slot k
  if h.opened then
    2 ^ 31 + h.entries.length * 2 ^ 25 + h.depth * 2 ^ 19 + h.kind * 2 ^ 17 +
      (if x.blocked.any fun b => b.slot == k then 65536 else 0) + h.svc
  else 0

/-- CLU_HOD_DBG_HEAD. -/
def State.hodDbgHead (s : State) (c : Nat) : Nat :=
  match ((s.cluster c).slot (s.f (CLU_HOD_DBG_IDX_SLOT c))).entries with
  | e :: _ => e.toNat / 2 ^ (32 * s.f (CLU_HOD_DBG_IDX_WORD c)) % 2 ^ 32
  | [] => 0

/-- CLU_HOD_FREE. -/
def State.hodFree (s : State) (c : Nat) : Nat :=
  (128 - (s.cluster c).openSlots.length) * 2 ^ 24 + (s.cluster c).freeEntries

/-! ## Commands -/

/-- REGISTER (R461). -/
def execRegister (c : BitVec 4) (depth : BitVec 6) (svc : BitVec 16) (s : State) : Out :=
  .next (if s.domOn (dCLU c.toNat) then s.hodRegister c.toNat depth.toNat svc.toNat else s)

/-- HOD_CLOSE (R468). -/
def execHodClose (c : BitVec 4) (handle : BitVec 16) (s : State) : Out :=
  .next (if s.domOn (dCLU c.toNat) then s.hodClose c.toNat handle.toNat else s)

/-- CLOSE_OWNER (R468). -/
def execCloseOwner (c : BitVec 4) (s : State) : Out :=
  .next (if s.domOn (dCLU c.toNat) then s.hodCloseOwner c.toNat else s)

/-- CLU_HOD_WSET_SEL_READ (R465): the answer stands in CLU_HOD_WSETk_SEL. -/
def execCluHodWsetSelRead (c : BitVec 4) (k : BitVec 2) (s : State) : Out :=
  .next (if s.domOn (dCLU c.toNat) then
    let r := s.wsetSel c.toNat k.toNat
    r.1.wr (CLU_HOD_WSET_SEL c.toNat k.toNat).addr (BitVec.ofNat 32 r.2)
  else s)

/-- HOD_BLOCKED_RECORD_EXPIRE (R467): the `k`-th record has had no attempt for 4 µs. -/
def execHodBlockedRecordExpire (c : BitVec 4) (k : BitVec 7) (s : State) : Out :=
  .next (s.modCluster c.toNat fun x => { x with blocked := x.blocked.eraseIdx k.toNat })

end Sys2Proof.Machine
end

