-- ==== Sys2Proof/Machine/Crc.lean ====
section
/-! DEFINITION. The check-value units CRC0 to CRC3 (spec/10_external_memory.md R365–R370). -/

namespace Sys2Proof.Machine
open Sys2Proof

/-- The low `w` bits of `n` in reverse order. -/
def reflect (w n : Nat) : Nat := (List.range w).foldl (fun a i => 2 * a + (n / 2 ^ i) % 2) 0

/-- The check model (R368). -/
def crcModel (bytes : List Nat) (w poly init : Nat) (refin refout : Bool) (xorout : Nat) : Nat :=
  let r := crcMsb w (poly % 2 ^ w) (init % 2 ^ w) (if refin then bytes.map (reflect 8) else bytes)
  (if refout then reflect w r else r) ^^^ (xorout % 2 ^ w)

/-- WIDTH of a unit, other values acting as the nearer bound (R373). -/
def State.crcWidth (s : State) (k : Nat) : Nat := max 8 (min 32 (s.f (CRC_FMT_WIDTH k)))

/-- The check of unit `k` over `bytes` with fold value `v` (R368, R369). -/
def State.crcOver (s : State) (k v : Nat) (bytes : List Nat) : Nat :=
  let w := s.crcWidth k
  crcModel bytes w (s.f (CRC_POLY k)) ((s.f (CRC_INIT k) % 2 ^ w) ^^^ (v % 2 ^ w)) (s.b (CRC_FMT_REFIN k))
    (s.b (CRC_FMT_REFOUT k)) (s.f (CRC_XOROUT k))

/-- The fold value of a message whose source numbers it `own` (R369). -/
def State.crcFold (s : State) (k own : Nat) : Nat :=
  match s.f (CRC_FMT_FOLD k) with
  | 1 => s.f (CRC_SEQ k)
  | 2 => own
  | _ => 0

/-- Bytes of a check (R366). -/
def State.crcBytes (s : State) (k c : Nat) : List Nat :=
  let n := ceilDiv (s.crcWidth k) 8
  let l := (List.range n).map fun i => (c / 2 ^ (8 * i)) % 256
  if s.b (CRC_FMT_MSBFIRST k) then l.reverse else l

/-- A source code of the table of R365. -/
def crcSrcKnown (src : Nat) : Bool :=
  src ≤ 2 || (0x10 ≤ src && src ≤ 0x13) || (0x20 ≤ src && src ≤ 0x23) || (0x41 ≤ src && src ≤ 0x51)

/-- The mode in force: a mode that the source does not permit acts as Observe (R366). -/
def State.crcMode (s : State) (k : Nat) : Nat :=
  let src := s.f (CRC_SRC_SRC k)
  match s.f (CRC_SRC_MODE k) with
  | 0 => 0
  | 2 => if src = 2 then 2 else 1
  | 3 => if src = 1 ∨ (0x10 ≤ src ∧ src ≤ 0x13) then 3 else 1
  | _ => 1

/-- The unit is enabled, holds `src`, and its source is one of the table. -/
def State.crcTakes (s : State) (k src : Nat) : Bool :=
  s.en .crc k && !s.b (PAGE_FAULT .crc k) && s.f (CRC_SRC_SRC k) == src && src != 0

/-- What a unit does with a message: the bytes that pass on, or none where it is discarded. -/
def State.crcRun (s : State) (k own : Nat) (bytes : List Nat) : State × Option (List Nat) :=
  let mode := s.crcMode k
  if mode = 0 then (s, some bytes)
  else
    let n := ceilDiv (s.crcWidth k) 8
    let body := if mode = 3 then bytes.take (bytes.length - n) else bytes
    let got := bytes.drop (bytes.length - n)
    let c := s.crcOver k (s.crcFold k own) body
    let seq := s.f (CRC_SEQ k)
    let gap : Option Nat :=
      if mode = 3 then
        if s.crcBytes k c = got then some 0
        else if s.f (CRC_FMT_FOLD k) = 1 then
          ([1, 2, 3, 4, 5, 6, 7].find? fun g => s.crcBytes k (s.crcOver k ((seq + g) % 2 ^ 32) body) == got)
        else none
      else some 0
    let last := match gap with
      | some 0 => c
      | some g => s.crcOver k ((seq + g) % 2 ^ 32) body
      | none => c
    let s := ((s.setF (CRC_LAST k) last).inc (CRC_MSGS k)).setF (CRC_SEQ k) (seq + gap.getD 0 + 1)
    match mode, gap with
    | 3, some g => (s.add (CRC_GAPS k) g, some body)
    | 3, none =>
      let s := (s.inc (CRC_FAILS k)).raise .crc k 1
      if s.b (CRC_SRC_DISCARD k) then (s.inc (CRC_DISCARDS k), none) else (s, some body)
    | 2, _ => (s, some (bytes ++ s.crcBytes k c))
    | _, _ => (s, some bytes)

/-- A message of source `src` passes the four units: observers see it as it arrives, the unit in Append or Check mode acts on it. -/
def State.crcSource (s : State) (src own : Nat) (bytes : List Nat) : State × Option (List Nat) :=
  (List.range 4).foldl (fun r k =>
    if r.1.crcTakes k src then
      if r.1.crcMode k = 1 then ((r.1.crcRun k own bytes).1, r.2)
      else r.1.crcRun k own bytes
    else r) (s, some bytes)

/-- CRC_MESSAGE (R366): a message of unit `k`'s source, which its source numbers `own`, passes the unit. -/
def execCrcMessage (k : BitVec 2) (own : BitVec 32) (bytes : List (BitVec 8)) (s : State) : Out :=
  .next (
    let k := k.toNat
    if s.en .crc k && !s.b (PAGE_FAULT .crc k) && s.f (CRC_SRC_SRC k) != 0 then
      (s.crcRun k own.toNat (bytes.map BitVec.toNat)).1
    else s)

/-- EN = 1 written to a unit (R365, R370). -/
def State.crcEnable (s : State) (k : Nat) : State :=
  if s.en .crc k then s
  else
    let src := s.f (CRC_SRC_SRC k)
    let taken := (List.range 4).any fun j =>
      j != k && s.en .crc j && s.f (CRC_SRC_SRC j) == src && src != 0 && decide (2 ≤ s.crcMode j)
    if taken then s.raise .crc k 0
    else (s.setF (PAGE_EN .crc k) 1).setF (PAGE_FAULT .crc k) (if crcSrcKnown src then 0 else 1)

/-- CRC_ENABLE (R370). -/
def execCrcEnable (k : BitVec 2) (s : State) : Out := .next (s.crcEnable k.toNat)

end Sys2Proof.Machine
end

