-- ==== Sys2Proof/Machine/ExtMem.lean ====
section
/-! DEFINITION. External memory (spec/10_external_memory.md R348–R364): lines with their checks, the interleave, reads and
read-modify-writes of lines, the fill engine, training outcomes. -/

namespace Sys2Proof.Machine
open Sys2Proof

/-- STATUS code of an outcome (R241). -/
def Status.code : Status → BitVec 4
  | .ok => 0
  | .domainOff => 1
  | .unmapped => 2
  | .readOnly => 3
  | .unreachable => 4
  | .denied => 5
  | .dataFail => 6

/-- The outcome a STATUS code stands for; reserved codes read as UNMAPPED. -/
def Status.ofCode (c : Nat) : Status :=
  match c with
  | 0 => .ok
  | 1 => .domainOff
  | 3 => .readOnly
  | 4 => .unreachable
  | 5 => .denied
  | 6 => .dataFail
  | _ => .unmapped

/-! ## Accesses (R240) -/

/-- Bytes of an access (R240). -/
def sizeBytes (size : BitVec 2) : Nat := 4 * 2 ^ size.toNat

/-- Address of a request, aligned to its size (R240). -/
def reqAt (h : ReqHead) : Nat := h.addr.toNat / sizeBytes h.size * sizeBytes h.size

/-- Bytes that data flits carry, lowest address first; an access of 4 bytes uses the low half of its flit (R240). -/
def flitBytes (n : Nat) (d : List (BitVec 64)) : List Nat :=
  (List.range n).map fun i => (d.getD (i / 8) 0).toNat / 2 ^ (8 * (i % 8)) % 256

/-- Data flits of `n` bytes read. -/
def byteFlits (n : Nat) (bs : List Nat) : List (BitVec 64) :=
  (List.range ((n + 7) / 8)).map fun i => BitVec.ofNat 64 (ofLE (slice bs (8 * i) (min 8 n)))

/-! ## Lines (R353, R356) -/

/-- Bytes of a line, byte 0 first. -/
def lineBytes (d : BitVec 512) : List Nat := (List.range 64).map fun i => (d.toNat / 2 ^ (8 * i)) % 256

/-- A line from its bytes. -/
def lineOfBytes (l : List Nat) : BitVec 512 := BitVec.ofNat 512 (l.foldr (fun b a => b % 256 + 256 * a) 0)

/-- Initial value of the line check: F folds in the channel and the channel line (R356). -/
def lineInit (n l : Nat) : Nat :=
  let f := (l + n * 2 ^ 23) % 2 ^ 29
  0xFFFF ^^^ bits f 15 0 ^^^ bits f 28 16

/-- The check of line `l` of channel `n` over `d` (R356). -/
def State.lineCheck (s : State) (n l : Nat) (d : BitVec 512) : BitVec 16 :=
  BitVec.ofNat 16 (crcMsb 16 (s.f (MEM_CRC_POLY_POLY n)) (lineInit n l) (lineBytes d))

/-- Devices that DEVS names (R372). -/
def State.memDevs (s : State) (n : Nat) : Nat := match s.f (MEM_CFG_DEVS n) with | 0 => 0 | 1 => 1 | _ => 2

/-- Device and device line of channel line `l` with `devs` devices (R353). -/
def devLine (devs l : Nat) : Nat × Nat := if 2 ≤ devs then (l / 4 % 2, l / 8 * 4 + l % 4) else (0, l)

/-- Byte address in its device where a channel line begins (R353). -/
def lineAddr (devs l : Nat) : Nat := 66 * (devLine devs l).2

/-- Where the devices hold channel line `l` of channel `n`: the key of `State.ext`. -/
def State.lineKey (s : State) (n l : Nat) : Nat :=
  let p := devLine (s.memDevs n) l
  n * 2 ^ 24 + p.1 * 2 ^ 23 + p.2

/-- The line as stored. -/
def State.line (s : State) (n l : Nat) : MemLine := Map.get {} s.ext (s.lineKey n l)

def State.setLine (s : State) (n l : Nat) (x : MemLine) : State := { s with ext := Map.set {} s.ext (s.lineKey n l) x }

/-- The stored check matches (R356, R360). -/
def State.lineGood (s : State) (n l : Nat) : Bool :=
  let x := s.line n l
  x.written && x.check == s.lineCheck n l x.data

/-- Write a line with a fresh check. -/
def State.storeLine (s : State) (n l : Nat) (d : BitVec 512) : State :=
  (s.setLine n l { written := true, data := d, check := s.lineCheck n l d }).inc (MEM_WR_LINES n)

/-- Usable lines of one device (R353). -/
def State.deviceLines (s : State) (n : Nat) : Nat :=
  (2 ^ (25 + s.f (MEM_CFG_DENSITY n)) - 4096) / 66 / 4 * 4

/-- Channel lines C (R353). -/
def State.chanLines (s : State) (n : Nat) : Nat := s.deviceLines n * min 2 (s.memDevs n)

/-- A request that failed its check twice (R357, R358). -/
def State.lineFailed (s : State) (n l : Nat) (write : Bool) : State :=
  let s := s.incRec (MEM_DATA_FAIL n) 0x1D
  let s := if s.b (MEM_ERR_LINE_VALID n) then s
    else ((s.setF (MEM_ERR_LINE_LINE n) l).setF (MEM_ERR_LINE_WRITE n) (if write then 1 else 0)).setF (MEM_ERR_LINE_VALID n) 1
  s.raise .mem n 1

/-- Read and check a line (R357). `e1` and `e2`: the first and the second read are disturbed on their way. -/
def State.lineRead (s : State) (n l : Nat) (e1 e2 write : Bool) : State × Option (BitVec 512) :=
  let s := s.inc (MEM_RD_LINES n)
  if s.lineGood n l && !e1 then (s, some (s.line n l).data)
  else if s.lineGood n l && !e2 then (s.incRec (MEM_CRC_RETRY n) 0x1C, some (s.line n l).data)
  else (s.lineFailed n l write, none)

/-- Merge bytes into a line from byte `o`. -/
def lineMerge (d : BitVec 512) (o : Nat) (bs : List Nat) : BitVec 512 :=
  lineOfBytes ((lineBytes d).take o ++ bs ++ (lineBytes d).drop (o + bs.length))

/-- Read-modify-write of a line (R358). -/
def State.lineWrite (s : State) (n l o : Nat) (bs : List Nat) (e1 e2 : Bool) : State × Status :=
  match s.lineRead n l e1 e2 true with
  | (s, some d) => (s.storeLine n l (lineMerge d o bs), .ok)
  | (s, none) => (s, .dataFail)

/-! ## The interleave (R354) -/

/-- Bases of the two wythes' external memory. -/
def extBase (east : Bool) : Nat := if east then 0x700000000 else 0x400000000

/-- The wythe whose external range holds `a`. -/
def extWythe (a : Nat) : Option Bool :=
  if 0x400000000 ≤ a ∧ a < 0x700000000 then some false
  else if 0x700000000 ≤ a ∧ a < 0xA00000000 then some true else none

/-- Channels of a wythe. -/
def wytheChans (east : Bool) : List Nat := (List.range 24).map fun i => if east then 24 + i else i

/-- The active list and C_w of a wythe as step 6 fixed them. -/
def State.memList (s : State) (east : Bool) : MemList := if east then s.memE else s.memW

def State.activeList (s : State) (east : Bool) : List Nat := (s.memList east).act

/-- Channel, channel line and byte of local address `a`; none is UNMAPPED (R354). -/
def State.extMap (s : State) (a : Nat) : Option (Nat × Nat × Nat) :=
  (extWythe a).bind fun east =>
    let act := s.activeList east
    let o := a - extBase east
    let cw := (s.memList east).cw
    if o < act.length * cw * 64 then
      let k := o / 256
      (act[k % act.length]?).map fun n => (n, k / act.length * 4 + o / 64 % 4, o % 64)
    else none

/-- Wythe domain of a channel. -/
def memDom (n : Nat) : Nat := if n < 24 then dMEMW else dMEME

/-- The channel answers requests (R371). -/
def State.memUp (s : State) (n : Nat) : Bool := s.domOn (memDom n) && s.actv .mem n

/-! ## Requests held by a channel (R357–R359) -/

/-- What request `q` of channel `n` comes to when it is performed now: a read of its line, or a read-modify-write. `e1`, `e2` say that
the first and the second read of the line failed on the wires. -/
def State.memAct (s : State) (n : Nat) (q : MemReq) (e1 e2 : Bool) : State × Status × List (BitVec 64) :=
  if !(s.domOn (memDom n) && s.en .mem n) then (s, .domainOff, [])
  else
    let m := sizeBytes q.head.size
    match q.data with
    | none =>
      match s.lineRead n q.line e1 e2 false with
      | (s', some w) => (s', .ok, byteFlits m (slice (lineBytes w) (reqAt q.head % 64) m))
      | (s', none) => (s', .dataFail, [])
    | some d =>
      let r := s.lineWrite n q.line (reqAt q.head % 64) (flitBytes m d) e1 e2
      (r.1, r.2, [])

/-- The requests that reached line `l` of channel `n` earlier are performed, their replies still to be sent (R359). -/
def State.memSettle (s : State) (n l : Nat) : State :=
  s.memq.foldl (fun s q =>
    if q.chan = n ∧ q.line = l ∧ q.res.isNone then
      let r := s.memAct n q false false
      { r.1 with memq := r.1.memq.map fun x => if x = q then { x with res := some r.2 } else x }
    else s) s

/-! ## Accesses taken as one step -/

/-- Read the bytes of one request from `a`, at most `len`, not past its 32 bytes (R358). -/
def State.extReadPart (s : State) (a len : Nat) : State × Status × List Nat :=
  match s.extMap a with
  | none => (s, .unmapped, [])
  | some (n, l, o) =>
    if !s.memUp n then (s, .domainOff, [])
    else
      match (s.memSettle n l).lineRead n l false false false with
      | (s, some d) => (s, .ok, ((lineBytes d).drop o).take len)
      | (s, none) => (s, .dataFail, [])

/-- Read `len` bytes from external address `a` in at most `k` requests of up to 32 bytes; the first outcome other than OK ends it. -/
def State.extRead : Nat → State → Nat → Nat → State × Status × List Nat
  | 0, s, _, _ => (s, .ok, [])
  | k + 1, s, a, len =>
    if len = 0 then (s, .ok, [])
    else
      let m := min len (32 - a % 32)
      match s.extReadPart a m with
      | (s, .ok, bs) =>
        match State.extRead k s (a + m) (len - m) with
        | (s, .ok, cs) => (s, .ok, bs ++ cs)
        | (s, st, _) => (s, st, [])
      | (s, st, _) => (s, st, [])

/-- Read `len` bytes from external address `a`. -/
def State.ldExt (s : State) (a len : Nat) : State × Status × List Nat := State.extRead (len / 32 + 2) s a len

/-- Write bytes from external address `a` in at most `k` requests of up to 32 bytes (R358). -/
def State.extWrite : Nat → State → Nat → List Nat → State × Status
  | 0, s, _, _ => (s, .ok)
  | k + 1, s, a, bs =>
    if bs = [] then (s, .ok)
    else
      let m := 32 - a % 32
      match s.extMap a with
      | none => (s, .unmapped)
      | some (n, l, o) =>
        if !s.memUp n then (s, .domainOff)
        else
          match (s.memSettle n l).lineWrite n l o (bs.take m) false false with
          | (s, .ok) => State.extWrite k s (a + m) (bs.drop m)
          | r => r

/-- Write bytes from external address `a`. -/
def State.stExt (s : State) (a : Nat) (bs : List Nat) : State × Status := State.extWrite (bs.length / 32 + 2) s a bs

/-! ## The fill engine (R360) -/

/-- Fill `cnt` channel lines from `l` with zeros and valid checks; lines past the channel's last are not there. -/
def State.fillLines : Nat → State → Nat → Nat → State
  | 0, s, _, _ => s
  | k + 1, s, n, l => State.fillLines k (if l < s.chanLines n then s.storeLine n l 0 else s) n (l + 1)

/-- First line and number of lines of the fill in progress, as GO found them. -/
def State.fillOf (s : State) (n : Nat) : Nat × Nat := Map.get (0, 0) s.fills n

/-- A reset stops a fill: the lines finished, a number the spec leaves open, hold zeros, and the line being written fails its check. -/
def State.fillStopped (s : State) (n : Nat) : State :=
  let (start, count) := s.fillOf n
  let (v, s) := s.drawFree
  let k := v.toNat % (count + 1)
  let s := State.fillLines k s n start
  let s := if k < count ∧ start + k < s.chanLines n then s.setLine n (start + k) {} else s
  { s with fills := Map.erase s.fills n }

/-- Every fill in progress among channels `lo` to `hi` stops. -/
def State.fillsStop (s : State) (lo hi : Nat) : State :=
  (s.fills.filter fun p => decide (lo ≤ p.1) && decide (p.1 ≤ hi)).foldl (fun s p => s.fillStopped p.1) s

/-- A write of MEM_FILL_CTRL (R360, R372). -/
def State.fillGo (s : State) (n v : Nat) : State :=
  if 48 ≤ n ∨ !s.domOn (memDom n) then s
  else
    let s := s.setF (MEM_FILL_CTRL_COUNT n) (bits v 22 0)
    if bitAt v 31 ∧ !s.b (MEM_FILL_CTRL_BUSY n) ∧ s.en .mem n then
      { s with fills := Map.insert n (s.f (MEM_FILL_START_LINE n), s.f (MEM_FILL_CTRL_COUNT n)) (Map.erase s.fills n) }.setF
        (MEM_FILL_CTRL_BUSY n) 1
    else s

/-- MEM_FILL_GO (R360). -/
def execMemFillGo (n : BitVec 6) (v : BitVec 32) (s : State) : Out := .next (s.fillGo n.toNat v.toNat)

/-- The fill of channel `n` ends (R360): every line of it holds zeros. -/
def State.fillDone (s : State) (n : Nat) : State :=
  if 48 ≤ n ∨ !s.b (MEM_FILL_CTRL_BUSY n) then s
  else
    let (start, count) := s.fillOf n
    let s := State.fillLines count s n start
    ({ s with fills := Map.erase s.fills n }.setF (MEM_FILL_CTRL_BUSY n) 0).raise .mem n 0

/-- MEM_FILL_DONE (R360). -/
def execMemFillDone (n : BitVec 6) (s : State) : Out := .next (s.fillDone n.toNat)

/-! ## Training (R362, R363) -/

/-- Reset group of a channel is preserved: PRESERVE = 1 in all six (R362). -/
def State.groupKept (s : State) (g : Nat) : Bool := (List.range 6).all fun i => s.b (MEM_CFG_PRESERVE (6 * g + i))

/-- The contents of a reset group are lost (R362 step 1). -/
def State.loseGroup (s : State) (g : Nat) : State :=
  { s with ext := s.ext.filter fun p => !(decide (6 * g ≤ p.1 / 2 ^ 24) && decide (p.1 / 2 ^ 24 < 6 * g + 6)) }

/-- RATE codes: 0x3 acts as 0x2 (R372). -/
def State.memRate (s : State) (n : Nat) : Nat := min 2 (s.f (MEM_CFG_RATE n))

/-- A channel trains in this run of step 6 (R362). -/
def State.memTrains (s : State) (n : Nat) : Bool := s.domOn (memDom n) && s.memDevs n != 0 && !s.b (MEM_CFG_RETIRE n)

/-- Step 6 begins: the channels that train show TRAINING (R362, R372). -/
def State.memTraining (s : State) : State :=
  ((List.range 48).filter fun n => s.memTrains n).foldl (fun s n => s.setF (MEM_STAT_STATE n) 1) s

/-- Outcome of a channel's training: `cause` 0 passes, with the delay codes found; 1 ID, 2 read centring, 3 write levelling,
4 deskew (R362, R363). Answers the boot record's change through `RATE` and `RETIRE`, which step 6 keeps in it. -/
def State.trainChan (s : State) (n cause : Nat) (train deskew : BitVec 32) : State :=
  let r := s.memRate n
  if !s.memTrains n then
    if !s.domOn (memDom n) then s
    else (s.setF (MEM_STAT_STATE n) (if s.memDevs n = 0 then 0 else 4)).setF (PAGE_EN .mem n) 0
  else if cause = 0 then
    let s := ((s.setF (MEM_STAT_STATE n) 2).setF (MEM_STAT_RATE_NOW n) r).setF (MEM_STAT_CAUSE n) 0
    let s := (s.wr (MEM_TRAIN n).addr (train &&& 0xFFFF0000)).wr (MEM_DESKEW n).addr deskew
    s.setF (PAGE_EN .mem n) 1
  else
    let s := ((s.setF (MEM_STAT_CAUSE n) (min 4 cause)).raise .mem n 2).setF (PAGE_EN .mem n) 0
    if r = 1 then s.setF (MEM_STAT_STATE n) 4 else s.setF (MEM_STAT_STATE n) 3

/-- The registers of a wythe's channels show its active list, N and C_w (R372). -/
def State.showList (s : State) (east : Bool) : State :=
  let act := (s.memList east).act
  let cw := (s.memList east).cw
  (wytheChans east).foldl (fun s n =>
    let s := (s.setF (MEM_IL_NACT n) act.length).setF (MEM_LINES_CW n) cw
    match act.findIdx? (· == n) with
    | some i => (s.setF (MEM_IL_IN_IL n) 1).setF (MEM_IL_IDX n) i
    | none => (s.setF (MEM_IL_IN_IL n) 0).setF (MEM_IL_IDX n) 0) s

/-- Fix a wythe's active list, N and C_w (R354): the channels with STATE ACTIVE, and the smallest C among them. -/
def State.fixActive (s : State) (east : Bool) : State :=
  let act := (wytheChans east).filter fun n => s.f (MEM_STAT_STATE n) == 2
  let cw := if act = [] then 0 else act.foldl (fun m n => min m (s.chanLines n)) (2 ^ 23 - 1)
  let l : MemList := { act := act, cw := cw }
  (if east then { s with memE := l } else { s with memW := l }).showList east

end Sys2Proof.Machine
end

