-- ==== Sys2Proof/Machine/TileQueue.lean ====
section
/-! DEFINITION. The tile's input queue and the counts every packet enters (R78–R83, R202–R206). -/

namespace Sys2Proof.Machine
open Sys2Proof

/-- TILE_STEP.PHASE (R111): 0 OPEN, 1 DRAIN, 2 COMMIT, 3 RUN, 4 STOPPED. -/
def State.phase (s : State) (t : Nat) : Nat := s.f (TILE_STEP_PHASE t)

/-- Queue half of a parity. -/
def Tile.half (x : Tile) (p : Nat) : List QEntry := if p % 2 = 0 then x.half0 else x.half1
def Tile.setHalf (x : Tile) (p : Nat) (l : List QEntry) : Tile :=
  if p % 2 = 0 then { x with half0 := l } else { x with half1 := l }

/-- Parity of the half the axon stage takes entries from: step S in OPEN, step S − 1 while it is being finished (R83, R112). -/
def State.curParity (s : State) (t : Nat) : Nat :=
  let p := (s.tile t).step.toNat % 2
  if s.phase t = 1 ∨ s.phase t = 2 ∨ s.phase t = 3 then 1 - p else p

/-- INJ and CON of a parity in the TILE page. -/
def tileInj (t p : Nat) : Loc := if p % 2 = 0 then TILE_INJ0 t else TILE_INJ1 t
def tileCon (t p : Nat) : Loc := if p % 2 = 0 then TILE_CON0 t else TILE_CON1 t

/-- Sink counts of a parity in the RT page (R274). -/
def rtInj (t p : Nat) : Loc := if p % 2 = 0 then RT_SINK_INJ0 t else RT_SINK_INJ1 t
def rtCon (t p : Nat) : Loc := if p % 2 = 0 then RT_SINK_CON0 t else RT_SINK_CON1 t

/-- The classes a consumer counts (R204): current and next. -/
def StepClass.counted : StepClass → Bool
  | .current => true
  | .next => true
  | _ => false

/-- A tile that takes no entries: stopped, or draining after EN = 0 (R82, R115, R116). -/
def State.tileShut (s : State) (t : Nat) : Bool := !s.actv .tile t

/-- R81: the drop counter of a next-class spike of priority `prio` when `n` entries wait, while EXH is applied. -/
def dropCounter (t n prio : Nat) : Option Loc :=
  if prio = 3 ∧ 97 ≤ n then some (TILE_DROP_P3 t)
  else if prio = 2 ∧ 107 ≤ n then some (TILE_DROP_P2 t)
  else if prio = 1 ∧ 117 ≤ n then some (TILE_DROP_P1 t)
  else none

/-- The next half, the one the axon stage does not take entries from, reaches an occupancy (R83, R125). -/
def State.nextHwm (s : State) (t : Nat) : State :=
  s.setF (TILE_QSTAT_NEXT_HWM t) (max (s.f (TILE_QSTAT_NEXT_HWM t)) ((s.tile t).half (1 - s.curParity t)).length)

/-- Put an entry into a half that has room (R82). -/
def State.enqueue (s : State) (t p : Nat) (e : QEntry) : State :=
  ((s.modTile t fun x => x.setHalf p (x.half p ++ [e])).inc (TILE_EV_ACCEPT t)).nextHwm t

/-- A packet reaches the tile's queue logic (R79–R82, R116, R204): `prio` is none for a PSUM, `w` its weight in
CON. A packet of a step whose CLOSE is recorded is in no step's CON (R205). The drop points stand in the order of R221. -/
def State.arrive (s : State) (t step w : Nat) (prio : Option Nat) (e : QEntry) : State :=
  let x := s.tile t
  let cl := stepClass step x.step
  let late := match x.closeRec with | some c => c.step % 256 == step | none => false
  let s := if cl.counted && !late then s.addWrap (tileCon t step) w else s
  let n := (x.half step).length
  let low := if cl = .next ∧ s.b (TILE_STEP_STAT_EXH t) then prio.bind (dropCounter t n) else none
  if cl.counted && decide (128 ≤ n) then s.incRec (TILE_DROP_QFULL t) 2
  else
    match low with
    | some l => s.incRec l (2 + prio.getD 0)
    | none =>
      if s.tileShut t then s.inc (TILE_DROP_DISABLED t)
      else
        match cl with
        | .early => (s.inc (TILE_EARLY t)).raise .tile t 1
        | .late => s.incRec (TILE_LATE t) 6
        | _ => s.enqueue t step e

/-- Open step of a router that sinks for its tile (R205). -/
def State.sinkOpen (s : State) (t : Nat) : BitVec 64 := Map.get 0 s.sinkStep t

/-- A router consumes a spike or PSUM addressed to a tile that cannot take it (R206). -/
def State.sinkConsume (s : State) (t step w : Nat) : State :=
  let s := s.inc (RT_SINK_PKTS t)
  if (stepClass step (s.sinkOpen t)).counted then s.addWrap (rtCon t step) w else s

/-- A spike at the local port of router `t`: to the tile, or to the router's sink. -/
def State.spikeTo (s : State) (t axon payload prio step : Nat) : State :=
  if s.tileUp t then s.arrive t step 1 (some prio) (.spike axon payload prio) else s.sinkConsume t step 1

/-- A PSUM at the local port of router `t`. -/
def State.psumTo (s : State) (t neuron step cc : Nat) (sum : Int) : State :=
  if s.tileUp t then s.arrive t step cc none (.psum neuron sum) else s.sinkConsume t step cc

/-- SPIKE_ARRIVAL (R79). -/
def execSpikeArrival (t : BitVec 10) (axon : BitVec 16) (payload : BitVec 4) (prio : BitVec 2) (step : BitVec 8) (s : State) : Out :=
  .next (s.spikeTo t.toNat axon.toNat payload.toNat prio.toNat step.toNat)

/-- PSUM_ARRIVAL (R79). -/
def execPsumArrival (t : BitVec 10) (neuron : BitVec 14) (step : BitVec 8) (ccount : BitVec 6) (sum : BitVec 20) (s : State) : Out :=
  .next (s.psumTo t.toNat neuron.toNat step.toNat ccount.toNat sum.toInt)

/-- ROUTER_SINK (R206): the router consumes a spike, one multicast copy or a PSUM for a tile that cannot take it. -/
def execRouterSink (t : BitVec 10) (p : Packet) (s : State) : Out :=
  .next (
    if s.sinkReason t.toNat = 0 then s
    else
      match p with
      | .spikeUC _ _ _ _ _ st => s.sinkConsume t.toNat st.toNat 1
      | .spikeMC _ _ _ _ _ st _ => s.sinkConsume t.toNat st.toNat 1
      | .psum _ _ _ st cc _ => s.sinkConsume t.toNat st.toNat cc.toNat
      | _ => s)

end Sys2Proof.Machine
end

