-- ==== Sys2Proof/Machine/Mortar.lean ====
section
/-! DEFINITION. The mortar: gateways, channels and lanes, routing, replication, combining (spec/07_mortar_fabric.md R235–R275,
spec/09_ties_and_multichip.md R327–R330). A packet stands at one router at a time; a hop moves it whole. -/

namespace Sys2Proof.Machine
open Sys2Proof

/-! ## Gateways (R18, R271) -/

/-- GW codes of RT_ID by router. -/
def gwCode (r : Nat) : Nat :=
  match r with
  | 0x000 => 0x01
  | 0x020 => 0x02
  | 0x040 => 0x03
  | 0x060 => 0x04
  | 0x05F => 0x05
  | 0x003 => 0x06
  | 0x00B => 0x07
  | 0x3E3 => 0x08
  | 0x3EB => 0x09
  | 0x013 => 0x0A
  | 0x01B => 0x0B
  | 0x3F3 => 0x0C
  | 0x3FB => 0x0D
  | 0x200 => 0x0E
  | 0x21F => 0x0F
  | 0x010 => 0x10
  | 0x3EF => 0x11
  | _ => 0

/-- Router of a memory gateway MGW0 to MGW7. -/
def mgwRouter (g : Nat) : Nat :=
  match g with
  | 0 => 0x003
  | 1 => 0x00B
  | 2 => 0x3E3
  | 3 => 0x3EB
  | 4 => 0x013
  | 5 => 0x01B
  | 6 => 0x3F3
  | _ => 0x3FB

/-- Gateway router of a tie port: 0 N, 1 S, 2 W, 3 E (R327). -/
def tieRouter (p : Nat) : Nat :=
  match p with
  | 0 => 0x010
  | 1 => 0x3EF
  | 2 => 0x200
  | _ => 0x21F

/-- Router of the SYS gateway. -/
def sysRouter : Nat := 0x020

/-! ## Routes between chips (R327–R330) -/

/-- The port is UP. -/
def State.tieUp (s : State) (p : Nat) : Bool := s.domOn dTIE && s.f (TIE_STAT_STATE p) == 4

/-- The opposite port of the same ring. -/
def tieOpp (p : Nat) : Nat :=
  match p with
  | 0 => 1
  | 1 => 0
  | 2 => 3
  | _ => 2

/-- The way a packet leaves for another chip: the tie, and the DVC it leaves on. -/
structure TieRoute where
  tie : Nat
  dvc : Bool
deriving DecidableEq, Repr

/-- The egress tie of a packet for chip `d` that came by `arr`, this chip not being `d` (R328–R330). -/
def State.tieRoute (s : State) (d : Nat) (arr : Option (Nat × Bool)) : TieRoute :=
  let c := s.chipId
  let xr := decide (d % 32 ≠ c % 32)
  let m := if xr then s.torusW else s.torusH
  let own := if xr then c % 32 else c / 32
  let dst := if xr then d % 32 else d / 32
  let fwd := (dst + m - own % m) % m
  let up := if xr then 3 else 1
  let down := if xr then 2 else 0
  let minimal := if fwd ≤ m - fwd then up else down
  let det := if xr then bitAt (s.f (TIE_XDET 0)) (dst % 32) else bitAt (s.f (TIE_YDET 0)) (dst % 32)
  let entry := if det then tieOpp minimal else minimal
  let tie := match arr with
    | some (p, _) => if p = up ∨ p = down then tieOpp p else if s.tieUp entry then entry else if s.tieUp (tieOpp entry) then tieOpp entry else entry
    | none => if s.tieUp entry then entry else if s.tieUp (tieOpp entry) then tieOpp entry else entry
  let crosses := if tie = up then own + 1 = m else own = 0
  let cont := match arr with | some (p, v) => v && p == tieOpp tie | none => false
  { tie := tie, dvc := decide crosses || cont }

/-- Lane of an egress tie (R328). -/
def tieLane (p : Nat) : LaneId := if p = 2 ∨ p = 3 then .x else .y

/-- Lane a packet takes where it enters the chip (R249). -/
def State.laneFor (s : State) (p : Packet) (arr : Option (Nat × Bool)) : LaneId :=
  match p.dchip? with
  | some d => if d = s.chipId then .h else tieLane (s.tieRoute d arr).tie
  | none => .h

/-! ## Destinations (R252) -/

/-- The spike leaves through the gateway port at its destination router (R252, R272). -/
def State.gwinTakes (s : State) (r axon : Nat) : Bool :=
  s.b (RT_GWIN_EN r) && gwCode r != 0 && decide (s.f (RT_GWIN_BASE r) ≤ axon)

/-- Router and port where a unicast packet is delivered on this chip (R252). -/
def State.destOf (s : State) (p : Packet) (arr : Option (Nat × Bool)) : Nat × Port :=
  let away := match p.dchip? with | some d => decide (d ≠ s.chipId) | none => false
  if away then (tieRouter (s.tieRoute (p.dchip?.getD 0) arr).tie, .gw)
  else
    match p with
    | .spikeUC dt _ ax .. => (dt.toNat, if s.gwinTakes dt.toNat ax.toNat then .gw else .loc)
    | .psum dt .. => (dt.toNat, .loc)
    | .readReq h => (h.dtile.toNat, if h.dgw then .gw else .loc)
    | .writeReq h _ => (h.dtile.toNat, if h.dgw then .gw else .loc)
    | .hodMsg h .. => (h.dtile.toNat, if h.dgw then .gw else .loc)
    | .readRsp h _ => (h.dtile.toNat, if h.dgw then .gw else .loc)
    | .writeAck h => (h.dtile.toNat, if h.dgw then .gw else .loc)
    | _ => (sysRouter, .gw)

/-- A packet that the router replicates on this chip (R255, R256): its cluster and tile masks. -/
def State.mcMasks (s : State) (p : Packet) : Option (Nat × Nat) :=
  match p with
  | .spikeMC cm dc _ _ _ _ tm => if dc.toNat = s.chipId then some (cm.toNat, tm.toNat) else none
  | .bcast cm dc _ _ => if dc.toNat = s.chipId then some (cm.toNat, 2 ^ 27) else none
  | _ => none

/-! ## Room in channels and lanes (R249, R266) -/

/-- The packet occupies the adaptive channel at input port `inp` of router `r`, or (`bridge`) in the bridge out of `r`: with its head, or
with its tail where it does not fit into the channel its head is in (R249). -/
def Flight.occupies (f : Flight) (r : Nat) (inp : Port) (bridge : Bool) : Bool :=
  (!f.escape && f.at_ == r && (bridge || f.inp == inp) && f.bridge == bridge) ||
    (match f.trail with
     | some (r', inp', b') => r' == r && (bridge || inp' == inp) && b' == bridge
     | none => false)

/-- The adaptive channel of a class at a router's input port, or in the bridge out of it, holds no packet. -/
def State.adaptiveFree (s : State) (r : Nat) (inp : Port) (c : Option Class) (bridge : Bool) : Bool :=
  !s.flights.any fun f => f.occupies r inp bridge && f.pkt.cls == c

/-- The adaptive channel that keeps the tail of packet `f` when its head moves on into a channel of 4 flits (R249). -/
def Flight.tail (f : Flight) : Option (Nat × Port × Bool) :=
  if !f.escape && decide (4 < f.pkt.flits.length) then some (f.at_, f.inp, f.bridge) else none

/-- Flits in an escape lane of a class. -/
def State.laneFlits (s : State) (r : Nat) (inp : Port) (c : Option Class) (l : LaneId) (bridge : Bool) : Nat :=
  ((s.flights.filter fun f => f.at_ == r && (bridge || f.inp == inp) && f.bridge == bridge && f.escape && f.lane == l &&
    f.pkt.cls == c).map fun f => f.pkt.flits.length).sum

/-- The lane has room for the whole packet: lanes and bridge entries hold 8 flits. -/
def State.laneRoom (s : State) (r : Nat) (inp : Port) (p : Packet) (l : LaneId) (bridge : Bool) : Bool :=
  decide (s.laneFlits r inp p.cls l bridge + p.flits.length ≤ 8)

/-- A packet that may use adaptive channels (R253): of class EV, RQ, RP or MG, and no SPIKE_MC. -/
def adaptiveClass (p : Packet) : Bool :=
  match p with
  | .spikeMC .. => false
  | _ => p.cls == some .ev || p.cls == some .rq || p.cls == some .rp || p.cls == some .mg

/-- The packet routes adaptively at router `r` (R253, R270). -/
def State.adaptive (s : State) (r : Nat) (p : Packet) : Bool := s.b (RT_CFG_ADAPT r) && s.actv .rt r && adaptiveClass p

/-! ## Combining (R257) -/

/-- PSUM buffers of a router in use. -/
def State.cmbUsed (s : State) (r : Nat) : Nat := (s.psums.filter fun b => b.at_ == r).length

/-- The lowest free buffer of a router, of 1 to 31. -/
def State.cmbFree (s : State) (r : Nat) : Option Nat :=
  ((List.range 31).map (· + 1)).find? fun n => !s.psums.any fun b => b.at_ == r && b.buf == n

/-- Change buffer `n` of router `r`. -/
def State.modPsum (s : State) (r n : Nat) (g : PsumBuf → PsumBuf) : State :=
  { s with psums := s.psums.map fun b => if b.at_ = r ∧ b.buf = n then g b else b }

/-- Free buffer `n` of router `r`. -/
def State.dropPsum (s : State) (r n : Nat) : State := { s with psums := s.psums.filter fun b => !(b.at_ == r && b.buf == n) }

/-- The packet a buffer holds. -/
def PsumBuf.packet (b : PsumBuf) : Packet := .psum b.dtile b.dchip b.neuron b.step b.ccount b.sum

/-- A PSUM enters router `r`: combined, held, or passed on (`none`) (R257). -/
def State.psumEnter (s : State) (r : Nat) (inp : Port) (lane : LaneId) (arr : Option (Nat × Bool)) (dt dc : BitVec 10)
    (n : BitVec 14) (st : BitVec 8) (cc : BitVec 6) (sm : BitVec 20) : Option State :=
  if !(s.b (RT_CFG_CMB_EN r) && s.actv .rt r) then none
  else
    match s.psums.find? fun b => b.at_ == r && b.dtile == dt && b.dchip == dc && b.neuron == n && b.step == st &&
        decide (b.ccount.toNat + cc.toNat ≤ 63) with
    | some b =>
      let v := b.sum.toInt + sm.toInt
      let c := clampI (-524288) 524287 v
      let s := s.modPsum r b.buf fun b => { b with sum := BitVec.ofInt 20 c, ccount := b.ccount + cc }
      let s := s.inc (RT_PSUM_COMB r)
      some (if c = v then s else (s.inc (RT_PSUM_SAT r)).raise .rt r 0)
    | none =>
      if s.f (RT_CFG_CWIN r) = 0 then none
      else
        (s.cmbFree r).map fun k =>
          { s with psums := s.psums ++ [{ at_ := r, buf := k, inp := inp, lane := lane, arr := arr, dtile := dt, dchip := dc,
                                          neuron := n, step := st, ccount := cc, sum := sm }] }

/-! ## Entering a router -/

/-- Put a packet into an input channel of router `r`: the adaptive one where it may take it and it is free, else the escape lane
where it has room; none: no room. `trail`: the adaptive channel upstream that the packet would still occupy. A packet that comes from no
escape lane (`esc` = false) into one counts in RT_ESCAPE (R274). -/
def State.enterChannel (s : State) (r : Nat) (inp : Port) (p : Packet) (lane : LaneId) (arr : Option (Nat × Bool)) (esc : Bool)
    (trail : Option (Nat × Port × Bool) := none) : Option State :=
  if !esc && s.adaptive r p && s.adaptiveFree r inp p.cls false then
    some { s with flights := s.flights ++ [{ pkt := p, at_ := r, inp := inp, lane := lane, escape := false, arr := arr, trail := trail }] }
  else if s.laneRoom r inp p lane false then
    let s' := { s with flights := s.flights ++ [{ pkt := p, at_ := r, inp := inp, lane := lane, escape := true, arr := arr }] }
    some (if !esc && adaptiveClass p then s'.inc (RT_ESCAPE r) else s')
  else none

/-- A packet enters router `r`; a PSUM may be combined or held there (R257). -/
def State.enter (s : State) (r : Nat) (inp : Port) (p : Packet) (lane : LaneId) (arr : Option (Nat × Bool)) (esc : Bool)
    (trail : Option (Nat × Port × Bool) := none) : Option State :=
  match p with
  | .psum dt dc n st cc sm =>
    match s.psumEnter r inp lane arr dt dc n st cc sm with
    | some s' => some s'
    | none => s.enterChannel r inp p lane arr esc trail
  | _ => s.enterChannel r inp p lane arr esc trail

/-- The router's mortar is powered. -/
def State.routerOn (s : State) (r : Nat) : Bool := s.domOn (mortarDom r)

/-- A packet passes the gateway port of router `r`, into the mortar or out of it: the check units that observe it (R365). A request's own
number is ADDR[31:0] (R369). -/
def State.crcGateway (s : State) (r : Nat) (out : Bool) (p : Packet) : State :=
  if gwCode r = 0 then s
  else
    let own := match p with
      | .readReq h => h.addr.toNat % 2 ^ 32
      | .writeReq h _ => h.addr.toNat % 2 ^ 32
      | .hodMsg h .. => h.addr.toNat % 2 ^ 32
      | _ => 0
    (List.range 4).foldl (fun s k =>
      if s.crcTakes k (0x40 + gwCode r) && s.b (CRC_SRC_DIR k) == out && bitAt (s.f (CRC_SRC_TYPEMASK k)) p.typeCode then
        (s.crcRun k own p.bytes).1
      else s) s

/-- A packet enters the mortar at a local or gateway port (R235): checked, given its lane, and queued. None: no room yet. -/
def State.inject (s : State) (r : Nat) (port : Port) (p : Packet) : Option State :=
  if p.bad then some ((s.inc (RT_BAD_PKT r)).raise .rt r 1)
  else if !s.routerOn r then none
  else (s.enter r port p (s.laneFor p none) none false).map fun s' => if port = .gw then s'.crcGateway r false p else s'

/-- The reply head of a request (R239). -/
def rspOf (h : ReqHead) (st : Status) (hstat : Nat := 0) : RspHead :=
  { dtile := h.stile, dchip := h.schip, dgw := h.sgw, status := st.code, hstat := BitVec.ofNat 16 hstat, tag := h.tag, size := h.size }

/-- The reply of a HOD_MSG refused with a status (R242): READ_RSP for OPEN and RECV, WRITE_ACK for every other HOP. -/
def hodRefused (h : ReqHead) (op : BitVec 4) (st : Status) (hstat : Nat := 0) : Packet :=
  if op = 0 ∨ op = 2 then .readRsp (rspOf h st hstat) [] else .writeAck (rspOf h st hstat)

/-- Tiles of a pair of masks (R11, R12, R237). -/
def mcTargets (cm tm : Nat) : List Nat := (setBits 16 cm).flatMap fun c => (setBits 64 tm).map fun i => tileOf c i

/-- The router at `r` is responsible for target `d` of a copy that came by `inp` (R255). -/
def mcOwns (r : Nat) (inp : Port) (d : Nat) : Bool :=
  match inp with
  | .west => decide (tileX r ≤ tileX d)
  | .east => decide (tileX d ≤ tileX r)
  | .north => tileX d == tileX r && decide (tileY r ≤ tileY d)
  | .south => tileX d == tileX r && decide (tileY d ≤ tileY r)
  | _ => true

/-! ## The collar sink (R269) -/

/-- The bridge out of the west side (toEast) or the east side is in sink mode (R269). -/
def State.collarSinks (s : State) (toEast : Bool) : Bool := if toEast then s.b MTR_COLLAR_W_SINK else s.b MTR_COLLAR_E_SINK

/-- Router on the sending side of a collar link. -/
def collarFrom (row : Nat) (toEast : Bool) : Nat := row * 32 + (if toEast then 15 else 16)

/-- Sink counts of the bridges by parity. -/
def collarCon (p : Nat) : Loc := if p % 2 = 0 then MTR_CSINK_CON0 else MTR_CSINK_CON1
def collarInj (p : Nat) : Loc := if p % 2 = 0 then MTR_CSINK_INJ0 else MTR_CSINK_INJ1

/-- Weight of what a bridge consumes (R204): of a replicated spike, the targets that the receiving router would be responsible for. -/
def State.collarWeight (s : State) (row : Nat) (toEast : Bool) (p : Packet) : Nat :=
  match p with
  | .spikeMC cm dc _ _ _ _ tm =>
    if dc.toNat = s.chipId then
      ((mcTargets cm.toNat tm.toNat).filter
        (mcOwns (row * 32 + (if toEast then 16 else 15)) (if toEast then .west else .east))).length
    else p.conWeight
  | p => p.conWeight

/-- A bridge in sink mode takes a packet bound across (R269). None: a request whose reply has no room yet. -/
def State.collarTake (s : State) (row : Nat) (toEast : Bool) (p : Packet) : Option State :=
  let s := s.raise .mtr 0 1
  let r := collarFrom row toEast
  let refuse := fun (rsp : Packet) =>
    ((s.inc MTR_CSINK_RQ).enter r (if toEast then .east else .west) rsp (s.laneFor rsp none) none false)
  match p with
  | .readReq h => refuse (.readRsp (rspOf h .domainOff) [])
  | .writeReq h _ => refuse (.writeAck (rspOf h .domainOff))
  | .hodMsg h op .. => refuse (hodRefused h op .domainOff)
  | .mgmt .. => some (s.inc MTR_CSINK_MG)
  | .readRsp .. => some s
  | .writeAck .. => some s
  | p =>
    let s := s.inc MTR_CSINK_PKTS
    match p.step? with
    | some st => some (if (stepClass st s.collarStep).counted then s.addWrap (collarCon st) (s.collarWeight row toEast p) else s)
    | none => some s

/-! ## Moving on -/

/-- Direction of a hop. -/
def portStep (r : Nat) : Port → Nat
  | .north => r - 32
  | .south => r + 32
  | .west => r - 1
  | .east => r + 1
  | _ => r

/-- The port by which a packet arrives after leaving by `p`. -/
def portOpp : Port → Port
  | .north => .south
  | .south => .north
  | .west => .east
  | .east => .west
  | p => p

/-- Productive X and Y directions from `r` to `d`. -/
def xDir (r d : Nat) : Option Port := if tileX r < tileX d then some .east else if tileX d < tileX r then some .west else none
def yDir (r d : Nat) : Option Port := if tileY r < tileY d then some .south else if tileY d < tileY r then some .north else none

/-- The hop by `p` from `r` crosses the collar joint (R16). -/
def crossesCollar (r : Nat) (p : Port) : Bool := (tileX r == 15 && p == .east) || (tileX r == 16 && p == .west)

/-- Move a packet through output port `p` of router `r`: into the bridge at the collar, else into the neighbour. `esc` keeps it in
escape lanes; an adaptive move that finds its channel taken gives none. -/
def State.moveOut (s : State) (r : Nat) (p : Port) (f : Flight) (esc : Bool) : Option State :=
  if crossesCollar r p && s.collarSinks (p == .east) then s.collarTake (tileY r) (p == .east) f.pkt
  else if crossesCollar r p then
    if esc then
      if s.laneRoom r f.inp f.pkt f.lane true then
        some { s with flights := s.flights ++ [{ f with escape := true, bridge := true, trail := none }] }
      else none
    else if s.adaptiveFree r f.inp f.pkt.cls true then
      some { s with flights := s.flights ++ [{ f with escape := false, bridge := true, trail := none }] }
    else none
  else
    let r' := portStep r p
    if !s.routerOn r' then none
    else if esc then s.enter r' (portOpp p) f.pkt f.lane f.arr true
    else if s.adaptive r' f.pkt && s.adaptiveFree r' (portOpp p) f.pkt.cls false then
      some { s with flights := s.flights ++ [{ f with at_ := r', inp := portOpp p, escape := false, trail := f.tail }] }
    else none

/-- What a hop comes to: the packet waits, has moved on, or is delivered at a port of its router. -/
inductive Hop
  | wait
  | moved (s : State)
  | deliver (s : State) (port : Port)

/-- Remove one flight. -/
def State.dropFlight (s : State) (f : Flight) : State := { s with flights := s.flights.erase f }

/-- The output port that a unicast packet takes now, `s` being the state without it, and whether it goes into an escape lane (R252, R253);
none: it waits. -/
def State.choose (s : State) (f : Flight) : Option (Port × Bool) :=
  let r := f.at_
  let (d, port) := s.destOf f.pkt f.arr
  if r = d then some (port, true)
  else
    let xy := (xDir r d).getD ((yDir r d).getD .loc)
    let lane := if (s.moveOut r xy f true).isSome then some (xy, true) else none
    if f.escape || !s.adaptive r f.pkt then lane
    else
      match ([xDir r d, yDir r d].filterMap id).find? fun p => (s.moveOut r p f false).isSome with
      | some p => some (p, false)
      | none => lane

/-- One hop of a unicast packet, `s` being the state without it (R252, R253). -/
def State.hopUnicast (s : State) (f : Flight) : Hop :=
  match s.choose f with
  | none => .wait
  | some (p, esc) =>
    if (s.destOf f.pkt f.arr).1 = f.at_ then .deliver s p
    else
      match s.moveOut f.at_ p f esc with
      | some s' => .moved (if esc && !f.escape then s'.inc (RT_ESCAPE f.at_) else s')
      | none => .wait

/-- The port a responsible target takes from `r` (R255). -/
def mcPort (r d : Nat) : Port :=
  if tileX r < tileX d then .east else if tileX d < tileX r then .west
  else if tileY d < tileY r then .north else if tileY r < tileY d then .south else .loc

/-- Ports that receive a copy. -/
def mcPorts (r : Nat) (inp : Port) (cm tm : Nat) : List Port :=
  let ps := ((mcTargets cm tm).filter (mcOwns r inp)).map (mcPort r)
  ([.east, .west, .north, .south, .loc] : List Port).filter fun p => ps.contains p

/-- Copies of a replicated packet out of its router: every copy needs room (R255). -/
def State.mcCopies (f : Flight) : List Port → State → Option State
  | [], s => some s
  | p :: ps, s =>
    match s.moveOut f.at_ p f true with
    | some s' => State.mcCopies f ps s'
    | none => none

/-- One hop of a packet, `s` being the state without it (R252–R256). -/
def State.hop (s : State) (f : Flight) : Hop :=
  match s.mcMasks f.pkt with
  | none => s.hopUnicast f
  | some (cm, tm) =>
    let ps := mcPorts f.at_ f.inp cm tm
    match State.mcCopies f (ps.filter (· != .loc)) s with
    | none => .wait
    | some s' => if ps.contains .loc then .deliver s' .loc else .moved s'

/-! ## Arbitration (R251) -/

/-- Number of an input port. -/
def portIdx : Port → Nat
  | .loc => 0
  | .gw => 1
  | .north => 2
  | .south => 3
  | .east => 4
  | .west => 5

/-- What an output port grants one packet at a time: the router, the port, the channel (adaptive, or escape lane) and the class. -/
def grantKey (r : Nat) (p : Port) (esc : Bool) (l : LaneId) (c : Option Class) : Nat :=
  let ch := if esc then (match l with | .x => 1 | .y => 2 | .h => 3) else 0
  ((r * 6 + portIdx p) * 4 + ch) * 6 + (c.map Class.code).getD 5

/-- What packet `f` would take in its hop now. -/
def State.wants (s : State) (f : Flight) : List Nat :=
  let s := s.dropFlight f
  match s.mcMasks f.pkt with
  | none =>
    match s.choose f with
    | some (p, esc) => [grantKey f.at_ p esc f.lane f.pkt.cls]
    | none => []
  | some (cm, tm) =>
    let ps := mcPorts f.at_ f.inp cm tm
    if (State.mcCopies f (ps.filter (· != .loc)) s).isSome then ps.map fun p => grantKey f.at_ p true f.lane f.pkt.cls else []

/-- The packet is the oldest of its channel or lane, in its router or in the bridge out of it. -/
def State.isHead (s : State) (f : Flight) : Bool :=
  (s.flights.find? fun g => g.at_ == f.at_ && g.bridge == f.bridge && (f.bridge || g.inp == f.inp) && g.escape == f.escape &&
    (!f.escape || g.lane == f.lane) && g.pkt.cls == f.pkt.cls) == some f

/-- Of the packets that wait for what `f` waits for, `f` among them, the one whose input comes first in rotation after the input granted
last. -/
def State.granted (s : State) (f : Flight) : Flight :=
  match s.wants f with
  | [] => f
  | key :: _ =>
    let dist := fun (g : Flight) => (portIdx g.inp + 6 - Map.get 0 s.arb key) % 6
    (s.flights.filter fun g => g.at_ == f.at_ && !g.bridge && s.isHead g && (s.wants g).contains key).foldl
      (fun b g => if dist g < dist b then g else b) f

/-- The output ports have granted packet `f`, as it stood in `s`. -/
def State.grantMade (s' s : State) (f : Flight) : State :=
  { s' with arb := (s.wants f).foldl (fun m k => Map.set 0 m k ((portIdx f.inp + 1) % 6)) s'.arb }

/-! ## Draining and holds (R265, R269, R275) -/

/-- Class whose packets count for draining. -/
def drainClass (c : Option Class) : Bool := c == some .ev || c == some .cl

/-- No EV or CL packet in the routers and bridges of a wythe and no PSUM held. -/
def State.wytheDrained (s : State) (east : Bool) : Bool :=
  s.domOn (if east then dMTE else dMTW) &&
    !(s.flights.any fun f => isEast f.at_ == east && drainClass f.pkt.cls) && !(s.psums.any fun b => isEast b.at_ == east)

/-- The condition of DRAINED for a wythe (R275). -/
def State.drainCond (s : State) (east : Bool) : Bool := s.wytheDrained east && s.rd MTR_INJ_HOLD.addr != 0

/-- Raise DRAINED where its condition has become true since it was last looked at. -/
def State.drainSync (s : State) : State :=
  let w := s.drainCond false
  let e := s.drainCond true
  let up := (w && !s.drainW) || (e && !s.drainE)
  let s := { s with drainW := w, drainE := e }
  if up then s.raise .mtr 0 0 else s

/-! ## Crossing the collar (R267) -/

/-- The `k`-th packet at router `r`. -/
def State.flightAt (s : State) (r k : Nat) : Option Flight := (s.flights.filter fun f => f.at_ == r && !f.bridge)[k]?

/-- The `k`-th packet in the collar bridge out of router `r`. -/
def State.bridgeAt (s : State) (r k : Nat) : Option Flight := (s.flights.filter fun f => f.at_ == r && f.bridge)[k]?

/-- A packet leaves a bridge into the router across (R267). -/
def State.cross (s : State) (row : Nat) (toEast : Bool) (k : Nat) : State :=
  match s.bridgeAt (collarFrom row toEast) k with
  | none => s
  | some f =>
    let r' := row * 32 + (if toEast then 16 else 15)
    if !s.routerOn r' || !s.isHead f then s
    else
      ((((s.drainSync).dropFlight f).enter r' (if toEast then .west else .east) f.pkt f.lane f.arr f.escape f.tail).map
        State.drainSync).getD s

/-- COLLAR_CROSSING (R267). -/
def execCollarCrossing (row : BitVec 5) (toEast : Bool) (k : BitVec 8) (s : State) : Out :=
  .next (s.cross row.toNat toEast k.toNat)

/-! ## Holds (R265, R275) -/

/-- A write of MTR_INJ_HOLD (R265, R275). -/
def State.injHold (s : State) (v : Nat) : State :=
  (s.drainSync.wr MTR_INJ_HOLD.addr (BitVec.ofNat 32 (v % 2 ^ 22))).drainSync

/-- MTR_INJ_HOLD_WRITE (R265). -/
def execMtrInjHoldWrite (v : BitVec 32) (s : State) : Out := .next (s.injHold v.toNat)

/-- MTR_DRAINED (R275): DRAINED is raised if the condition of the wythe has become true. -/
def execMtrDrained (east : Bool) (s : State) : Out :=
  .next (if s.drainCond east then s.drainSync else s)

/-- COLLAR_SINK_PACKET (R269). -/
def execCollarSinkPacket (row : BitVec 5) (toEast : Bool) (p : Packet) (s : State) : Out :=
  .next (if s.collarSinks toEast then (s.collarTake row.toNat toEast p).getD s else s)

end Sys2Proof.Machine
end

