-- ==== Sys2Proof/Machine/Outbox.lean ====
section
/-! DEFINITION. What the host port and the firmware send: control frames with their protection (spec/13_host_link_and_mailboxes.md
R428, R429), mailbox messages as MBOX frames or, on a worker, as MGMT packets (R442, R443, R337). -/

namespace Sys2Proof.Machine
open Sys2Proof

/-! ## Host frames -/

def State.bound (s : State) : Bool := s.b HOST_BIND_BOUND

/-- The bound host's address (R431). -/
def State.peer (s : State) : Nat := s.f HOST_BIND_PEER_HI * 2 ^ 32 + s.f HOST_PEER_LO

/-- Packet numbers of an association run out here: 2^32, or 2^64 with XPN (R425, R428). -/
def State.pnEnd (s : State) : Nat := if s.b HOST_SEC_XPN then 2 ^ 64 else 2 ^ 32

/-- The association in use for sending (R550). -/
def State.txAssoc (s : State) : Option Assoc :=
  if s.host.txOn then s.host.txa.find? fun a => a.an == s.f HOST_SEC_TX_AN else none

/-- PN_LOW is raised for the association in use when its packet numbers come within 2^30 of their end (R428). -/
def State.pnLow (s : State) : State :=
  match s.txAssoc with
  | some a => if s.pnEnd ≤ a.pn + 2 ^ 30 then s.raise .host 0 6 else s
  | none => s

/-- Send a control frame (R428, R429): protected while an association is active; not sent where protection is required and none is
there, or its packet numbers are exhausted. -/
def State.txFrame (s : State) (dst kind seq chip : Nat) (body : List Nat) : State :=
  if !s.domOn dHOST then s
  else
    let put := fun (s : State) (f : TxFrame) => ({ s with host := { s.host with tx := s.host.tx ++ [f] } }).inc HOST_TX_FRAMES
    let f : TxFrame := { dst := dst, kind := kind, seq := seq, chip := 0x8000 + chip, body := body }
    match s.txAssoc with
    | some a =>
      if s.pnEnd ≤ a.pn then s
      else
        let s := { s with host := { s.host with txa := s.host.txa.map fun x => if x.an = a.an then { x with pn := x.pn + 1 } else x } }
        (put s { f with sec := some (a.an, a.pn) }).pnLow
    | none => if s.b HOST_SEC_REQUIRE then s else put s f

/-! ## Messages -/

/-- MGMT packets that wait go into the mortar at the SYS gateway as far as there is room. -/
def State.flushMg : Nat → State → State
  | 0, s => s
  | n + 1, s =>
    match s.host.mgOut with
    | [] => s
    | p :: r =>
      match s.inject sysRouter .gw p with
      | some s' => State.flushMg n { s' with host := { s'.host with mgOut := r } }
      | none => s

/-- Queue a MGMT packet and send what there is room for. -/
def State.sendMg (s : State) (ps : List Packet) : State :=
  State.flushMg (s.host.mgOut.length + ps.length) { s with host := { s.host with mgOut := s.host.mgOut ++ ps } }

/-- A mailbox fragment between chips (R337): MKIND 0x1. -/
def mgFrag (dchip schip msg frag : Nat) (last : Bool) (bs : List Nat) : Packet :=
  .mgmt 1 (BitVec.ofNat 10 dchip) (BitVec.ofNat 10 schip) (BitVec.ofNat 8 msg)
    (flit [(msg, 8), (frag, 6), (bn last, 1), (bs.length, 6), (0, 43)] ::
      (chunks 8 6 bs).map fun c => BitVec.ofNat 64 (ofLE (slice c 0 8)))

/-- The frames of a message towards the host (R442), of chip `chip`. -/
def State.mboxFrames (s : State) (seq chip num : Nat) (bytes : List Nat) : State :=
  let cs := chunks 1488 3 bytes
  cs.zipIdx.foldl (fun s c => s.txFrame s.peer 5 seq chip ([num, c.2, if c.2 + 1 = cs.length then 1 else 0, 0] ++ c.1)) s

/-- The firmware sends a message of this chip to the host (R443): in MBOX frames that carry `fseq` from the manager, in MGMT packets from
a worker. -/
def State.sendMsg (s : State) (typ fseq seq status : Nat) (body : List Nat) : State :=
  let bytes := [2, 3] ++ bytesBE 2 typ ++ bytesBE 2 seq ++ bytesBE 2 (16 + body.length) ++ bytesBE 2 status ++ bytesBE 6 0 ++ body
  let num := s.host.mnum
  let s := { s with host := { s.host with mnum := (num + 1) % 256 } }
  if s.isManager then if s.bound then s.mboxFrames fseq s.chipId num bytes else s
  else
    let cs := chunks 48 64 bytes
    s.sendMg (cs.zipIdx.map fun c => mgFrag 0 s.chipId num c.2 (c.2 + 1 == cs.length) c.1)

/-- A notification (R443): the firmware's own count in SEQ, of the message and of its frames. -/
def State.notify (s : State) (typ : Nat) (body : List Nat) : State :=
  let n := s.host.nseq
  ({ s with host := { s.host with nseq := (n + 1) % 65536 } }).sendMsg typ n n 0 body

/-- PN_LOW (R428). -/
def execPnLow (s : State) : Out := .next s.pnLow

end Sys2Proof.Machine
end

