-- ==== Sys2Proof/Machine/Route.lean ====
section
/-! DEFINITION. Where an address leads and how a requester forms a request (spec/01_architecture.md R19–R24, R27;
spec/07_mortar_fabric.md R239–R242; spec/14_firmware_and_hods.md R450, R453). -/

namespace Sys2Proof.Machine
open Sys2Proof

/-- What a local address names (R23, R24, R450). -/
inductive Place
  | page (b : Block) (i : Nat)
  | tile (t off : Nat)
  | shm (c off : Nat)
  | fw (dom : Nat)
  | ext (n l o : Nat)
  | unmapped
deriving DecidableEq, Repr

/-- The domain of a firmware or security memory address; none where R450 lays out nothing. -/
def fwMemDom (a : Nat) : Option Nat :=
  let o := a - 0x300000000
  if a < 0x300000000 ∨ 0x400000000 ≤ a then none
  else if o < 0x54000 then some dSEC
  else if 0x1000000 ≤ o ∧ o < 0x1100000 then some dFW
  else if 0x2000000 ≤ o ∧ o < 0x2080000 then some dFW
  else if 0x3000000 ≤ o ∧ o < 0x3020000 then some dAON
  else none

/-- Place of a local address. -/
def State.place (s : State) (a : Nat) : Place :=
  if a < 0x4000000 then match pageOf a with | some (b, i) => .page b i | none => .unmapped
  else if 0x100000000 ≤ a ∧ a < 0x120000000 then
    if (a - 0x100000000) % 0x80000 < 0x68000 then .tile ((a - 0x100000000) / 0x80000) ((a - 0x100000000) % 0x80000) else .unmapped
  else if 0x200000000 ≤ a ∧ a < 0x204000000 then .shm ((a - 0x200000000) / 0x400000) ((a - 0x200000000) % 0x400000)
  else if 0x300000000 ≤ a ∧ a < 0x400000000 then match fwMemDom a with | some d => .fw d | none => .unmapped
  else match s.extMap a with | some (n, l, o) => .ext n l o | none => .unmapped

/-- The centre router that serves an offset of a cluster's shared memory (R14). -/
def centreRouter (c off : Nat) : Nat :=
  tileOf c (match off / 0x100000 with | 0 => 27 | 1 => 28 | 2 => 35 | _ => 36)

/-- Router and port that deliver a request for a place (R242). -/
def Place.target : Place → Nat × Bool
  | .page .tile i => (i, false)
  | .page .rt i => (i, false)
  | .page .clu i => (centreRouter i 0, false)
  | .page _ _ => (sysRouter, true)
  | .tile t _ => (t, false)
  | .shm c off => (centreRouter c off, false)
  | .fw _ => (sysRouter, true)
  | .ext n _ _ => (mgwRouter (n / 6), true)
  | .unmapped => (sysRouter, true)

/-- The head of a request for local address `a` of chip `chip` from router `r` (R239). -/
def State.reqHead (s : State) (chip a r : Nat) (gw : Bool) (tag size : Nat) : ReqHead :=
  let tg := (s.place a).target
  { dtile := BitVec.ofNat 10 tg.1, dchip := BitVec.ofNat 10 chip, dgw := tg.2, stile := BitVec.ofNat 10 r,
    schip := BitVec.ofNat 10 s.chipId, sgw := gw, tag := BitVec.ofNat 8 tag, size := BitVec.ofNat 2 size,
    addr := BitVec.ofNat 38 a }

/-- What comes of forming a request: it completes at once with an outcome, it enters the mortar, or there is no room yet. -/
inductive Issue
  | done (s : State) (st : Status)
  | sent (s : State)
  | wait

/-- A requester at router `r` sends a read or, with data, a write to the 48-bit address `ga` (R20, R23, R27, R453). -/
def State.request (s : State) (ini r : Nat) (port : Port) (tag size ga : Nat) (data : Option (List (BitVec 64))) : Issue :=
  let a := ga % 2 ^ 38
  let chip := if ga / 2 ^ 38 % 1024 = 0x3FF then s.chipId else ga / 2 ^ 38 % 1024
  if chip = s.chipId ∧ s.place a = .unmapped then .done s .unmapped
  else if !s.fwAllows ini a data.isSome then .done (s.fwRefuse ini a data.isSome) .denied
  else
    let h := s.reqHead chip a r (port == .gw) tag size
    match s.inject r port (match data with | some d => .writeReq h d | none => .readReq h) with
    | some s => .sent s
    | none => .wait

/-! ## Ways of an access (R19, R27, R269) -/

/-- The target is reached over the ring bus (R19). -/
def Place.onRing : Place → Bool
  | .page b _ => b != .clu && b != .tile && b != .rt
  | .fw _ => true
  | _ => false

/-- Router at which an access to a place leaves the mortar; none: a requester at router `r` reaches it over the ring bus alone. -/
def Place.exitFrom (p : Place) (r : Nat) : Option Nat :=
  if p.onRing then (if r = sysRouter ∨ r = 0 then none else some sysRouter)
  else if p = .unmapped then none else some p.target.1

/-- An access from router `r` finds its way through the mortar closed (R27, R269): a wythe's mortar is off, or the bridges sink it and count
it. It completes with DOMAIN_OFF. -/
def State.pathRefuses (s : State) (r : Nat) (p : Place) : Option State :=
  match p.exitFrom r with
  | none => none
  | some d =>
    if !s.routerOn r then some s
    else if isEast r != isEast d && s.collarSinks (isEast d) then some ((s.raise .mtr 0 1).inc MTR_CSINK_RQ)
    else if !s.routerOn d then some s else none

end Sys2Proof.Machine
end

