-- ==== Sys2Proof/Machine/Parity.lean ====
section
/-! DEFINITION. Parity in the tile memories and the cluster shared memories: holds, corrections, containment, the logs and the cluster's
bucket (spec/11_onchip_memory_integrity.md R379–R392). -/

namespace Sys2Proof.Machine
open Sys2Proof

/-! ## Thread contexts -/

/-- Thread `n` of the tile. -/
def Tile.thread (x : Tile) (n : Nat) : Thread := Map.get {} x.threads n
def Tile.setThread (x : Tile) (n : Nat) (th : Thread) : Tile := { x with threads := Map.set {} x.threads n th }
def State.thread (s : State) (t n : Nat) : Thread := (s.tile t).thread n
def State.modThread (s : State) (t n : Nat) (g : Thread → Thread) : State :=
  s.modTile t fun x => x.setThread n (g (x.thread n))

/-- The touch or service run of thread `n` ends where it stands: replies still due are received and discarded (R187). -/
def Tile.dropTouch (x : Tile) (n : Nat) : Tile :=
  { x.setThread n { x.thread n with touch := none } with
    bufs := x.bufs.filterMap fun b =>
      if b.thread ≠ n then some b else if b.issued ∧ b.reply = none then some { b with dead := true } else none }

/-- Neuron words of thread `n`: base, count, and whether the model has two words (R171, R176). -/
def State.thrTwo (s : State) (t n : Nat) : Bool :=
  if s.b (TILE_THR_PROG_BUILTIN t n) then
    [1, 2, 3, 5].contains (s.f (TILE_THR_PROG_ENTRY t n) % 16)
  else s.b (TILE_THR_BIND_TWO t n)

def State.thrBase (s : State) (t n : Nat) : Nat := s.f (TILE_THR_BIND_BASE t n)
def State.thrCount (s : State) (t n : Nat) : Nat := s.f (TILE_THR_BIND_COUNT t n)

/-- A thread bound to at least one neuron (R170). -/
def State.neuronThread (s : State) (t n : Nat) : Bool := s.b (TILE_THR_BIND_EN t n) && decide (1 ≤ s.thrCount t n)

/-- A service thread (R170). -/
def State.serviceThread (s : State) (t n : Nat) : Bool :=
  s.b (TILE_THR_BIND_EN t n) && s.thrCount t n == 0 && !s.b (TILE_THR_PROG_BUILTIN t n)

/-- The lowest-numbered neuron thread whose range holds neuron index `i` (R91). -/
def State.ownerThread (s : State) (t i : Nat) : Option Nat :=
  (List.range 16).find? fun n => s.neuronThread t n && decide (s.thrBase t n ≤ i) && decide (i < s.thrBase t n + s.thrCount t n)

/-! ## Logs and counts (R385, R387, R391) -/

/-- The failing bytes of a word of tile memory `m`. -/
def State.badMask (s : State) (t m w : Nat) : Nat := (Map.get 0 (s.tile t).bad (badKey m w)).toNat

/-- Put an event into the parity log; a full log counts it lost (R391). -/
def State.parLog (s : State) (t outcome m port mask w : Nat) : State :=
  if 8 ≤ (s.tile t).log.length then s.inc (TILE_PAR_LOST t)
  else
    let word := 2 ^ 31 + outcome * 2 ^ 28 + m * 2 ^ 26 + port * 2 ^ 23 + mask * 2 ^ 15 + w
    s.modTile t fun x => { x with log := x.log ++ [{ word := BitVec.ofNat 32 word, time := s.tb.truncate 32 }] }

/-- A correction in a tile of the cluster enters the bucket (R387). -/
def State.parBucket (s : State) (c : Nat) : State :=
  let size := max 1 (s.f (CLU_PAR_CFG_SIZE c))
  if s.f (CLU_PAR_LEVEL_LEVEL c) < size then s.add (CLU_PAR_LEVEL_LEVEL c) 1
  else (s.incRec (CLU_PAR_OVF c) 0x1B).raise .clu c 9

/-- A corrected word: counted, logged and put in the bucket (R381, R387). -/
def State.corrected (s : State) (t outcome m port mask w : Nat) : State :=
  ((s.inc (TILE_PAR_CORR t)).parLog t outcome m port mask w).parBucket (clusterOf t)

/-! ## Containment (R385, R386) -/

/-- Disable the 64-neuron block of a neuron (R385, R386): its ACTIVE bits are cleared, and what was to touch it or is touching it ends. A
tile has 256 blocks; a quad lies in one. -/
def State.disableBlock (s : State) (t i : Nat) : State :=
  let blk := i / 64
  if 256 ≤ blk then s
  else
    let l := TILE_NDIS t (blk / 32)
    (s.setF l (s.f l ||| 2 ^ (blk % 32))).modTile t fun x =>
      let x := { x with active := x.active &&& ~~~ (BitVec.ofNat 16384 ((2 ^ 64 - 1) * 2 ^ (64 * blk))),
                        work := x.work.filter fun w => w.quad / 16 != blk,
                        immq := x.immq.filter fun k => k / 64 != blk, immWait := x.immWait.filter fun k => k / 64 != blk }
      (List.range 16).foldl (fun x n =>
        match (x.thread n).touch with
        | some tc => if !tc.service && tc.quad / 16 == blk then x.dropTouch n else x
        | none => x) x

/-- The neuron's block is disabled (R386). -/
def State.blockOff (s : State) (t i : Nat) : Bool := decide (i < 16384) && bitAt (s.f (TILE_NDIS t (i / 64 / 32))) (i / 64 % 32)

/-- Blocks that the range of thread `n` lies in. -/
def State.thrBlocks (s : State) (t n : Nat) : List Nat :=
  if s.thrCount t n = 0 then []
  else
    let b := s.thrBase t n / 64
    (List.range ((s.thrBase t n + s.thrCount t n - 1) / 64 + 1 - b)).map (b + ·)

/-- Every neuron of the thread's range is in a disabled block. -/
def State.threadOff (s : State) (t n : Nat) : Bool := (s.thrBlocks t n).all fun b => s.blockOff t (64 * b)

/-- What an uncorrectable word switches off (R385). -/
def State.contain (s : State) (t : Nat) : Contain → State
  | .nullDesc e => s.setSynW t e (putBits (s.synW t e) 63 62 3)
  | .routeMap a =>
    if s.retiredWord t 0 (a / 8) then s
    else (State.stN 4 s (synBase t + a) (putBits (s.ldN 4 (synBase t + a)) 15 15 0)).freshBytes t 0 (a / 8) (15 * 2 ^ (a % 8))
  | .template => s
  | .block i => s.disableBlock t i
  | .program n =>
    if s.serviceThread t n then
      s.modTile t fun x =>
        let x := x.dropTouch n
        { x.setThread n { x.thread n with stopped := true } with svc := x.svc.filter (· != n) }
    else (s.thrBlocks t n).foldl (fun s b => s.disableBlock t (64 * b)) s
  | .none => s

/-- An uncorrectable error (R385): reported, counted, logged and contained. -/
def State.uncorrectable (s : State) (t m port mask w : Nat) (c : Contain) : State :=
  ((((s.raise .tile t 0).raise .clu (clusterOf t) 10).inc (TILE_PAR_UNCORR t)).parLog t 3 m port mask w).contain t c

/-! ## Paths of correction (R381, R382) -/

/-- How a failing word is corrected (R381). -/
inductive ParPath | clear | firmware (pool : Bool) | refetch | fail
deriving DecidableEq, Repr

/-- Words of the plastic area, of its delta area and of the promotion pool, by TILE_PL_* and TILE_PROMO_CFG (R142, R153, R309). -/
def State.inPlastic (s : State) (t w : Nat) : Bool :=
  let b := s.f (TILE_PL_AREA_BASE t)
  decide (b ≤ w) && decide (w < b + s.f (TILE_PL_AREA_WORDS t))

def State.inDelta (s : State) (t w : Nat) : Bool :=
  let b := s.f (TILE_PL_DELTA_DBASE t) * 8
  decide (b ≤ w) && decide (w < b + ceilDiv (s.f (TILE_PL_AREA_WORDS t) * perWord (s.f (TILE_PL_AREA_FMT t))) 8)

/-- Slot size of the promotion pool in words (R153, R161). -/
def State.slotSize (s : State) (t : Nat) : Nat := 2 ^ (4 + min 6 (s.f (TILE_PROMO_CFG_SLOT_SHIFT t)))

/-- First word of the promotion pool; bits below the slot size are ignored (R161). -/
def State.poolBase (s : State) (t : Nat) : Nat := s.f (TILE_PROMO_CFG_BASE t) / s.slotSize t * s.slotSize t

def State.inPool (s : State) (t w : Nat) : Bool :=
  s.b (TILE_PROMO_CFG_EN t) && decide (s.poolBase t ≤ w) && decide (w < s.poolBase t + 16 * s.slotSize t)

def State.parPath (s : State) (t m w : Nat) : ParPath :=
  match m with
  | 0 =>
    if s.inDelta t w then .clear
    else if s.inPlastic t w then .firmware false
    else if s.inPool t w then .firmware true
    else if s.b (TILE_PAR_IMG_VALID t) then .refetch else .fail
  | 3 =>
    let b := s.f (TILE_PAR_SCRATCH_BASE t) * 16
    if b ≤ w ∧ w < b + s.f (TILE_PAR_SCRATCH_LEN t) * 16 then .fail
    else if s.b (TILE_PAR_IMG_VALID t) then .refetch else .fail
  | _ => .fail

/-- Address of the word's copy in the staged image, and SIZE of its refetch (R382). -/
def State.imageAt (s : State) (t m w : Nat) : Nat × Nat :=
  let base := s.f (TILE_PAR_IMG_BASE t) * 65536
  if m = 0 then (base + 8 * w, 1) else (base + 0x40000 + 4 * w, 0)

/-! ## Holds (R381, R382, R384) -/

/-- Change the holds of a tile. -/
def State.modHolds (s : State) (t : Nat) (g : Hold → Option Hold) : State :=
  s.modTile t fun x => { x with holds := x.holds.filterMap g }

/-- The word is held (R381). -/
def State.heldWord (s : State) (t m w : Nat) : Bool := (s.tile t).holds.any fun h => h.mem == m && h.word == w && !h.failed

/-- Drop the hold of a word. -/
def State.release (s : State) (t m w : Nat) : State :=
  s.modHolds t fun h => if h.mem = m ∧ h.word = w ∧ !h.failed then none else some h

/-- TAG of a tile's refetches: the buffer kept for them alone (R264, R382). DESIGN CHOICE: the spec gives no value (notes/assumptions/128.md). -/
def tagREFETCH : Nat := 0x5F

/-- The tile issues the READ_REQ of its waiting refetch, one at a time (R382); without room at its router it is tried again later. -/
def State.refetchPump (s : State) (t : Nat) : State :=
  if (s.tile t).holds.any Hold.outstanding then s
  else
    match (s.tile t).holds.find? fun h => !h.fw && !h.failed && !h.issued with
    | none => s
    | some h =>
      let (a, size) := s.imageAt t h.mem h.word
      let put := fun (s : State) (h' : Hold) => s.modHolds t fun x => if x = h then some h' else some x
      match s.request iENGINE t .loc tagREFETCH size (s.chipId * 2 ^ 38 + a) none with
      | .done s st => put s { h with issued := true, rsp := some (st.code.toNat, []) }
      | .sent s => put s { h with issued := true }
      | .wait => s

/-- The reply of the refetch reaches its tile; after the hold has ended it is discarded. -/
def State.refetchRsp (s : State) (t st : Nat) (d : List (BitVec 64)) : State :=
  s.modHolds t fun h =>
    if h.outstanding then (if h.failed ∧ h.waits = [] then none else some { h with rsp := some (st, d) }) else some h

/-- Hold a word for correction. The firmware path records it in TILE_PAR_PEND and raises REFETCH_REQ, unless another firmware-path
word is held already (R384); the hardware path has one refetch outstanding per tile (R382). -/
def State.holdWord (s : State) (t m w port mask : Nat) (c : Contain) (fw pool : Bool) : State :=
  if (s.tile t).holds.any (fun h => h.fw == fw && !h.failed) then s
  else
    let s := s.modTile t fun x => { x with holds := x.holds ++ [{ mem := m, word := w, mask := mask, waits := [(port, c)], fw := fw }] }
    if fw then
      (((s.setF (TILE_PAR_PEND_VALID t) 1).setF (TILE_PAR_PEND_POOL t) (bn pool)).setF (TILE_PAR_PEND_WORD t) w).raise
        .clu (clusterOf t) 12
    else s.refetchPump t

/-- TILE_PAR_PEND after its hold has ended. -/
def State.pendClear (s : State) (t : Nat) (fw : Bool) : State := if fw then s.setF (TILE_PAR_PEND_VALID t) 0 else s

/-- The access reads the word again after its failure: what it contains changes nothing that it looks at first. -/
def Contain.rereads : Contain → Bool
  | .none => true
  | .template => true
  | _ => false

/-- A hold whose word could not be corrected (R384, R385): one uncorrectable error, contained for every access that waits. Those that
read the word again go on, each once, as accesses that met an uncorrectable word. -/
def State.failHold (s : State) (t : Nat) (h : Hold) : State :=
  let s := (s.release t h.mem h.word).pendClear t h.fw
  let first := h.waits.headD (3, .none)
  let s := s.uncorrectable t h.mem first.1 h.mask h.word first.2
  let s := (h.waits.drop 1).foldl (fun s w => s.contain t w.2) s
  let left := h.waits.filter fun w => w.2.rereads
  if left = [] ∧ !h.outstanding then s
  else s.modTile t fun x => { x with holds := x.holds ++ [{ h with failed := true, waits := left }] }

/-! ## Checked reads (R379–R386) -/

/-- How the read of one word comes out: good, to be waited for, or uncorrectable. -/
inductive WordRead
  | good (s : State)
  | wait (s : State)
  | bad (s : State)

/-- Bytes of its word that an access reads: an entry of the route map is half a word (R107). -/
def Contain.cover : Contain → Nat
  | .routeMap a => 15 * 2 ^ (a % 8)
  | _ => 0xFF

/-- Read the bytes `cover` of word `w` of memory `m` through `port`; `c`: what its failure contains. -/
def State.wordCheck (s : State) (t m port w cover : Nat) (c : Contain) : WordRead :=
  if s.retiredWord t m w then .good s
  else if s.heldWord t m w then
    .wait ((s.modHolds t fun h =>
      if h.mem = m ∧ h.word = w ∧ !h.failed ∧ !h.waits.contains (port, c) then some { h with waits := h.waits ++ [(port, c)] }
      else some h).refetchPump t)
  else if (s.tile t).holds.any fun h => h.mem == m && h.word == w && h.failed && h.waits.contains (port, c) then
    .bad s
  else
    let mask := s.badMask t m w &&& cover
    if mask = 0 then .good s
    else
      match s.parPath t m w with
      | .clear => .good ((s.setSynW t w 0).corrected t 2 m port mask w)
      | .firmware pool => .wait (s.holdWord t m w port mask c true pool)
      | .refetch => .wait (s.holdWord t m w port mask c false false)
      | .fail => .bad (s.uncorrectable t m port mask w c)

/-- An access that waited goes on as one that met an uncorrectable word, once. -/
def State.wordTook (s : State) (t m port w : Nat) (c : Contain) : State :=
  s.modHolds t fun h =>
    if h.mem = m ∧ h.word = w ∧ h.failed then
      (if h.waits.erase (port, c) = [] ∧ !h.outstanding then none else some { h with waits := h.waits.erase (port, c) })
    else some h

/-- Nothing in the tile has failed its parity. -/
def State.parClean (s : State) (t : Nat) : Bool := (s.tile t).bad.isEmpty && (s.tile t).holds.isEmpty

/-- Read `words` of memory `m` through `port`, then go on with `k`. A failing word is cleared, held (the work waits and is tried
again after the hold), or contained, in which case `ko` takes the place of `k` (R381–R385). -/
def State.checked (s : State) (t m port : Nat) (words : List Nat) (c : Contain) (k ko : State → State) : State :=
  if s.parClean t then k s
  else
    let rec go : List Nat → State → State
      | [], s => k s
      | w :: ws, s =>
        match s.wordCheck t m port w c.cover c with
        | .good s => go ws s
        | .wait s => s
        | .bad s => ko (s.wordTook t m port w c)
    go words s

/-- Each word of a list (memory, word, containment) is looked at in turn; false: one of them is held, and the work waits. -/
def State.readWords (s : State) (t port : Nat) : List (Nat × Nat × Contain) → State × Bool
  | [] => (s, true)
  | (m, w, c) :: ws =>
    match s.wordCheck t m port w c.cover c with
    | .good s => s.readWords t port ws
    | .wait s => (s, false)
    | .bad s => s.readWords t port ws

/-- Each word of a list is read; those that are uncorrectable are contained, and the rest go on. False: one of them is held, and the work
waits, to read them all again. -/
def State.readEach (s : State) (t port : Nat) (ws : List (Nat × Nat × Contain)) : State × Bool :=
  if s.parClean t then (s, true)
  else
    let (s, ok) := s.readWords t port ws
    if ok then (ws.foldl (fun s w => s.wordTook t w.1 port w.2.1 w.2.2) s, true) else (s, false)

/-! ## Cluster shared memory (R391, R392) -/

/-- Ports of a shared memory (R401): the control core, the hod controller, the cold-fetch engine, the mortar, repointing. -/
def pCORE : Nat := 0
def pCOLD : Nat := 2
def pMORTAR : Nat := 3
def pREPOINT : Nat := 4

/-- Bank of a shared-memory offset. -/
def shmBank (off : Nat) : Nat := off / 0x40000

/-- The bank of an offset is retired. -/
def State.shmRetired (s : State) (c off : Nat) : Bool := bitAt (s.f (CLU_RETIRE_BANK_BANK c)) (shmBank off)

/-- A shared-memory parity error is logged if it is the first, counted and raised (R391). -/
def State.shmError (s : State) (c port w : Nat) : State :=
  let s := (s.inc (CLU_PAR_UNCORR c)).raise .clu c 10
  if s.b (CLU_PAR_LOG_VALID c) then s
  else (((s.setF (CLU_PAR_LOG_VALID c) 1).setF (CLU_PAR_LOG_PORT c) port).setF (CLU_PAR_LOG_BANK c) (w / 32768)).setF
    (CLU_PAR_LOG_WORD c) (w % 32768)

/-- Words of shared memory that `n` bytes touch, with the bytes covered. -/
def shmWords (off n : Nat) : List (Nat × Nat) :=
  (List.range ((off % 8 + n + 7) / 8)).map fun i =>
    (off / 8 + i, ((List.range 8).filter fun b => decide (off % 8 ≤ i * 8 + b) && decide (i * 8 + b < off % 8 + n)).foldl
      (fun a b => a + 2 ^ b) 0)

/-- The first word of the read that fails its parity. -/
def State.shmBad (s : State) (c off n : Nat) : Option Nat :=
  if (s.cluster c).bad = [] then none
  else ((shmWords off n).find? fun w => (Map.get 0 (s.cluster c).bad w.1).toNat &&& w.2 != 0).map Prod.fst

/-- Bytes written make their parity good (R379). -/
def State.shmFresh (s : State) (c off n : Nat) : State :=
  if (s.cluster c).bad = [] then s
  else (shmWords off n).foldl (fun s w => s.modCluster c fun x =>
    { x with bad := Map.set 0 x.bad w.1 (Map.get 0 x.bad w.1 &&& ~~~ (BitVec.ofNat 8 w.2)) }) s

/-- A unit inside the cluster reads `n` bytes through a port (R391, R392): 0 from a retired bank; none where a byte fails its parity. -/
def State.shmLoad (s : State) (c off n port : Nat) : State × Option Nat :=
  if s.shmRetired c off then (s, some 0)
  else
    match s.shmBad c off n with
    | some w => (s.shmError c port w, none)
    | none => (s, some (s.ldN n (shmBase c + off)))

/-- A unit inside the cluster writes `n` bytes; a retired bank discards them (R392). -/
def State.shmStore (s : State) (c off n v : Nat) : State :=
  if s.shmRetired c off then s else (State.stN n s (shmBase c + off) v).shmFresh c off n

end Sys2Proof.Machine
end

