-- ==== Sys2Proof/Machine/Stats.lean ====
section
/-! DEFINITION. The tile's conversions with their clip counters, the clusters' MSE probes, and the draws from TILE_LFSR
(spec/02_narrow_arithmetic.md R47–R74). -/

namespace Sys2Proof.Machine
open Sys2Proof

/-! ## The random register -/

/-- Byte a lane's `k`-th rounding of a touch draws: byte `j` of the register after `k` advances (R48). -/
def State.drawByte (s : State) (t j k : Nat) : Nat := lfsrByte (lfsrAdv k (s.f (TILE_LFSR t))) j

/-- Advance the tile's register by `k` drawing cycles (R47). -/
def State.lfsrAdvance (s : State) (t k : Nat) : State := if k = 0 then s else s.setF (TILE_LFSR t) (lfsrAdv k (s.f (TILE_LFSR t)))

/-- A single draw of the plasticity unit: byte 0, then one advance (R47, R48). -/
def State.drawOne (s : State) (t : Nat) : Nat × State := (s.drawByte t 0 0, s.lfsrAdvance t 1)

/-- A write of TILE_LFSR (R50, R67): taken while EN = 0; with EN = 1 a write that would change the state is rejected (R569). -/
def State.lfsrWrite (s : State) (t v : Nat) : State :=
  if !s.en .tile t then s.setF (TILE_LFSR t) (if v = 0 then 1 else v)
  else if s.f (TILE_LFSR t) = v then s
  else s.cfgReject .tile t 0x484

/-- TILE_LFSR_WRITE (R50). -/
def execTileLfsrWrite (t : BitVec 10) (v : BitVec 32) (s : State) : Out :=
  .next (if s.tileUp t.toNat then s.lfsrWrite t.toNat v.toNat else s)

/-! ## Probes (R62, R63, R73, R74) -/

def Cluster.probe (x : Cluster) : Nat → Probe
  | 0 => x.p0
  | 1 => x.p1
  | 2 => x.p2
  | _ => x.p3

def Cluster.setProbe (x : Cluster) (k : Nat) (p : Probe) : Cluster :=
  match k with
  | 0 => { x with p0 := p }
  | 1 => { x with p1 := p }
  | 2 => { x with p2 := p }
  | _ => { x with p3 := p }

/-- Add a measured error to a probe (R62, R63). -/
def Probe.measure (p : Probe) (e8 : Int) : Probe :=
  if p.count = 0xFFFFFFFF then p
  else
    let sum := p.sum + e8.natAbs * e8.natAbs
    { p with sum := min sum (2 ^ 48 - 1), sat := p.sat || decide (2 ^ 48 - 1 ≤ sum), count := p.count + 1,
             emax := max p.emax e8.natAbs }

/-- Tile sites of the rescale unit (R51). -/
inductive Site | mulsh | psum
deriving DecidableEq, Repr

/-- The site selection of a probe takes in a site (R73). -/
def siteMatches (sel : Nat) : Site → Bool
  | .mulsh => sel == 0 || sel == 1
  | .psum => sel == 0 || sel == 2

/-- The probes attached to a thread and site measure a conversion (R62). -/
def State.probes (s : State) (t n : Nat) (site : Site) (e8 : Int) : State :=
  let c := clusterOf t
  (List.range 4).foldl (fun s k =>
    let p := (s.cluster c).probe k
    if s.b (CLU_MSE_CFG_ARM c k) && p.tile == localIdx t && p.thread == n && siteMatches p.site site && s.tileUp t then
      s.modCluster c fun x => x.setProbe k (p.measure e8)
    else s) s

/-- CLU_MSE_ARM (R73): a write to CLU_MSEk_CFG. -/
def State.mseWrite (s : State) (c k v : Nat) : State :=
  let was := s.b (CLU_MSE_CFG_ARM c k)
  let s := ((s.setF (CLU_MSE_CFG_SITE c k) (bits v 17 16)).setF (CLU_MSE_CFG_TILE c k) (bits v 13 8)).setF
    (CLU_MSE_CFG_THREAD c k) (bits v 3 0)
  let s := s.setF (CLU_MSE_CFG_ARM c k) (bits v 31 31)
  if bitAt v 31 && !was then
    s.modCluster c fun x => x.setProbe k { tile := bits v 13 8, site := bits v 17 16, thread := bits v 3 0 }
  else s

def execCluMseArm (c : BitVec 4) (k : BitVec 2) (v : BitVec 32) (s : State) : Out :=
  .next (if s.domOn (dCLU c.toNat) then s.mseWrite c.toNat k.toNat v.toNat else s)

/-- A read of SUM_LO (R74): the live sum, and the snapshots latched. -/
def State.mseSumLo (s : State) (c k : Nat) : State :=
  let p := (s.cluster c).probe k
  ((((s.setF (CLU_MSE_SUM_LO c k) (p.sum % 2 ^ 32)).setF (CLU_MSE_SUM_HI_SUM_HI c k) (p.sum / 2 ^ 32)).setF
    (CLU_MSE_SUM_HI_SAT c k) (if p.sat then 1 else 0)).setF (CLU_MSE_COUNT c k) p.count).setF (CLU_MSE_ERRMAX_ERR_MAX c k) p.emax

def execCluMseSumLoRead (c : BitVec 4) (k : BitVec 2) (s : State) : Out :=
  .next (if s.domOn (dCLU c.toNat) then s.mseSumLo c.toNat k.toNat else s)

/-! ## Conversions (R53–R60) -/

/-- Count a conversion of thread `n` (R59); at 0xFFFF_FFFF both counters stop (R60). -/
def State.countConv (s : State) (t n : Nat) (clipped : Bool) : State :=
  if s.f (TILE_CONV t n) = 0xFFFFFFFF then s
  else
    let s := s.inc (TILE_CONV t n)
    if clipped then s.inc (TILE_CLIP t n) else s

/-- (m, s) of a thread at a site. -/
def State.scaleOf (s : State) (t n : Nat) : Site → Nat × Nat
  | .mulsh => (s.f (TILE_RSC_OUT_M t n), s.f (TILE_RSC_OUT_S t n))
  | .psum => (s.f (TILE_RSC_PSUM_M t n), s.f (TILE_RSC_PSUM_S t n))

/-- A conversion of thread `n` at a tile site, counted and measured (R51–R62). -/
def State.convert (s : State) (t n : Nat) (site : Site) (x lo hi : Int) : State × Int :=
  if bitAt (s.f (TILE_RSC_TBL_TBL_MODE t)) n then
    let c := rescaleTable x (s.thread t n).thr lo hi
    (s.countConv t n c.clipped, c.y)
  else
    let (m, sh) := s.scaleOf t n site
    let c := rescale x m sh lo hi
    ((s.countConv t n c.clipped).probes t n site (convError c m sh), c.y)

/-- Words of program memory that hold the thresholds of thread `n` (R55). -/
def State.thrWords (s : State) (t n : Nat) : List Nat :=
  (List.range 15).map fun i => ((s.f (TILE_RSC_TBL_BASE t) * 64 + n * 64) % 32768 / 4 + i) % 8192

/-- Load the thresholds of thread `n` into its comparators (R55, R56). -/
def State.loadThr (s : State) (t n : Nat) : State :=
  s.modThread t n fun th => { th with thr := (s.thrWords t n).map fun w => sgn 24 (s.prog t w) }

/-- TILE_STAT_CLR (R60, R70). -/
def State.statClr (s : State) (t v : Nat) : State :=
  (setBits 16 v).foldl (fun s n => (s.setF (TILE_CONV t n) 0).setF (TILE_CLIP t n) 0) s

def execTileStatClr (t : BitVec 10) (v : BitVec 16) (s : State) : Out :=
  .next (if s.tileUp t.toNat then s.statClr t.toNat v.toNat else s)

/-- TILE_CONV_READ (R61): the read latches TILE_CLIPn into TILE_CLIP_SNAP. -/
def State.convRead (s : State) (t n : Nat) : State := s.setF (TILE_CLIP_SNAP t) (s.f (TILE_CLIP t n))

def execTileConvRead (t : BitVec 10) (n : BitVec 4) (s : State) : Out :=
  .next (if s.tileUp t.toNat then s.convRead t.toNat n.toNat else s)

end Sys2Proof.Machine
end

