-- ==== Sys2Proof/Machine/Neuron.lean ====
section
/-! DEFINITION. The neuron word, lazy leak, firing, the built-in models and the rebase pass (spec/03_neuron_tile.md R96–R103,
R117; spec/05_neuron_programs.md R171, R176–R178; spec/08_learning_and_kiln.md R278, R279). -/

namespace Sys2Proof.Machine
open Sys2Proof

/-! ## Words -/

/-- Upper half of a word, signed: M16 of a first word (R96), the state of a second word (R176). -/
def m16 (w : Nat) : Int := sgn 16 (bits w 31 16)
def withM16 (w : Nat) (v : Int) : Nat := putBits w 31 16 (wrap 16 v)
def t4 (w : Nat) : Nat := bits w 15 12
def rfOf (w : Nat) : Nat := bits w 11 8
def lsOf (w : Nat) : Nat := bits w 7 0

/-- Clamp to the range of M16. -/
def clamp16 (v : Int) : Int := clampI (-32768) 32767 v

/-- Round a value with 15 fractional bits, ties towards +∞ (R100). -/
def rnd15 (x : Int) : Int := asr (x + 0x4000) 15

/-- θ of a thread: 0 acts as 1 (R102). -/
def State.theta (s : State) (t n : Nat) : Int := max 1 (s.f (TILE_FIRE_THETA t n))

/-- Index of the second word of neuron index `i` of thread `n` (R97). -/
def State.secondWord (s : State) (t n i : Nat) : Nat := s.thrBase t n + s.thrCount t n + (i - s.thrBase t n)

/-- Count a clamp of M16 (R42, R100). -/
def State.memSat (s : State) (t : Nat) (v : Int) : State := if clamp16 v = v then s else s.inc (TILE_MEM_SAT t)

/-! ## Lazy leak (R99, R100) -/

/-- Word of program memory that holds entry `delta` of the decay table at `base` × 1 KiB. -/
def decayEntry (base delta : Nat) : Nat := (base * 256 + delta) % 8192

/-- Idle time of a word at a step. -/
def idle (w stouch : Nat) : Nat := (stouch % 256 + 256 - lsOf w) % 256

/-- What DECAY gives: the word, whether it drew a byte, and the membrane before its clamp. -/
structure Decayed where
  word : Nat
  drew : Bool
  m : Int
deriving DecidableEq, Repr

/-- R100 with idle time `delta`, the step the work is for, and the byte the lane draws. -/
def State.decayBy (s : State) (t n w delta stouch byte : Nat) : Decayed :=
  if delta = 0 then { word := putBits w 7 0 stouch, drew := false, m := m16 w }
  else
    let w1 := putBits w 11 8 (rfOf w - delta)
    if s.b (TILE_DECAY_EN t n) then
      let e := s.prog t (decayEntry (s.f (TILE_DECAY_BASE t n)) delta)
      let m := rnd15 (m16 w * bits e 31 16)
      let tr := clampI 0 15 (srnd ((t4 w : Int) * bits e 15 8) 8 byte)
      { word := putBits (putBits (withM16 w1 (clamp16 m)) 15 12 tr.toNat) 7 0 stouch, drew := true, m := m }
    else { word := putBits w1 7 0 stouch, drew := false, m := m16 w }

/-! ## Emission and the post trace (R102, R110, R278) -/

/-- The neuron emits payload `k` with step `semit`: FIRED, TILE_FIRED and the emitter queue. -/
def State.emit (s : State) (t i k semit : Nat) : State :=
  (s.modTile t fun x =>
    { x with fired := bmSet x.fired i true, emitq := x.emitq ++ [{ neuron := i, payload := k, step := semit % 256 }] }).incRec (TILE_FIRED t) (0x08 + clusterOf t)

/-- The thread's post traces rise at emissions (R278). -/
def State.postEn (s : State) (t n : Nat) : Bool := bitAt (s.f (TILE_PL_TRACE_POST_EN t)) n

/-- R278: the raise of a first word for payload `k` with the drawn byte. -/
def State.raisePost (s : State) (t w k byte : Nat) : Nat :=
  putBits w 15 12 (clampI 0 15 (srnd ((t4 w * 256 + s.f (TILE_PL_TRACE_TINC_POST t) * k * 16 : Nat) : Int) 8 byte)).toNat

/-- Set PENDING of a neuron. -/
def State.setPend (s : State) (t i : Nat) : State := s.modTile t fun x => { x with pend := bmSet x.pend i true }

/-- R102 on a compared value: its value after, the payload (0: none), whether PENDING is set, whether OVERDRIVE counts. -/
structure Fired where
  v : Int
  k : Nat
  pend : Bool
  overd : Bool
deriving DecidableEq, Repr

def fireOn (gated graded : Bool) (theta v : Int) : Fired :=
  if gated then { v := v, k := 0, pend := decide (theta ≤ v), overd := false }
  else if v < theta then { v := v, k := 0, pend := false, overd := false }
  else
    let k := if graded then min 15 (v / theta).toNat else 1
    let v' := v - k * theta
    { v := v', k := k, pend := decide (theta ≤ v'), overd := decide (theta ≤ v') }

/-- FIRE is suppressed: a sweep touch, a refractory neuron, one that has fired (R101–R103). -/
def State.gated (s : State) (t i rf : Nat) (sweep : Bool) : Bool := sweep || decide (0 < rf) || bmGet (s.tile t).fired i

/-! ## A lane of a built-in touch -/

/-- A lane at work: the state, its draws so far, and whether the touch has set PENDING. -/
structure LaneRun where
  s : State
  draws : Nat := 0
  pend : Bool := false
deriving DecidableEq, Repr

/-- The lane's next byte (R48): byte `j` after as many advances as it has drawn. -/
def LaneRun.byte (r : LaneRun) (t j : Nat) : Nat := r.s.drawByte t j r.draws

/-- The lane fires with a payload: emission, REFRAC and the post raise on the word (R102, R278). -/
def LaneRun.emit (r : LaneRun) (t n j i w k semit : Nat) : LaneRun × Nat :=
  let w := putBits w 11 8 (r.s.f (TILE_FIRE_REFRAC t n))
  let r' := { r with s := r.s.emit t i k semit }
  if r.s.postEn t n then ({ r' with draws := r.draws + 1 }, r.s.raisePost t w k (r.byte t j)) else (r', w)

/-- R102 applied to the value `v` of a neuron whose first word is `w`; answers the value and the word after. -/
def LaneRun.fire (r : LaneRun) (t n j i w : Nat) (v : Int) (sweep : Bool) (semit : Nat) : LaneRun × Int × Nat :=
  let f := fireOn (r.s.gated t i (rfOf w) sweep) (r.s.b (TILE_FIRE_GRADED t n)) (r.s.theta t n) v
  let r := { r with pend := r.pend || f.pend, s := if f.overd then r.s.inc (TILE_OVERDRIVE t) else r.s }
  if f.k = 0 then (r, f.v, w)
  else
    let (r, w) := r.emit t n j i w f.k semit
    (r, f.v, w)

/-- Word `w` of the parameter block lies at this word of program memory (R177). -/
def State.paramAt (s : State) (t n w : Nat) : Nat := (s.f (TILE_THR_PROG_PARAM t n) * 4 + w) % 8192

/-- Word `w` of the parameter block (R177). -/
def State.param (s : State) (t n w : Nat) : Nat := s.prog t (s.paramAt t n w)

/-- A second-word state after entry `delta` of a decay table, DM only; unchanged for 0 (R178). -/
def State.leak2 (s : State) (t base delta : Nat) (v : Int) : Int :=
  if delta = 0 then v else clamp16 (rnd15 (v * bits (s.prog t (decayEntry base delta)) 31 16))

/-- Fold with saturation counted (R42). -/
def LaneRun.fold (r : LaneRun) (t : Nat) (v : Int) : LaneRun × Int := ({ r with s := r.s.memSat t v }, clamp16 v)

/-- Adaptive LIF (R178): first word, second-word value, accumulator, idle time. -/
def LaneRun.alif (r : LaneRun) (t n j i w : Nat) (a : Int) (acc : Int) (delta : Nat) (sweep : Bool) (semit : Nat) :
    LaneRun × Nat × Int :=
  let p0 := r.s.param t n 0
  let a := r.s.leak2 t (bits p0 4 0) delta a
  let (r, m) := r.fold t (m16 w + acc)
  let before := (r.s.tile t).emitq.length
  let (r, v, w) := r.fire t n j i w (m - a) sweep semit
  let a' := if before < (r.s.tile t).emitq.length then min 32767 (a + bits p0 31 16) else a
  (r, withM16 w (v + a), a')

/-- Resonate-and-fire (R178). -/
def LaneRun.resonate (r : LaneRun) (t n j i w : Nat) (v : Int) (acc : Int) (sweep : Bool) (semit : Nat) : LaneRun × Nat × Int :=
  let p0 := r.s.param t n 0
  let qt : Int := bits (r.s.param t n 1) 14 0
  let c := sgn 16 (bits p0 31 16)
  let sn := sgn 16 (bits p0 15 0)
  let m := m16 w
  let (r, m2) := r.fold t (rnd15 (c * m - sn * v))
  let v2 := clamp16 (rnd15 (sn * m + c * v))
  let (r, mf) := r.fold t (m2 + acc)
  let (r, mf, w) := r.fire t n j i w mf sweep semit
  if qt < mf.natAbs ∨ qt < v2.natAbs then ({ r with pend := true }, withM16 w mf, v2) else (r, withM16 w 0, 0)

/-- Sigma-delta (R178). -/
def LaneRun.sigma (r : LaneRun) (t n j i w : Nat) (ref : Int) (acc : Int) (sweep : Bool) (semit : Nat) : LaneRun × Nat × Int :=
  let pol := bitAt (r.s.param t n 0) 0
  let (r, m) := r.fold t (m16 w + acc)
  let pos := max m 0
  let diff := fun (x : Int) => if pol then x - pos else pos - x
  let th := r.s.theta t n
  if diff ref < th then (r, withM16 w m, ref)
  else if r.s.gated t i (rfOf w) sweep then ({ r with pend := true }, withM16 w m, ref)
  else
    let (s', k) := r.s.convert t n .mulsh (diff ref) 1 15
    let r := { r with s := s' }
    let ref' := clamp16 (if pol then ref - k * th else ref + k * th)
    let (r, w) := r.emit t n j i w k.toNat semit
    if diff ref' < th then (r, withM16 w m, ref')
    else ({ r with pend := true, s := r.s.inc (TILE_OVERDRIVE t) }, withM16 w m, ref')

/-- Graded ReLU-like (R178). -/
def LaneRun.relu (r : LaneRun) (t n j i w : Nat) (acc : Int) (sweep : Bool) (semit : Nat) : LaneRun × Nat :=
  let (r, m) := r.fold t (m16 w + acc)
  if m ≤ 0 then (r, withM16 w 0)
  else
    let (s', k) := r.s.convert t n .mulsh m 0 15
    let r := { r with s := s' }
    if k < 1 ∨ r.s.gated t i (rfOf w) sweep then (r, withM16 w 0)
    else
      let (r, w) := r.emit t n j i w k.toNat semit
      (r, withM16 w 0)

/-- Two-compartment (R178). -/
def LaneRun.twoComp (r : LaneRun) (t n j i w : Nat) (d : Int) (acc : Int) (delta : Nat) (sweep : Bool) (semit : Nat) :
    LaneRun × Nat × Int :=
  let p0 := r.s.param t n 0
  let gu : Int := bits p0 31 16
  let gd : Int := bits p0 15 0
  let (r, m) := r.fold t (m16 w + acc)
  let d := r.s.leak2 t (bits (r.s.param t n 1) 4 0) delta d
  let d := clamp16 (rnd15 (d * 32768 + gd * m))
  let (r, m) := r.fold t (rnd15 (m * 32768 + gu * d))
  let (r, v, w) := r.fire t n j i w m sweep semit
  (r, withM16 w v, d)

/-- Clear accumulator and ACTIVE, and set PENDING as the touch leaves it (R98, R181). -/
def State.endNeuron (s : State) (t i : Nat) (pend : Bool) : State :=
  (s.setAcc t i 0).modTile t fun x => { x with active := bmSet x.active i false, pend := bmSet x.pend i pend }

/-- One lane of a built-in touch (R98, R176–R178): neuron `i` of thread `n`, whose work is for step `stouch`. Answers the draws. -/
def State.touchLane (s : State) (t n j i stouch semit : Nat) (sweep : Bool) : State × Nat :=
  let w0 := s.neu t i
  let delta := idle w0 stouch
  let dc := s.decayBy t n w0 delta stouch (s.drawByte t j 0)
  let r : LaneRun := { s := s.memSat t dc.m, draws := if dc.drew then 1 else 0 }
  let acc := if sweep then 0 else s.acc t i
  let i2 := s.secondWord t n i
  let w2 := s.neu t i2
  let two (p : LaneRun × Nat × Int) : LaneRun := { p.1 with s := (p.1.s.setNeu t i p.2.1).setNeu t i2 (withM16 w2 p.2.2) }
  let one (p : LaneRun × Nat) : LaneRun := { p.1 with s := p.1.s.setNeu t i p.2 }
  let r :=
    match s.f (TILE_THR_PROG_ENTRY t n) % 16 with
    | 0 =>
      let (r, m) := r.fold t (m16 dc.word + acc)
      let (r, v, w) := r.fire t n j i dc.word m sweep semit
      one (r, withM16 w v)
    | 1 => two (r.alif t n j i dc.word (m16 w2) acc delta sweep semit)
    | 2 => two (r.resonate t n j i dc.word (m16 w2) acc sweep semit)
    | 3 => two (r.sigma t n j i dc.word (m16 w2) acc sweep semit)
    | 4 => one (r.relu t n j i dc.word acc sweep semit)
    | _ => two (r.twoComp t n j i dc.word (m16 w2) acc delta sweep semit)
  (r.s.endNeuron t i r.pend, r.draws)

/-- Model number of a built-in thread; 6 to 15 are reserved (R176). -/
def State.model (s : State) (t n : Nat) : Nat := s.f (TILE_THR_PROG_ENTRY t n) % 16

/-! ## Faults (R193–R195) -/

/-- The thread is marked faulted. -/
def State.faulted (s : State) (t n : Nat) : Bool := s.b (TILE_THR_PROG_FAULT t n)

/-- A thread faults: FAULT and FCODE, the cluster's report, its channels closed, and nothing more of its work (R193–R195, R468). -/
def State.threadFault (s : State) (t n code pc : Nat) : State :=
  let c := clusterOf t
  let s := (s.setF (TILE_THR_PROG_FAULT t n) 1).setF (TILE_THR_PROG_FCODE t n) code
  let s := s.modTile t fun x =>
    { x.dropTouch n with work := x.work.filter fun w => w.thread != n, svc := x.svc.filter (· != n) }
  let s := (s.hodCloseThread t (some n)).inc (CLU_THR_FAULTS c)
  if s.b (CLU_THR_FAULT_VALID c) then s
  else
    ((((s.setF (CLU_THR_FAULT_VALID c) 1).setF (CLU_THR_FAULT_FCODE c) code).setF (CLU_THR_FAULT_TILE c) (localIdx t)).setF
      (CLU_THR_FAULT_THREAD c) n).setF (CLU_THR_FAULT_PC c) pc |>.raise .clu c 8

/-! ## A quad of a built-in thread -/

/-- Lanes of a mask whose neurons are there and not in a disabled block (R386). -/
def State.liveLanes (s : State) (t q mask : Nat) : List Nat := (setBits 4 mask).filter fun j => !s.blockOff t (4 * q + j)

/-- Lanes of quad `q` in the range of thread `n`. -/
def State.rangeLanes (s : State) (t n q : Nat) : List Nat :=
  ([0, 1, 2, 3] : List Nat).filter fun j => decide (s.thrBase t n ≤ 4 * q + j) && decide (4 * q + j < s.thrBase t n + s.thrCount t n)

/-- Words of program memory that the decays of lanes read, for the idle times `k` of their neurons. -/
def State.decayReads (s : State) (t n : Nat) (ks : List Nat) : List (Nat × Nat × Contain) :=
  if s.b (TILE_DECAY_EN t n) then
    ks.filterMap fun k => if k = 0 then none else some (3, decayEntry (s.f (TILE_DECAY_BASE t n)) k, .program n)
  else []

/-- Words of neuron state and accumulators that a lane of a built-in touch reads (R97, R385). -/
def State.laneReads (s : State) (t n i : Nat) (sweep : Bool) : List (Nat × Nat × Contain) :=
  [(1, i, .block i)] ++ (if s.thrTwo t n then [(1, s.secondWord t n i, .block i)] else []) ++
    (if sweep then [] else [(2, i, .block i)])

/-- Words of program memory that the touch of a quad's lanes reads: decay entries, the parameter block, and the second word's decay
entries where the model leaks it (R99, R177, R178). -/
def State.tableReads (s : State) (t n q stouch : Nat) (lanes : List Nat) : List (Nat × Nat × Contain) :=
  let ks := lanes.map fun j => idle (s.neu t (4 * q + j)) stouch
  let par := fun (w : Nat) => ((3, s.paramAt t n w, .program n) : Nat × Nat × Contain)
  let leak := fun (w : Nat) => ks.filterMap fun k =>
    if k = 0 then none else some ((3, decayEntry (bits (s.prog t (s.paramAt t n w)) 4 0) k, .program n) : Nat × Nat × Contain)
  s.decayReads t n ks ++
    (if lanes = [] then []
     else match s.model t n with
      | 1 => par 0 :: leak 0
      | 2 => [par 0, par 1]
      | 3 => [par 0]
      | 5 => [par 0, par 1] ++ leak 1
      | _ => [])

/-- A quad of a built-in thread: `due` and `sweep` lanes (R101, R113); the LFSR advances once for each draw of the lane that
draws most (R48). False: the quad waits, for a held word (R381) or while the emitter queue has no room for what it fires (R110). The fault
of a reserved model shows ENTRY as its PC, a DESIGN CHOICE (notes/assumptions/130.md). -/
def State.builtinQuad (s : State) (t n q due sweep stouch semit : Nat) : State × Bool :=
  let live := fun (s : State) => s.liveLanes t q (due ||| sweep)
  let swept := fun (s : State) => s.add (TILE_SWEEP_TOUCH t) ((live s).filter fun j => bitAt sweep j).length
  if live s ≠ [] ∧ 6 ≤ s.model t n then ((swept s).threadFault t n 1 (s.f (TILE_THR_PROG_ENTRY t n)), true)
  else
    let (s, _) := s.readEach t 1 ((live s).flatMap fun j => s.laneReads t n (4 * q + j) (bitAt sweep j))
    let (s, ok) := s.readEach t 1 (s.tableReads t n q stouch (live s))
    if !ok then (s, false)
    else
      let r := (live s).foldl (fun (r : State × Nat) j =>
        let (s, k) := r.1.touchLane t n j (4 * q + j) stouch semit (bitAt sweep j)
        (s, max r.2 k)) (swept s, 0)
      let s' := r.1.lfsrAdvance t r.2
      if 32 < (s'.tile t).emitq.length then (s, false) else (s', true)

/-! ## The rebase pass (R117) -/

/-- Idle time of a neuron in the rebase pass, `e` steps after the stop (R117). -/
def State.rebaseIdle (s : State) (t i e : Nat) : Nat := min 255 (e + (s.f (TILE_STOP_LO t) % 256 + 256 - lsOf (s.neu t i)) % 256)

/-- One neuron of the rebase pass, `e` steps after the stop. -/
def State.rebaseNeuron (s : State) (t n i e : Nat) : State :=
  let w := s.neu t i
  let dc := s.decayBy t n w (s.rebaseIdle t i e) (s.tile t).step.toNat (s.drawByte t (i % 4) 0)
  let s := (s.memSat t dc.m).setNeu t i dc.word
  if s.theta t n ≤ m16 dc.word then s.setPend t i else s

/-- One quad of the rebase pass of thread `n`: its lanes draw from one state of the register. False: it waits for a held word. -/
def State.rebaseQuad (s : State) (t n q e : Nat) : State × Bool :=
  let live := fun (s : State) => (s.rangeLanes t n q).filter fun j => decide (4 * q + j < 16384) && !s.blockOff t (4 * q + j)
  let (s, _) := s.readEach t 1 ((live s).map fun j => (1, 4 * q + j, .block (4 * q + j)))
  let (s, ok) := s.readEach t 1 (s.decayReads t n ((live s).map fun j => s.rebaseIdle t (4 * q + j) e))
  if !ok then (s, false)
  else
    let drew := (live s).any fun j => s.b (TILE_DECAY_EN t n) && s.rebaseIdle t (4 * q + j) e != 0
    (((live s).foldl (fun s j => s.rebaseNeuron t n (4 * q + j) e) s).lfsrAdvance t (if drew then 1 else 0), true)

/-- Factor TD[min(d, 15)] of a tile (R279, R310). -/
def State.td (s : State) (t d : Nat) : Nat :=
  let k := min d 15
  s.f ⟨(TILE_PL_TDECAY t (k / 4)).addr, 8 * (k % 4) + 7, 8 * (k % 4)⟩

/-- A trace decayed to the step it is used in, with 8 fractional bits (R279). -/
def State.trace8 (s : State) (t tr d : Nat) : Nat := if d = 0 then tr * 256 else tr * s.td t d

/-- Directory entry `i` (R276); an entry never written reads 0x0000_FFFF (R311). -/
def Tile.dirAt (x : Tile) (i : Nat) : BitVec 32 := Map.get 0x0000FFFF x.dir i
def Tile.setDir (x : Tile) (i : Nat) (v : BitVec 32) : Tile := { x with dir := Map.set 0x0000FFFF x.dir i v }

/-- A directory entry from its fields (R276). -/
def dirWord (pre ls pinc axon : Nat) : BitVec 32 :=
  BitVec.ofNat 32 ((pre % 16) * 2 ^ 28 + (ls % 256) * 2 ^ 20 + (pinc % 16) * 2 ^ 16 + axon % 65536)

/-- One directory entry of the rebase pass (R117): its roundings take distinct bytes of one state of the register (R48; which roundings share
a cycle is a DESIGN CHOICE, notes/assumptions/126.md). -/
def State.rebaseDir (s : State) (t i e : Nat) : State :=
  let v := ((s.tile t).dirAt i).toNat
  if bits v 15 0 = 0xFFFF then s
  else
    let inc := decide (bits v 19 16 ≠ 0)
    let pre := if inc then
        (clampI 0 15 (srnd ((bits v 31 28 * 256 + s.f (TILE_PL_TRACE_TINC_PRE t) * bits v 19 16 * 16 : Nat) : Int) 8
          (s.drawByte t 0 0))).toNat
      else bits v 31 28
    let d := e + (s.f (TILE_STOP_LO t) % 256 + 256 - bits v 27 20) % 256
    let pre := if d ≠ 0 then (clampI 0 15 (srnd ((pre * s.td t d : Nat) : Int) 8 (s.drawByte t (bn inc) 0))).toNat else pre
    (s.lfsrAdvance t (if inc ∨ d ≠ 0 then 1 else 0)).modTile t fun x => x.setDir i (dirWord pre (x.step.toNat % 256) 0 (bits v 15 0))

/-- The quads that the rebase pass touches: those of every neuron of every bound thread, in order. -/
def State.rebaseQuads (s : State) (t : Nat) : List (Nat × Nat) :=
  (List.range 16).flatMap fun n =>
    if s.neuronThread t n then
      let q0 := s.thrBase t n / 4
      (List.range ((s.thrBase t n + s.thrCount t n - 1) / 4 + 1 - q0)).map fun k => (n, q0 + k)
    else []

/-- The rebase pass over the quads left, then the directory (R117). Where it meets a held word it stops, to go on there. -/
def State.rebaseFrom (t e : Nat) : List (Nat × Nat) → State → State
  | [], s => ((s.tile t).dir.foldl (fun s p => s.rebaseDir t p.1 e) s).modTile t fun x => { x with rebasing := none }
  | p :: r, s =>
    let (s, ok) := s.rebaseQuad t p.1 p.2 e
    if ok then State.rebaseFrom t e r s else s.modTile t fun x => { x with rebasing := some (p.1 * 8192 + p.2) }

/-- The rebase pass for `e` steps, from place `k` (R117). -/
def State.rebase (s : State) (t e k : Nat) : State :=
  State.rebaseFrom t e ((s.rebaseQuads t).filter fun p => decide (k ≤ p.1 * 8192 + p.2)) s

end Sys2Proof.Machine
end

