-- ==== Sys2Proof/Machine/Synapse.lean ====
section
/-! DEFINITION. The axon stage, the synapse engine and the cold-fetch engine (spec/03_neuron_tile.md R84–R93,
spec/04_synapse_store.md R130–R153). -/

namespace Sys2Proof.Machine
open Sys2Proof

/-! ## Row descriptors -/

/-- A row descriptor (R85). -/
structure Desc where
  kind : Nat
  fmt : Nat
  cold : Bool
  plastic : Bool
  thread : Nat
  tbase : Nat
  len : Nat
  tail : Nat
  addr : Nat
deriving DecidableEq, Repr

/-- Read a descriptor word; LEN 0 means 1,024. -/
def Desc.ofWord (w : Nat) : Desc :=
  { kind := bits w 63 62, fmt := bits w 61 59, cold := bitAt w 58, plastic := bitAt w 57, thread := bits w 56 53,
    tbase := bits w 52 39, len := if bits w 38 29 = 0 then 1024 else bits w 38 29, tail := bits w 28 23, addr := bits w 22 0 }

/-- Kernel slots K and log2 K that KSLOTS selects (R84, R123). -/
def kslots (code : Nat) : Nat × Nat :=
  match code with
  | 1 => (1, 0)
  | 2 => (2, 1)
  | 3 => (4, 2)
  | 4 => (8, 3)
  | _ => (0, 0)

/-- Where an axon index leads (R84): its entry, and for a kernel index its slot and position. -/
structure AxonRef where
  entry : Nat
  kernel : Option (Nat × Nat) := none
deriving DecidableEq, Repr

/-- Decode an axon index; none where R86 finds the index itself a miss. -/
def axonDecode (code dcount a : Nat) : Option AxonRef :=
  let (k, lg) := kslots code
  if k = 0 ∨ a < 0x8000 then (if a < dcount then some { entry := a } else none)
  else
    let w := 15 - lg
    some { entry := dcount + (a - 0x8000) / 2 ^ w, kernel := some ((a - 0x8000) / 2 ^ w, (a - 0x8000) % 2 ^ w) }

/-- The tile's decode of an axon index, with the word of synapse memory its entry takes; an entry outside synapse memory misses. -/
def State.axonRef (s : State) (t a : Nat) : Option (AxonRef × Nat) :=
  (axonDecode (s.f (TILE_AXON_CFG_KSLOTS t)) (s.f (TILE_AXON_CFG_DIRECT_COUNT t)) a).bind fun r =>
    let w := s.f (TILE_AXON_CFG_BASE t) * 8 + r.entry
    if w < 32768 then some (r, w) else none

/-- KW and KH of a slot: 0 acts as 1 (R159). -/
def State.kw (s : State) (t k : Nat) : Nat := max 1 (s.f (TILE_KSLOT_GEOM_KW t k))
def State.kh (s : State) (t k : Nat) : Nat := max 1 (s.f (TILE_KSLOT_GEOM_KH t k))

/-- Words a resident row takes: a kernel row's span (R137), LEN otherwise. -/
def State.rowExtent (s : State) (t : Nat) (r : AxonRef) (d : Desc) : Nat :=
  match d.kind, r.kernel with
  | 2, some (k, _) => 2 ^ s.f (TILE_KSLOT_GEOM_CB t k) * s.kh t k * s.kw t k * d.len
  | _, _ => d.len

/-- Synapses one word of the row holds: four entries of a sparse word (R133). -/
def Desc.perWord (d : Desc) : Nat := if d.kind = 1 then 4 else Sys2Proof.Machine.perWord d.fmt

/-- The cases of R86 that the descriptor decides; a null descriptor makes no use of its other fields (R139). -/
def State.rowMiss (s : State) (t : Nat) (r : AxonRef) (d : Desc) : Bool :=
  if d.kind = 3 then false
  else
    (weightBits d.fmt).isNone || (d.kind == 1 && d.fmt != 0) || (d.kind == 2 && (d.cold || d.plastic)) ||
      (d.kind == 2 && r.kernel.isNone) || decide (d.perWord ≤ d.tail) ||
      (!d.cold && decide (32768 < d.addr + s.rowExtent t r d))

/-! ## Contributions -/

/-- Contributions of a dense row (R87): (target, product), in order. `word v` is the row's v-th word. -/
def denseContribs (d : Desc) (word : Nat → Nat) (payload : Nat) : List (Nat × Int) :=
  let w := perWord d.fmt
  (List.range (d.len * w - d.tail)).map fun i => (d.tbase + i, product d.fmt (synapseBits d.fmt (word (i / w)) (i % w)) payload)

/-- Contributions of a sparse row (R133, R134). -/
def sparseContribs (d : Desc) (word : Nat → Nat) (payload : Nat) : List (Nat × Int) :=
  (List.range (d.len * 4 - d.tail)).map fun i =>
    let e := word (i / 4) / 2 ^ (16 * (i % 4)) % 65536
    (d.tbase + e % 4096, sgn 4 (e / 4096) * payload)

/-- The taps of a kernel event that contribute (R136): kernel group and output position (ox, oy). -/
def kernelHits (kw kh sx sy ow oh x y c : Nat) : List (Nat × Nat × Nat) :=
  (List.range kh).flatMap fun ky =>
    (List.range kw).filterMap fun kx =>
      if x < kx ∨ y < ky then none
      else if (x - kx) % sx ≠ 0 ∨ (y - ky) % sy ≠ 0 then none
      else if ow ≤ (x - kx) / sx ∨ oh ≤ (y - ky) / sy then none
      else some ((c * kh + ky) * kw + kx, (x - kx) / sx, (y - ky) / sy)

/-- OW and OH of a slot: 0 acts as 128 (R159). -/
def State.kow (s : State) (t k : Nat) : Nat := if s.f (TILE_KSLOT_OUT_OW t k) = 0 then 128 else s.f (TILE_KSLOT_OUT_OW t k)
def State.koh (s : State) (t k : Nat) : Nat := if s.f (TILE_KSLOT_OUT_OH t k) = 0 then 128 else s.f (TILE_KSLOT_OUT_OH t k)

/-- The taps that contribute to a kernel event of slot `k` at position `p` (R135, R136). -/
def State.kernelTaps (s : State) (t k p : Nat) : List (Nat × Nat × Nat) :=
  let xb := s.f (TILE_KSLOT_GEOM_XB t k)
  let yb := s.f (TILE_KSLOT_GEOM_YB t k)
  let x := p % 2 ^ xb
  let y := p / 2 ^ xb % 2 ^ yb
  let c := p / 2 ^ (xb + yb) % 2 ^ s.f (TILE_KSLOT_GEOM_CB t k)
  kernelHits (s.kw t k) (s.kh t k) (s.f (TILE_KSLOT_GEOM_SX t k) + 1) (s.f (TILE_KSLOT_GEOM_SY t k) + 1) (s.kow t k) (s.koh t k) x y c

/-- Output channels of a kernel row (R137). -/
def Desc.channels (d : Desc) : Nat := min 64 (d.len * Sys2Proof.Machine.perWord d.fmt - d.tail)

/-- Contributions of a kernel event of slot `k` at position `p` (R135–R137). -/
def State.kernelContribs (s : State) (t k p : Nat) (d : Desc) (word : Nat → Nat) (payload : Nat) : List (Nat × Int) :=
  let w := perWord d.fmt
  (s.kernelTaps t k p).flatMap fun (g, ox, oy) =>
    (List.range d.channels).map fun o =>
      (d.tbase + (oy * s.kow t k + ox) * d.channels + o,
        product d.fmt (synapseBits d.fmt (word (g * d.len + o / w)) (o % w)) payload)

/-- The contributions of a row. -/
def State.contribs (s : State) (t : Nat) (r : AxonRef) (d : Desc) (word : Nat → Nat) (payload : Nat) : List (Nat × Int) :=
  match d.kind with
  | 0 => denseContribs d word payload
  | 1 => sparseContribs d word payload
  | 2 =>
    match r.kernel with
    | some (k, p) => s.kernelContribs t k p d word payload
    | none => []
  | _ => []

/-- Add one contribution to an accumulator (R41, R88, R90); one to a disabled block, or to an accumulator whose word disables its block,
is discarded (R385, R386). -/
def State.contribute (s : State) (t i : Nat) (v : Int) : State :=
  if 16383 < i then (s.inc (TILE_TARGET_OOR t)).raise .tile t 3
  else if s.blockOff t i then s.inc (TILE_PAR_DISCARD t)
  else
    s.checked t 2 0 [i] (.block i)
      (fun s =>
        let s := if guardRefuses (s.acc t i) then s.inc (TILE_ACC_REFUSED t) else s.setAcc t i (s.acc t i + v)
        s.modTile t fun x => { x with active := bmSet x.active i true })
      (fun s => s.inc (TILE_PAR_DISCARD t))

/-- Queue immediate touches (R105): an index already queued is not added again; what finds no room waits. -/
def State.queueImm (s : State) (t : Nat) (is : List Nat) : State :=
  s.modTile t fun x =>
    is.foldl (fun x i =>
      if x.immq.contains i || x.immWait.contains i then x
      else if x.immq.length < 32 ∧ x.immWait = [] then { x with immq := x.immq ++ [i] }
      else { x with immWait := x.immWait ++ [i] }) x

/-- Stream a row's contributions, then queue the immediate touches of an immediate-fire thread (R87, R90, R105). -/
def State.stream (s : State) (t thread : Nat) (cs : List (Nat × Int)) : State :=
  let s := cs.foldl (fun s c => s.contribute t c.1 c.2) s
  if s.b (TILE_FIRE_IMM t thread) then
    s.queueImm t ((cs.map Prod.fst).filter fun i => decide (i ≤ 16383) && !s.blockOff t i)
  else s

/-- Words of a resident row that the event reads: of a kernel row, those of the taps that contribute. -/
def State.rowWords (s : State) (t : Nat) (r : AxonRef) (d : Desc) : List Nat :=
  match d.kind, r.kernel with
  | 2, some (k, p) =>
    (s.kernelTaps t k p).flatMap fun h => (List.range (ceilDiv d.channels (perWord d.fmt))).map fun v => d.addr + h.1 * d.len + v
  | _, _ => (List.range d.len).map (d.addr + ·)

/-- R141: the row takes learning deltas. -/
def State.isPlastic (s : State) (t : Nat) (d : Desc) : Bool :=
  (s.tile t).plOk && d.plastic && d.kind == 0 && !d.cold && decide (d.fmt ≤ 3) && d.fmt == s.f (TILE_PL_AREA_FMT t) &&
    decide (s.f (TILE_PL_AREA_BASE t) ≤ d.addr) &&
    decide (d.addr + d.len ≤ s.f (TILE_PL_AREA_BASE t) + s.f (TILE_PL_AREA_WORDS t))

/-- Slot counter of the promotion pool for a resident row at `addr` (R153). -/
def State.promoHit (s : State) (t : Nat) (d : Desc) : State :=
  if s.b (TILE_PROMO_CFG_EN t) ∧ d.kind ≠ 2 then
    let b := s.poolBase t
    let k := (d.addr - b) / s.slotSize t
    if b ≤ d.addr ∧ k < 16 ∧ b + (k + 1) * s.slotSize t ≤ 32768 then
      let l : Loc := ⟨(TILE_PROMO_HIT t (k / 4)).addr, 8 * (k % 4) + 7, 8 * (k % 4)⟩
      s.inc l
    else s
  else s

/-- Remove the head entry of the half the axon stage works on. -/
def State.popEntry (s : State) (t : Nat) : State :=
  let p := s.curParity t
  s.modTile t fun x => x.setHalf p ((x.half p).drop 1)

/-- The axon misses (R86). -/
def State.axonMiss (s : State) (t : Nat) : State := (s.inc (TILE_AXON_MISS t)).raise .tile t 4

/-- The synapse engine stalls because touches of a finished row wait for room (R105). DESIGN CHOICE: not in DRAIN, where no immediate
touch runs and RUN touches the same neurons (log entry 112). -/
def State.immStall (s : State) (t : Nat) : Bool := s.phase t != 1 && (s.tile t).immWait != []

/-- The axon stage and synapse engine may take an entry: OPEN or DRAIN, not stalled and not stopped (R93, R105, R113, R116). -/
def State.canTake (s : State) (t : Nat) : Bool := s.en .tile t && (s.phase t == 0 || s.phase t == 1) && !s.immStall t

/-- Cold fetches of the tile: rows waiting in the cluster engine and rows admitted whose fetch is not yet over (R93). -/
def State.coldOut (s : State) (t : Nat) : Nat :=
  let c := s.cluster (clusterOf t)
  (c.waiting.filter fun w => w.tile == localIdx t).length +
    (c.fetches.filter fun g => g.row.tile == localIdx t && !g.stale).length

/-- A modulator spike (R281): the thread it names. -/
def State.modThreadOf (s : State) (t a : Nat) : Option Nat :=
  if s.b (TILE_PL_MODAX_EN t) ∧ s.f (TILE_PL_MODAX_BASE t) ≤ a ∧ a < s.f (TILE_PL_MODAX_BASE t) + 16 then
    some (a - s.f (TILE_PL_MODAX_BASE t)) else none

/-- The recorded modulator of thread `n` (R281, R309). -/
def modLoc (t n : Nat) : Loc :=
  if n < 8 then ⟨(TILE_PL_MOD0 t).addr, 4 * n + 3, 4 * n⟩ else ⟨(TILE_PL_MOD1 t).addr, 4 * (n - 8) + 3, 4 * (n - 8)⟩

/-- A row event once its descriptor is accepted: cold rows go to the cluster, resident rows are streamed. -/
def State.rowEvent (s : State) (t axon payload : Nat) (r : AxonRef) (w word : Nat) (d : Desc) : State :=
  let pl := s.isPlastic t d
  if d.cold then
    if 8 ≤ s.coldOut t then s
    else
      let s := if d.plastic then s.inc (TILE_PLASTIC_IGN t) else s
      (s.modCluster (clusterOf t) fun x =>
        { x with waiting := x.waiting ++
          [{ tile := localIdx t, entry := w, axon := axon, payload := payload, desc := BitVec.ofNat 64 word }] }).popEntry t
  else if pl ∧ 64 ≤ (s.tile t).plq.length then s
  else
    s.checked t 0 0 (s.rowWords t r d) (.nullDesc w)
      (fun s =>
        let s := s.promoHit t d
        let s := if d.plastic && !pl then s.inc (TILE_PLASTIC_IGN t) else s
        let s := if pl then
            s.modTile t fun x => { x with plq := x.plq ++ [{ axon := axon, payload := payload, desc := BitVec.ofNat 64 word }] }
          else s
        (s.stream t d.thread (s.contribs t r d (fun v => s.synW t (d.addr + v)) payload)).popEntry t)
      (fun s => s.popEntry t)

/-- A spike entry at the head of the working half (R84–R93). -/
def State.spikeEvent (s : State) (t axon payload : Nat) : State :=
  match s.modThreadOf t axon with
  | some n => (s.setF (modLoc t n) (wrap 4 ((payload : Int) - 8))).popEntry t
  | none =>
    match s.axonRef t axon with
    | none => (s.axonMiss t).popEntry t
    | some (r, w) =>
      s.checked t 0 0 [w] (.nullDesc w)
        (fun s =>
          let d := Desc.ofWord (s.synW t w)
          if d.kind = 3 then s.popEntry t
          else if s.rowMiss t r d then (s.axonMiss t).popEntry t
          else s.rowEvent t axon payload r w (s.synW t w) d)
        (fun s => s.popEntry t)

/-- SYNAPSE_EVENT (R92): the axon stage takes the spike at the head of the working half. -/
def execSynapseEvent (t : BitVec 10) (s : State) : Out :=
  .next (
    let t := t.toNat
    if s.canTake t then
      match (s.tile t).half (s.curParity t) with
      | .spike axon payload _ :: _ => s.spikeEvent t axon payload
      | _ => s
    else s)

/-- A PSUM entry (R91): converted with the owning thread's scale and added under the guard. -/
def State.psumEvent (s : State) (t neuron : Nat) (sum : Int) : State :=
  match s.ownerThread t neuron with
  | none => ((s.inc (TILE_TARGET_OOR t)).raise .tile t 3).popEntry t
  | some n =>
    let (s, v) := s.convert t n .psum sum (-262144) 262143
    (s.stream t n [(neuron, v)]).popEntry t

/-- PSUM_ENTRY (R91). -/
def execPsumEntry (t : BitVec 10) (s : State) : Out :=
  .next (
    let t := t.toNat
    if s.canTake t then
      match (s.tile t).half (s.curParity t) with
      | .psum neuron sum :: _ => s.psumEvent t neuron sum
      | _ => s
    else s)

/-! ## The cold-fetch engine (R144–R152) -/

/-- Units of a row (R144). -/
def coldUnits (desc : BitVec 64) : Nat := ceilDiv (Desc.ofWord desc.toNat).len 16

/-- MAX_OUT as it acts (R165). -/
def State.maxOut (s : State) (c : Nat) : Nat :=
  let m := s.f (CLU_COLD_CFG_MAX_OUT c)
  if m = 0 then 1 else min 128 m

/-- The next row considered: the oldest of the first tile after the last one admitted that has one waiting (R145). -/
def Cluster.nextRow (x : Cluster) : Option ColdRow :=
  ((List.range 64).map fun k => (x.lastTile + 1 + k) % 64).findSome? fun i => x.waiting.find? fun w => w.tile == i

/-- Shared-memory offset of hit-table entry `i` (R150). -/
def State.hitOff (s : State) (c i : Nat) : Nat := (s.f (CLU_COLD_HIT_CFG_HBASE c) * 65536 + 2 * i) % 0x400000

/-- Entries of the hit table. -/
def State.hitSize (s : State) (c : Nat) : Nat := 2 ^ (10 + s.f (CLU_COLD_HIT_CFG_HSIZE c))

/-- Count a fetch in the hit table (R150). An entry that fails its parity is left as it is (R391; notes/assumptions/129.md). -/
def State.hitCount (s : State) (c addr : Nat) : State :=
  if s.b (CLU_COLD_HIT_CFG_HIT_EN c) then
    let o := s.hitOff c (addr / 2 ^ s.f (CLU_COLD_HIT_CFG_HSHIFT c) % s.hitSize c)
    match s.shmLoad c o 2 pCOLD with
    | (s, some n) => if n = 65535 then s.inc (CLU_COLD_HIT_SAT c) else s.shmStore c o 2 (n + 1)
    | (s, none) => s
  else s

/-! ### Reads of the units (R145, R240, R264)

A cluster may have 512 reads outstanding, four for each of 128 units. Read `p` of them leaves and returns at one of the four centre routers,
with a TAG of its own there: a DESIGN CHOICE, since the spec gives the engine neither routers nor TAG values (notes/assumptions/128.md). -/

/-- Router of a read. -/
def coldRouter (c p : Nat) : Nat := centreRouter c (p / 128 * 0x100000)

/-- TAG of a read: 0x10 to 0x5E, 0x90 to 0xC0. -/
def coldTag (p : Nat) : Nat := if p % 128 < 79 then 0x10 + p % 128 else 0x90 + (p % 128 - 79)

/-- The read that a reply at router `r` with a TAG answers: its cluster and its place. -/
def coldPlace (r tag : Nat) : Option (Nat × Nat) :=
  ((List.range 4).find? fun k => coldRouter (clusterOf r) (128 * k) == r).bind fun k =>
    if 0x10 ≤ tag ∧ tag ≤ 0x5E then some (clusterOf r, 128 * k + (tag - 0x10))
    else if 0x90 ≤ tag ∧ tag ≤ 0xC0 then some (clusterOf r, 128 * k + 79 + (tag - 0x90)) else none

/-- Places of reads that are in use. -/
def Cluster.coldBusy (x : Cluster) : List Nat := x.fetches.flatMap fun g => g.reqs.map ColdReq.place

/-- The reads of a row of `u` units, at the lowest free places. -/
def Cluster.coldReqs (x : Cluster) (u : Nat) : List ColdReq :=
  ((((List.range 512).filter fun p => !x.coldBusy.contains p).take (4 * u)).zipIdx).map fun q =>
    { unit := q.2 / 4, part := q.2 % 4, place := q.1 }

/-- The fetch with an id. -/
def Cluster.fetch? (x : Cluster) (id : Nat) : Option ColdFetch := x.fetches.find? fun g => g.id == id

/-- Replace a fetch; a stale one with nothing outstanding is over. -/
def Cluster.putFetch (x : Cluster) (g : ColdFetch) : Cluster :=
  { x with fetches := x.fetches.filterMap fun h =>
      if h.id = g.id then (if g.stale ∧ g.reqs = [] then none else some g) else some h }

/-- Remove a fetch. -/
def Cluster.dropFetch (x : Cluster) (id : Nat) : Cluster := { x with fetches := x.fetches.filter fun h => h.id != id }

/-- Local address of part `q.part` of unit `q.unit` of a row (R144, R240). -/
def State.coldAddr (s : State) (c : Nat) (row : ColdRow) (q : ColdReq) : Nat :=
  (s.f (CLU_COLD_BASE_BASE c) + (Desc.ofWord row.desc.toNat).addr + q.unit) * 128 + 32 * q.part

/-- Every part of unit `u` has its reply. -/
def ColdFetch.unitBack (g : ColdFetch) (u : Nat) : Bool :=
  (g.reqs.any fun q => q.unit == u) && g.reqs.all fun q => q.unit != u || q.rsp.isSome

/-- Unit `u` has returned with OK. -/
def ColdFetch.unitOk (g : ColdFetch) (u : Nat) : Bool :=
  g.reqs.all fun q => q.unit != u || (match q.rsp with | some (st, _) => st == 0 | none => false)

/-- The words of a unit that has returned, in order. -/
def ColdFetch.unitWords (g : ColdFetch) (u : Nat) : List Nat :=
  (List.range 4).flatMap fun k =>
    match g.reqs.find? fun q => q.unit == u && q.part == k with
    | some { rsp := some (_, d), .. } => d.map BitVec.toNat
    | _ => []

/-- Unit `u` is no longer outstanding: its share of MAX_OUT returns (R147, R168). -/
def State.unitOver (s : State) (c : Nat) (g : ColdFetch) (u : Nat) : State × ColdFetch :=
  (s.setF (CLU_COLD_OUT_UNITS c) (s.f (CLU_COLD_OUT_UNITS c) - 1), { g with reqs := g.reqs.filter fun q => q.unit != u })

/-- A read has its reply. A unit of a row that goes on, back with OK, is no longer outstanding. -/
def State.coldGot (s : State) (c p st : Nat) (d : List (BitVec 64)) : State :=
  match (s.cluster c).fetches.find? fun g => g.reqs.any fun q => q.place == p && q.rsp.isNone with
  | none => s
  | some g =>
    let g := { g with reqs := g.reqs.map fun (q : ColdReq) => if q.place = p then { q with issued := true, rsp := some (st, d) } else q }
    match g.reqs.find? fun q => q.place == p with
    | none => s
    | some q =>
      if !g.stale && g.unitBack q.unit && g.unitOk q.unit then
        let (s, g') := s.unitOver c g q.unit
        s.modCluster c fun x => x.putFetch { g' with units := g'.units ++ [(q.unit, g.unitWords q.unit)] }
      else s.modCluster c fun x => x.putFetch g

/-- A reply reaches a centre router with a TAG of the cold-fetch engine. -/
def State.coldRsp (s : State) (r tag st : Nat) (d : List (BitVec 64)) : State :=
  match coldPlace r tag with
  | some (c, p) => s.coldGot c p st d
  | none => s

/-- The reads of a cluster that have not entered the mortar do so as far as there is room; one that is refused or leads nowhere has its
outcome at once (R23, R453). -/
def State.coldPump (s : State) (c : Nat) : State :=
  ((s.cluster c).fetches.flatMap fun g => (g.reqs.filter fun q => !q.issued).map fun q => (g, q)).foldl (fun (s : State) (gq : ColdFetch × ColdReq) =>
    let (g, q) := gq
    match s.request iENGINE (coldRouter c q.place) .loc (coldTag q.place) 3 (s.chipId * 2 ^ 38 + s.coldAddr c g.row q) none with
    | .done s st => s.coldGot c q.place st.code.toNat []
    | .sent s => s.modCluster c fun x =>
        { x with fetches := x.fetches.map fun h =>
            { h with reqs := h.reqs.map fun r => if r.place = q.place ∧ !r.issued then { r with issued := true } else r } }
    | .wait => s) s

/-- COLD_ADMIT (R145): the row considered, if it fits; then the reads that wait for room in the mortar. -/
def State.coldAdmit (s : State) (c : Nat) : State :=
  if !(s.domOn (dCLU c) && s.actv .clu c) then s
  else
    match (s.cluster c).nextRow with
    | none => s.coldPump c
    | some row =>
      let u := coldUnits row.desc
      let out := s.f (CLU_COLD_OUT_UNITS c)
      if out + u ≤ s.maxOut c ∨ out = 0 then
        let s := s.hitCount c (Desc.ofWord row.desc.toNat).addr
        let s := ((s.inc (CLU_COLD_FETCHES c)).add (CLU_COLD_UNITS c) u).setF (CLU_COLD_OUT_UNITS c) (out + u)
        (s.modCluster c fun x =>
          { x with waiting := x.waiting.erase row, lastTile := row.tile, nextId := x.nextId + 1,
                   fetches := x.fetches ++ [{ id := x.nextId, row := row, reqs := x.coldReqs u, time := s.tb.toNat }] }).coldPump c
      else s.coldPump c

def execColdAdmit (c : BitVec 4) (s : State) : Out := .next (s.coldAdmit c.toNat)

/-- The tile is told of a failed fetch (R93, R146). -/
def State.coldFailed (s : State) (c : Nat) (g : ColdFetch) : State :=
  let t := tileOf c g.row.tile
  (((s.inc (CLU_COLD_FAILS c)).inc (TILE_COLD_FAIL t)).raise .tile t 2)

/-- COLD_ROW_RETURN (R145): every unit has returned with OK; the row is handed over and streamed after the row in progress (R93). -/
def State.coldReturn (s : State) (c id : Nat) : State :=
  match (s.cluster c).fetch? id with
  | none => s
  | some g =>
    let t := tileOf c g.row.tile
    if g.stale ∨ g.reqs ≠ [] ∨ s.immStall t then s
    else
      let d := Desc.ofWord g.row.desc.toNat
      let word := fun v => ((Map.get [] g.units (v / 16))[v % 16]?).getD 0
      let s := s.modCluster c fun x => x.dropFetch id
      let lat := min 65535 (s.tb.toNat - g.time)
      let s := s.setF (CLU_COLD_LAT_MAX_MAX c) (max lat (s.f (CLU_COLD_LAT_MAX_MAX c)))
      s.stream t d.thread (s.contribs t { entry := 0 } d word g.row.payload)

def execColdRowReturn (c : BitVec 4) (id : Nat) (s : State) : Out := .next (s.coldReturn c.toNat id)

/-- COLD_FETCH_FAIL (R146): a unit of the row is back with another outcome than OK; the row's other units become stale (R147). -/
def State.coldFail (s : State) (c id : Nat) : State :=
  match (s.cluster c).fetch? id with
  | none => s
  | some g =>
    match (g.reqs.map ColdReq.unit).find? fun u => g.unitBack u && !g.unitOk u with
    | none => s
    | some u =>
      if g.stale then s
      else
        let (s, g') := s.unitOver c g u
        (s.modCluster c fun x => x.putFetch { g' with stale := true }).coldFailed c g

def execColdFetchFail (c : BitVec 4) (id : Nat) (s : State) : Out := .next (s.coldFail c.toNat id)

/-- COLD_UNIT_TIMEOUT (R146): a unit of the row has had no reply for TIMEOUT; the row fails, and every unit stays outstanding as stale
until its reply comes (R147). -/
def State.coldTimeout (s : State) (c id : Nat) : State :=
  match (s.cluster c).fetch? id with
  | none => s
  | some g =>
    if g.stale ∨ !(g.reqs.any fun q => q.rsp.isNone) then s
    else ((s.modCluster c fun x => x.putFetch { g with stale := true }).coldFailed c g).inc (CLU_COLD_TIMEOUTS c)

def execColdUnitTimeout (c : BitVec 4) (id : Nat) (s : State) : Out := .next (s.coldTimeout c.toNat id)

/-- COLD_STALE_REPLY (R147): a stale unit's reply is discarded and counted. -/
def State.coldStale (s : State) (c id : Nat) : State :=
  match (s.cluster c).fetch? id with
  | none => s
  | some g =>
    match (g.reqs.map ColdReq.unit).find? fun u => g.unitBack u with
    | none => s
    | some u =>
      if g.stale then
        let (s, g') := s.unitOver c g u
        (s.modCluster c fun x => x.putFetch g').inc (CLU_COLD_STALE c)
      else s

def execColdStaleReply (c : BitVec 4) (id : Nat) (s : State) : Out := .next (s.coldStale c.toNat id)

/-- Fetches become stale; those with nothing outstanding are over (R147). -/
def Cluster.staleFetches (x : Cluster) (sel : ColdFetch → Bool) : Cluster :=
  { x with fetches := x.fetches.filterMap fun (g : ColdFetch) =>
      if !sel g then some g else if g.reqs = [] then none else some { g with stale := true, units := [] } }

/-- The tile discards its cold fetches (R115, R147): waiting rows leave, admitted units become stale. Answers how many. -/
def State.coldDiscard (s : State) (t : Nat) : State × Nat :=
  let n := s.coldOut t
  (s.modCluster (clusterOf t) fun x =>
    { x with waiting := x.waiting.filter fun w => w.tile != localIdx t }.staleFetches fun g => g.row.tile == localIdx t, n)

/-- CLU_COLD_AGE (R152): GO halves every entry; BUSY reads 1 until CLU_COLD_AGE_DONE. -/
def State.coldAge (s : State) (c : Nat) : State :=
  if s.b (CLU_COLD_AGE_BUSY c) then s
  else
    ((List.range (s.hitSize c)).foldl (fun s i =>
      match s.shmLoad c (s.hitOff c i) 2 pCOLD with
      | (s, some n) => s.shmStore c (s.hitOff c i) 2 (n / 2)
      | (s, none) => s) s).setF (CLU_COLD_AGE_BUSY c) 1

def execCluColdAge (c : BitVec 4) (s : State) : Out :=
  .next (if s.domOn (dCLU c.toNat) then s.coldAge c.toNat else s)

/-- CLU_COLD_AGE_DONE (R152). -/
def execCluColdAgeDone (c : BitVec 4) (s : State) : Out :=
  .next (if s.domOn (dCLU c.toNat) then s.setF (CLU_COLD_AGE_BUSY c.toNat) 0 else s)

end Sys2Proof.Machine
end

