-- ==== Sys2Proof/Machine/Learning.lean ====
section
/-! DEFINITION. Learning: depression, potentiation, lifts, scale refinement and the commit, the directory and modulator registers
(spec/08_learning_and_kiln.md R276–R291, R306–R312). -/

namespace Sys2Proof.Machine
open Sys2Proof

/-! ## Geometry -/

/-- Synapses per word of the plastic format. -/
def State.plW (s : State) (t : Nat) : Nat := perWord (s.f (TILE_PL_AREA_FMT t))
def State.plBase (s : State) (t : Nat) : Nat := s.f (TILE_PL_AREA_BASE t)
def State.plWords (s : State) (t : Nat) : Nat := s.f (TILE_PL_AREA_WORDS t)

/-- Directory entries of the plastic area (R277). -/
def State.dirCount (s : State) (t : Nat) : Nat := ceilDiv (s.plWords t) (2 ^ s.f (TILE_PL_DELTA_PSHIFT t))

/-- Byte address of the delta of position `j` of plastic-area word `v` (R142). -/
def State.deltaAt (s : State) (t v j : Nat) : Nat := s.f (TILE_PL_DELTA_DBASE t) * 64 + v * s.plW t + j

/-- A delta, D8. -/
def State.delta (s : State) (t a : Nat) : Int :=
  if s.retiredWord t 0 (a / 8) then 0 else sgn 8 (s.ld8 (synBase t + a % 0x40000))

/-- Store a delta. -/
def State.setDelta (s : State) (t a : Nat) (v : Int) : State :=
  if s.retiredWord t 0 (a / 8) then s else (s.st8 (synBase t + a % 0x40000) (wrap 8 v)).freshBytes t 0 (a / 8) (2 ^ (a % 8))

/-- The plastic configuration passes R308 with a plastic area. -/
def State.plValid (s : State) (t : Nat) : Bool :=
  let fmt := s.f (TILE_PL_AREA_FMT t)
  let words := s.plWords t
  decide (fmt ≤ 3) && decide (words ≤ (match fmt with | 0 => 8192 | 1 => 6144 | _ => 4096)) &&
    decide (s.plBase t + words ≤ 32768) && decide (s.f (TILE_PL_DELTA_DBASE t) * 64 + words * s.plW t ≤ 262144) &&
    decide (s.dirCount t ≤ 1024)

/-- The check of R308 when the tile is enabled. -/
def State.plCheck (s : State) (t : Nat) : State :=
  let on := s.plWords t != 0
  let ok := on && s.plValid t
  (s.modTile t fun x => { x with plOk := ok }).setF (TILE_PL_STAT_CFG_ERR t) (if on && !ok then 1 else 0)

/-! ## Updates (R280, R281) -/

/-- Modulator of thread `n` in a word of sixteen. -/
def modOf (m : BitVec 64) (n : Nat) : Int := sgn 4 (m.toNat / 2 ^ (4 * n))

/-- The values last written or delivered to MOD0 and MOD1. -/
def State.modRegs (s : State) (t : Nat) : BitVec 64 :=
  BitVec.ofNat 64 ((s.rd (TILE_PL_MOD1 t).addr).toNat * 2 ^ 32 + (s.rd (TILE_PL_MOD0 t).addr).toNat)

/-- One update: delta address, factor, trace with 8 fractional bits, modulator. -/
structure Upd where
  addr : Nat
  a : Nat
  tr8 : Nat
  mod : Int

/-- Add one increment with a drawn byte (R45, R280). -/
def State.update (s : State) (t : Nat) (u : Upd) (byte : Nat) : State :=
  let v := s.delta t u.addr + srnd (asr (u.a * u.tr8 * u.mod) (s.f (TILE_PL_RULE_ETA t))) 8 byte
  let c := clampI (-128) 127 v
  let s := s.setDelta t u.addr c
  if c = v then s else s.inc (TILE_PL_DSAT t)

/-- Updates in ascending delta address, four aligned delta bytes a cycle (R48, R285): those of one cycle take distinct bytes of one
state of the register, also where they belong to two row words of W3, a DESIGN CHOICE (notes/assumptions/126.md). An update with no trace or
modulator draws nothing. -/
def State.updates (t : Nat) : List Upd → Option Nat → Nat → State → State
  | [], _, k, s => s.lfsrAdvance t (if k = 0 then 0 else 1)
  | u :: us, g, k, s =>
    if u.tr8 = 0 ∨ u.mod = 0 then State.updates t us g k s
    else if g = some (u.addr / 4) then State.updates t us g (k + 1) (s.update t u (s.drawByte t k 0))
    else
      let s := s.lfsrAdvance t (if k = 0 then 0 else 1)
      State.updates t us (some (u.addr / 4)) 1 (s.update t u (s.drawByte t 0 0))

/-- Synapses of a plastic row: delta address and target. -/
def State.plSynapses (s : State) (t : Nat) (d : Desc) : List (Nat × Nat) :=
  let w := s.plW t
  (List.range (d.len * w - d.tail)).map fun j =>
    (s.deltaAt t (d.addr - s.plBase t + j / w) (j % w), d.tbase + j)

/-- Delta words of a row, for the parity path that clears them (R381). -/
def State.deltaWords (s : State) (t : Nat) (d : Desc) : List Nat :=
  let a := s.deltaAt t (d.addr - s.plBase t) 0
  let b := s.deltaAt t (d.addr - s.plBase t + d.len) 0
  (List.range (b / 8 + 1 - a / 8)).map fun k => a / 8 + k

/-- First words of a plastic row's targets, whose traces an event reads (R282, R385). -/
def State.plReads (s : State) (t : Nat) (d : Desc) : List (Nat × Nat × Contain) :=
  if s.parClean t then []
  else ((s.plSynapses t d).map Prod.snd).filterMap fun i =>
    if 16383 < i || s.blockOff t i then none else some (1, i, .block i)

/-! ## Depression (R282) -/

/-- The step whose events the tile works on. -/
def State.workStep (s : State) (t : Nat) : Nat :=
  let p := s.phase t
  let v := (s.tile t).step.toNat
  if p = 1 ∨ p = 2 ∨ p = 3 then (v + 255) % 256 else v % 256

/-- One event on a plastic row. -/
def State.plEvent (s : State) (t : Nat) (e : PlEvent) : State :=
  let d := Desc.ofWord e.desc.toNat
  let s := s.inc (TILE_PL_EVENTS t)
  let i := (d.addr - s.plBase t) / 2 ^ s.f (TILE_PL_DELTA_PSHIFT t)
  let v := ((s.tile t).dirAt i).toNat
  if 1023 < i ∨ bits v 15 0 ≠ e.axon then s.inc (TILE_PL_DIRMISS t)
  else
    let s := s.modTile t fun x =>
      x.setDir i (dirWord (bits v 31 28) (bits v 27 20) (min 15 (bits v 19 16 + e.payload)) (bits v 15 0))
    let m := modOf (s.tile t).mod d.thread
    if m = 0 then s
    else
      let st := s.workStep t
      let (s, _) := s.readEach t 2 (s.plReads t d)
      s.checked t 0 2 (s.deltaWords t d) .none
        (fun s => State.updates t ((s.plSynapses t d).filterMap fun p =>
          if 16383 < p.2 || s.blockOff t p.2 then none
          else
            let w := s.neu t p.2
            some { addr := p.1, a := s.f (TILE_PL_RULE_A_MINUS t), tr8 := s.trace8 t (t4 w) ((st + 256 - lsOf w) % 256), mod := -m })
          none 0 s) id

/-- PLASTIC_EVENT (R282, R284): the plasticity unit takes its oldest event once the post pass of the last step has ended. -/
def execPlasticEvent (t : BitVec 10) (s : State) : Out :=
  .next (
    match (s.tile t.toNat).plq with
    | e :: rest =>
      if (s.tile t.toNat).passStep.isSome || s.phase t.toNat == 4 || !s.tileUp t.toNat then s
      else (s.modTile t.toNat fun x => { x with plq := rest }).plEvent t.toNat e
    | [] => s)

/-! ## Potentiation (R283) -/

/-- The row of directory entry `i`, where its descriptor passes the test of the post pass. -/
def State.passRow (s : State) (t i axon : Nat) : Option Desc :=
  match s.axonRef t axon with
  | some (r, w) =>
    let d := Desc.ofWord (s.synW t w)
    if r.kernel.isNone && s.isPlastic t d && d.addr == s.plBase t + i * 2 ^ s.f (TILE_PL_DELTA_PSHIFT t) then some d else none
  | none => none

/-- One directory entry of the post pass of step `st`. -/
def State.passEntry (s : State) (t i st : Nat) : State :=
  let v := ((s.tile t).dirAt i).toNat
  let axon := bits v 15 0
  if axon = 0xFFFF then s
  else
    let d := (st + 256 - bits v 27 20) % 256
    let p8 := s.trace8 t (bits v 31 28) d
    let pinc := bits v 19 16
    let r : State × Nat :=
      if pinc ≠ 0 ∨ 128 ≤ d then
        let (byte, s) := s.drawOne t
        let pre := (clampI 0 15 (srnd ((p8 + s.f (TILE_PL_TRACE_TINC_PRE t) * pinc * 16 : Nat) : Int) 8 byte)).toNat
        (s.modTile t fun x => x.setDir i (dirWord pre (st % 256) 0 axon), pre * 256)
      else (s, p8)
    let s := r.1
    if r.2 = 0 then s
    else
      match s.passRow t i axon with
      | none => s
      | some d =>
        let m := modOf (s.tile t).modPost d.thread
        if m = 0 then s
        else
          s.checked t 0 2 (s.deltaWords t d) .none
            (fun s => State.updates t ((s.plSynapses t d).filterMap fun p =>
              if 16383 < p.2 || !bmGet (s.tile t).post p.2 then none
              else some { addr := p.1, a := s.f (TILE_PL_RULE_A_PLUS t), tr8 := r.2, mod := m }) none 0 s) id

/-- Descriptor words that the post pass reads: of the entries in use whose trace is not 0 (R283, R385). -/
def State.passReads (s : State) (t : Nat) : List (Nat × Nat × Contain) :=
  if s.parClean t then []
  else (s.tile t).dir.filterMap fun p =>
    let v := p.2.toNat
    if s.dirCount t ≤ p.1 ∨ bits v 15 0 = 0xFFFF ∨ (bits v 31 28 = 0 ∧ bits v 19 16 = 0) then none
    else (s.axonRef t (bits v 15 0)).map fun r => (0, r.2, .nullDesc r.2)

/-- The post pass of step `st`, over the entries in use; it waits while a descriptor it needs is held. -/
def State.postPass (s : State) (t st : Nat) : State :=
  let (s, ok) := s.readEach t 2 (s.passReads t)
  if !ok then s
  else
    let n := s.dirCount t
    let s := ((s.tile t).dir.filter fun p => decide (p.1 < n)).foldl (fun s p => s.passEntry t p.1 st) s
    s.modTile t fun x => { x with passStep := none }

/-- POST_PASS (R283). -/
def execPostPass (t : BitVec 10) (s : State) : Out :=
  .next (
    match (s.tile t.toNat).passStep with
    | some st => if (s.phase t.toNat == 0 || s.phase t.toNat == 1) && s.tileUp t.toNat then s.postPass t.toNat st else s
    | none => s)

/-! ## Scale refinement (R291) -/

/-- while 0 < m < 128 and s < 23: m = 2m, s = s + 1. -/
def normScale : Nat → Nat → Nat → Nat × Nat
  | 0, m, s => (m, s)
  | n + 1, m, s => if 0 < m ∧ m < 128 ∧ s < 23 then normScale n (2 * m) (s + 1) else (m, s)

/-- One change of a scale (m, s) by `dir`. -/
def refineScale (up : Bool) (m s : Nat) : Nat × Nat :=
  let s := effShift s
  let k := (m + 15) / 16
  let m := if up then m + k else m - k
  let p : Nat × Nat := if 255 < m then (if 0 < s then ((m + 1) / 2, s - 1) else (255, s)) else (m, s)
  normScale 23 p.1 p.2

/-- Refine one site register of a thread. -/
def State.refineSite (s : State) (t : Nat) (lm ls : Loc) (up : Bool) : State :=
  let p := refineScale up (s.f lm) (s.f ls)
  ((s.setF lm p.1).setF ls p.2).inc (TILE_PL_REFINED t)

/-- Refine one thread. -/
def State.refineThread (s : State) (t n : Nat) : State :=
  let conv := s.f (TILE_CONV t n)
  let clip := s.f (TILE_CLIP t n)
  let target := s.f (TILE_PL_REFINE_TARGET t)
  let s :=
    if bitAt (s.f (TILE_RSC_TBL_TBL_MODE t)) n ∨ conv < 2 ^ s.f (TILE_PL_REFINE_MINC t) then s
    else
      let down := decide (conv * target * 2 < clip * 65536)
      let up := decide (clip * 131072 < conv * target)
      if !down && !up then s
      else
        let s := if s.b (TILE_PL_REFINE_OUT t) then s.refineSite t (TILE_RSC_OUT_M t n) (TILE_RSC_OUT_S t n) (!down) else s
        if s.b (TILE_PL_REFINE_PSUM t) then s.refineSite t (TILE_RSC_PSUM_M t n) (TILE_RSC_PSUM_S t n) (!down) else s
  (s.setF (TILE_CONV t n) 0).setF (TILE_CLIP t n) 0

/-- The refinement of a COMMIT phase; answers how many threads it refined. -/
def State.refine (s : State) (t : Nat) : State × Nat :=
  let ns := setBits 16 (s.f (TILE_PL_REFINE_EN t))
  (ns.foldl (fun s n => s.refineThread t n) s, ns.length)

/-! ## The commit (R288) -/

/-- Commit the deltas of word `v`: its synapses from `j` on, with the aligned group of four delta bytes that draws from the present state of
the register and how many of it have drawn (as in `State.updates`; notes/assumptions/126.md), and whether a weight has changed. -/
def State.commitSyn (t v : Nat) : Nat → Nat → Option Nat → Nat → Nat → Bool → State → State × Nat × Bool
  | 0, _, _, k, word, ch, s => (s.lfsrAdvance t (if k = 0 then 0 else 1), word, ch)
  | n + 1, j, g, k, word, ch, s =>
    let fmt := s.f (TILE_PL_AREA_FMT t)
    let a := s.deltaAt t v j
    let d := s.delta t a
    if d = 0 then State.commitSyn t v n (j + 1) g k word ch s
    else
      let cs := s.f (TILE_PL_RULE_CSHIFT t)
      let next := decide (cs ≠ 0) && g != some (a / 4)
      let s := s.lfsrAdvance t (if next && k != 0 then 1 else 0)
      let k := if next then 0 else k
      let c := if cs = 0 then d else srnd d cs (s.drawByte t k 0)
      let b := (weightBits fmt).getD 4
      let old := weightVal fmt (synapseBits fmt word j)
      let new := clampI (weightRange fmt).1 (weightRange fmt).2 (old + c)
      let word := putBits word (b * j + b - 1) (b * j) (weightPattern fmt new)
      State.commitSyn t v n (j + 1) (if cs = 0 then g else some (a / 4)) (if cs = 0 then k else k + 1) word (ch || decide (new ≠ old))
        (s.setDelta t a 0)

/-- The word a commit writes: a W3 word's bit 63 as 0, each WT pattern 0b10 as 0b00. -/
def commitWord (fmt word : Nat) : Nat :=
  match fmt with
  | 1 => word % 2 ^ 63
  | 3 => (List.range 32).foldl (fun w j => if bits w (2 * j + 1) (2 * j) = 2 then putBits w (2 * j + 1) (2 * j) 0 else w) word
  | _ => word

/-- Commit word `v` of the plastic area. A word left uncorrectable stays as it is (R385, R386). -/
def State.commitWordAt (s : State) (t v : Nat) : State :=
  if s.badMask t 0 (s.plBase t + v) ≠ 0 then s
  else
  let (s, word, ch) := State.commitSyn t v (s.plW t) 0 none 0 (s.synW t (s.plBase t + v)) false s
  let s := s.setSynW t (s.plBase t + v) (commitWord (s.f (TILE_PL_AREA_FMT t)) word)
  if ch then s.modTile t fun x => { x with dirty := x.dirty ||| BitVec.ofNat 1024 (2 ^ (v / 8)) } else s

/-- Words that a commit reads: the plastic area and the delta area (R288, R385). -/
def State.commitReads (s : State) (t : Nat) : List (Nat × Nat × Contain) :=
  if s.parClean t then []
  else
    let d := s.f (TILE_PL_DELTA_DBASE t) * 8
    (List.range (s.plWords t)).map (fun v => (0, s.plBase t + v, .none)) ++
      (List.range (ceilDiv (s.plWords t * s.plW t) 8)).map fun k => (0, d + k, .none)

/-- The commit of the whole plastic area. -/
def State.commitAll (s : State) (t : Nat) : State := (List.range (s.plWords t)).foldl (fun s v => s.commitWordAt t v) s

/-- Cycles of a COMMIT phase (R288, R290): two accesses of each word and delta word, two cycles for each refined thread. -/
def State.commitCycles (s : State) (t threads : Nat) (weights : Bool) : Nat :=
  (if weights then 2 * s.plWords t + 2 * ceilDiv (s.plWords t * s.plW t) 8 else 0) + 2 * threads

/-- The COMMIT phase of a lift end: refinement, then with ARM the commit (R287, R288, R291). -/
def State.commitPhase (s : State) (t : Nat) (arm : Bool) : State :=
  let (s, k) := s.refine t
  let doit := arm && (s.tile t).plOk
  let cyc := min 0xFFFFFF (s.commitCycles t k doit)
  let s := if doit then s.commitAll t else s
  let s := s.setF (TILE_PL_STAT_LAST_CYCLES t) cyc
  if arm then (s.setF (TILE_PL_STAT_ABANDONED t) 0).setF (TILE_PL_STAT_DEFERRED t) 0
  else (s.setF (TILE_PL_STAT_DEFERRED t) 1).inc (TILE_PL_DEFERRED t)

/-- The lift position at an applied CLOSE: whether the step ends a lift, and POS (R286). -/
def State.liftStep (s : State) (t : Nat) : State × Bool :=
  let pos := s.f (TILE_PL_LIFT_POS t)
  let len := max 1 (s.f (TILE_PL_LIFT_LEN t))
  if len ≤ pos + 1 then (s.setF (TILE_PL_LIFT_POS t) 0, true) else (s.setF (TILE_PL_LIFT_POS t) (pos + 1), false)

/-! ## Directory and modulator registers (R281, R310, R311) -/

/-- The index after an access with AUTO. -/
def State.dirAuto (s : State) (t : Nat) : State :=
  if s.b (TILE_PL_DIR_IDX_AUTO t) then s.setF (TILE_PL_DIR_IDX_IDX t) ((s.f (TILE_PL_DIR_IDX_IDX t) + 1) % 1024) else s

/-- A read of TILE_PL_DIR_DATA: the entry, and the index moved. -/
def State.dirRead (s : State) (t : Nat) : BitVec 32 × State :=
  ((s.tile t).dirAt (s.f (TILE_PL_DIR_IDX_IDX t)), s.dirAuto t)

/-- A write of TILE_PL_DIR_DATA. -/
def State.dirWrite (s : State) (t : Nat) (v : BitVec 32) : State :=
  let i := s.f (TILE_PL_DIR_IDX_IDX t)
  let s :=
    if s.en .tile t then (if (s.tile t).dirAt i = v then s else s.cfgReject .tile t 0x2B8)
    else s.modTile t fun x => x.setDir i v
  s.dirAuto t

/-- TILE_PL_DIR_DATA (R311): a read without a value, a write with one. -/
def execTilePlDirData (t : BitVec 10) (v : Option (BitVec 32)) (s : State) : Out :=
  .next (if s.tileUp t.toNat then match v with | none => (s.dirRead t.toNat).2 | some v => s.dirWrite t.toNat v else s)

/-- TILE_PL_MOD_WRITE (R281, R310): the values stand until the next OPEN takes them. -/
def execTilePlModWrite (t : BitVec 10) (hi : Bool) (v : BitVec 32) (s : State) : Out :=
  .next (if s.tileUp t.toNat then s.wr (if hi then TILE_PL_MOD1 t.toNat else TILE_PL_MOD0 t.toNat).addr v else s)

/-- A read of TILE_PL_DIRTY: word IDX of the dirty map, cleared. -/
def State.dirtyRead (s : State) (t : Nat) : BitVec 32 × State :=
  let i := s.f (TILE_PL_DIRTY_IDX_IDX t)
  let w := (s.tile t).dirty.toNat / 2 ^ (32 * i) % 2 ^ 32
  (BitVec.ofNat 32 w, s.modTile t fun x => { x with dirty := x.dirty &&& ~~~ (BitVec.ofNat 1024 (w * 2 ^ (32 * i))) })

end Sys2Proof.Machine
end

