-- ==== Sys2Proof/Machine/Program.lean ====
section
/-! DEFINITION. Neuron programs: the instruction words, the touch in progress of a thread, and the effect of one instruction
(spec/05_neuron_programs.md R179–R195; spec/03_neuron_tile.md R98–R103). -/

namespace Sys2Proof.Machine
open Sys2Proof

/-! ## Instruction words (R184, R185) -/

/-- A word of format R. -/
def wordR (op : BitVec 6) (rd ra rb : BitVec 4) (fn : BitVec 11) (pr : BitVec 2) (pn : Bool) : BitVec 32 :=
  op ++ rd ++ ra ++ rb ++ fn ++ pr ++ BitVec.ofBool pn

/-- A word of format I. -/
def wordI (op : BitVec 6) (rd ra : BitVec 4) (imm : BitVec 15) (pr : BitVec 2) (pn : Bool) : BitVec 32 :=
  op ++ rd ++ ra ++ imm ++ pr ++ BitVec.ofBool pn

/-- The word of an instruction; fields that the operation does not use are 0, and BR carries no predicate. -/
def ninstrEncode (i : NInstr) : BitVec 32 :=
  match i.op with
  | .nop => wordR 0x00 0 0 0 0 i.pr i.pn
  | .endTouch => wordR 0x01 0 0 0 0 i.pr i.pn
  | .alu rd ra rb fn => wordR 0x02 rd ra rb fn i.pr i.pn
  | .addi rd ra imm => wordI 0x03 rd ra imm i.pr i.pn
  | .andi rd ra imm => wordI 0x04 rd ra imm i.pr i.pn
  | .shi rd ra imm => wordI 0x05 rd ra imm i.pr i.pn
  | .ldi rd imm => (0x06#6) ++ rd ++ imm ++ i.pr ++ BitVec.ofBool i.pn
  | .ldih rd imm => (0x07#6) ++ rd ++ (0#3) ++ imm ++ i.pr ++ BitVec.ofBool i.pn
  | .cmp rd ra rb fn => wordR 0x08 rd ra rb fn i.pr i.pn
  | .br mode prb off => (0x09#6) ++ mode ++ prb ++ off ++ (0#3)
  | .ldn rd fn => wordR 0x0A rd 0 0 fn i.pr i.pn
  | .stn ra fn => wordR 0x0B 0 ra 0 fn i.pr i.pn
  | .ldacc rd => wordR 0x0C rd 0 0 0 i.pr i.pn
  | .fold rd ra => wordR 0x0D rd ra 0 0 i.pr i.pn
  | .decay rd ra => wordR 0x0E rd ra 0 0 i.pr i.pn
  | .decayx rd ra imm => wordI 0x0F rd ra imm i.pr i.pn
  | .fire rd ra => wordR 0x10 rd ra 0 0 i.pr i.pn
  | .emitk ra => wordR 0x11 0 ra 0 0 i.pr i.pn
  | .pend => wordR 0x12 0 0 0 0 i.pr i.pn
  | .mulsh rd ra fn => wordR 0x13 rd ra 0 fn i.pr i.pn
  | .srnd rd ra imm => wordI 0x14 rd ra imm i.pr i.pn
  | .tlu rd ra imm => wordI 0x15 rd ra imm i.pr i.pn
  | .lds rd ra imm => wordI 0x16 rd ra imm i.pr i.pn
  | .sts rd ra imm => wordI 0x17 rd ra imm i.pr i.pn
  | .ldg rd ra rb => wordR 0x18 rd ra rb 0 i.pr i.pn
  | .stg rd ra rb => wordR 0x19 rd ra rb 0 i.pr i.pn
  | .bfx rd ra imm => wordI 0x1A rd ra imm i.pr i.pn
  | .bfi rd ra imm => wordI 0x1B rd ra imm i.pr i.pn
  | .hopen rd ra => wordR 0x1C rd ra 0 0 i.pr i.pn
  | .hsend rd ra rb => wordR 0x1D rd ra rb 0 i.pr i.pn
  | .hrecv rd ra rb => wordR 0x1E rd ra rb 0 i.pr i.pn
  | .waitstep => wordR 0x1F 0 0 0 0 i.pr i.pn

/-- The operation a word spells, apart from its predicate; none for a reserved opcode or a field that must be 0. -/
def nopDecode (w : BitVec 32) : Option NOp :=
  let rd := w.extractLsb' 22 4
  let ra := w.extractLsb' 18 4
  let rb := w.extractLsb' 14 4
  let fn := w.extractLsb' 3 11
  let imm := w.extractLsb' 3 15
  match (w.extractLsb' 26 6).toNat with
  | 0x00 => some .nop
  | 0x01 => some .endTouch
  | 0x02 => some (.alu rd ra rb fn)
  | 0x03 => some (.addi rd ra imm)
  | 0x04 => some (.andi rd ra imm)
  | 0x05 => some (.shi rd ra imm)
  | 0x06 => some (.ldi rd (w.extractLsb' 3 19))
  | 0x07 => if w.extractLsb' 19 3 = 0 then some (.ldih rd (w.extractLsb' 3 16)) else none
  | 0x08 => some (.cmp rd ra rb fn)
  | 0x09 => if w.extractLsb' 0 3 = 0 then some (.br (w.extractLsb' 24 2) (w.extractLsb' 22 2) (w.extractLsb' 3 19)) else none
  | 0x0A => some (.ldn rd fn)
  | 0x0B => some (.stn ra fn)
  | 0x0C => some (.ldacc rd)
  | 0x0D => some (.fold rd ra)
  | 0x0E => some (.decay rd ra)
  | 0x0F => some (.decayx rd ra imm)
  | 0x10 => some (.fire rd ra)
  | 0x11 => some (.emitk ra)
  | 0x12 => some .pend
  | 0x13 => some (.mulsh rd ra fn)
  | 0x14 => some (.srnd rd ra imm)
  | 0x15 => some (.tlu rd ra imm)
  | 0x16 => some (.lds rd ra imm)
  | 0x17 => some (.sts rd ra imm)
  | 0x18 => some (.ldg rd ra rb)
  | 0x19 => some (.stg rd ra rb)
  | 0x1A => some (.bfx rd ra imm)
  | 0x1B => some (.bfi rd ra imm)
  | 0x1C => some (.hopen rd ra)
  | 0x1D => some (.hsend rd ra rb)
  | 0x1E => some (.hrecv rd ra rb)
  | 0x1F => some .waitstep
  | _ => none

/-- The instruction a word spells. BR is read with predicate 0. -/
def ninstrDecode (w : BitVec 32) : Option NInstr :=
  (nopDecode w).map fun op =>
    match op with
    | .br m p o => { op := .br m p o, pr := 0, pn := false }
    | op => { op := op, pr := w.extractLsb' 1 2, pn := w.getLsbD 0 }

/-! ## Fault codes (R193) -/

def fILLEGAL : Nat := 1
def fBUDGET : Nat := 2
def fPC : Nat := 3
def fINCOMPLETE : Nat := 4
def fBIND : Nat := 5

/-! ## Lanes of a thread -/

def Thread.lane (x : Thread) : Nat → Lane
  | 0 => x.l0
  | 1 => x.l1
  | 2 => x.l2
  | _ => x.l3

def Thread.setLane (x : Thread) (j : Nat) (l : Lane) : Thread :=
  match j with
  | 0 => { x with l0 := l }
  | 1 => { x with l1 := l }
  | 2 => { x with l2 := l }
  | _ => { x with l3 := l }

/-- Register of a lane. -/
def Lane.reg (l : Lane) (r : Nat) : BitVec 32 := Map.get 0 l.g r
def Lane.setReg (l : Lane) (r : Nat) (v : BitVec 32) : Lane := { l with g := Map.set 0 l.g r v }

/-- Predicate register (R179): pr0 holds 1 where the lane is active. -/
def Lane.pred (l : Lane) : Nat → Bool
  | 0 => l.active
  | 1 => l.pr1
  | 2 => l.pr2
  | _ => l.pr3

def Lane.setPred (l : Lane) (p : Nat) (v : Bool) : Lane :=
  match p with
  | 1 => { l with pr1 := v }
  | 2 => { l with pr2 := v }
  | 3 => { l with pr3 := v }
  | _ => l

def State.lane (s : State) (t n j : Nat) : Lane := (s.thread t n).lane j
def State.modLane (s : State) (t n j : Nat) (g : Lane → Lane) : State :=
  s.modThread t n fun x => x.setLane j (g (x.lane j))

/-- Lanes in which an instruction executes (R180). -/
def State.execLanes (s : State) (t n pr : Nat) (pn : Bool) : List Nat :=
  (List.range 4).filter fun j => (s.lane t n j).active && (s.lane t n j).pred pr != pn

/-- Active lanes. -/
def State.activeLanes (s : State) (t n : Nat) : List Nat := (List.range 4).filter fun j => (s.lane t n j).active

/-! ## Opening a touch or a service run (R179, R192) -/

/-- A lane at the start of a touch of neuron `i`. Before any DECAY of the touch its latched Δ is 0, a DESIGN CHOICE
(notes/assumptions/130.md). -/
def Lane.start (l : Lane) (i : Nat) (active sweep : Bool) : Lane :=
  { g := (l.setReg 0 (BitVec.ofNat 32 i)).g, active := active, sweep := sweep }

/-- Open a touch of quad `q` with the lanes of `due` and `sweep` active. -/
def State.openTouch (s : State) (t n q due sweep : Nat) (imm : Bool) (stouch semit : Nat) : State :=
  s.modThread t n fun x =>
    let x := (List.range 4).foldl (fun (x : Thread) j =>
      x.setLane j ((x.lane j).start (4 * q + j) ((bitAt due j || bitAt sweep j) && !s.blockOff t (4 * q + j)) (bitAt sweep j))) x
    { x with touch := some { quad := q, imm := imm, stouch := stouch % 256, semit := semit % 256, pc := s.f (TILE_THR_PROG_ENTRY t n) } }

/-- Open a service run: at ENTRY with g0 = 0 and only lane 0 active, or after the WAITSTEP that suspended it. -/
def State.openService (s : State) (t n stouch semit : Nat) : State :=
  s.modThread t n fun x =>
    let tc (pc : Nat) : Touch := { quad := 0, service := true, stouch := stouch % 256, semit := semit % 256, pc := pc }
    match x.resume with
    | some pc => { x with touch := some (tc pc) }
    | none =>
      let x := (List.range 4).foldl (fun (x : Thread) j =>
        x.setLane j ((x.lane j).start 0 (j == 0) false)) x
      { x with touch := some (tc (s.f (TILE_THR_PROG_ENTRY t n))) }

/-- The step whose work a RUN does, and the step its emissions carry (R98, R106). -/
def State.runSteps (s : State) (t : Nat) : Nat × Nat := (((s.tile t).step.toNat + 255) % 256, (s.tile t).step.toNat % 256)

/-- A custom thread runs programs; a built-in one does not. -/
def State.custom (s : State) (t n : Nat) : Bool := s.b (TILE_THR_BIND_EN t n) && !s.b (TILE_THR_PROG_BUILTIN t n)

/-- Open the thread's next work if it has none in progress: in RUN its next quad or its service run, in OPEN the immediate
touch at the head of the queue (R105, R113, R192). -/
def State.openNext (s : State) (t n : Nat) : State :=
  if (s.thread t n).touch.isSome || !s.custom t n || s.faulted t n || (s.thread t n).stopped then s
  else if s.phase t = 3 then
    match (s.tile t).work.find? fun w => w.thread == n with
    | some w =>
      ((s.modTile t fun x => { x with work := x.work.erase w }).add (TILE_SWEEP_TOUCH t)
        ((s.liveLanes t w.quad w.sweep).length)).openTouch t n w.quad w.due w.sweep false (s.runSteps t).1 (s.runSteps t).2
    | none => if (s.tile t).svc.contains n then s.openService t n (s.runSteps t).1 (s.runSteps t).2 else s
  else if s.phase t = 0 then
    match (s.tile t).immq with
    | i :: rest =>
      if s.ownerThread t i = some n ∧ s.f (TILE_FIRE_IMM t n) = 1 then
        (s.modTile t fun x => { x with immq := rest }).openTouch t n (i / 4) (2 ^ (i % 4)) 0 true (s.tile t).step.toNat (s.tile t).step.toNat
      else s
    | [] => s
  else s

/-! ## Arithmetic (R185, R186) -/

/-- The high half with `f` applied and saturated, the low half of `a` kept (ADDH, SUBH). -/
def highOp (f : Int → Int → Int) (a b : BitVec 32) : BitVec 32 :=
  BitVec.ofNat 32 (withM16 a.toNat (clamp16 (f (m16 a.toNat) (m16 b.toNat))))

/-- ALU function; none where FN is reserved. -/
def aluFn (fn : Nat) (pr1 : Bool) (a b : BitVec 32) : Option (BitVec 32) :=
  match fn with
  | 0x0 => some (a + b)
  | 0x1 => some (a - b)
  | 0x2 => some (a * b)
  | 0x4 => some (a &&& b)
  | 0x5 => some (a ||| b)
  | 0x6 => some (a ^^^ b)
  | 0x7 => some (a <<< (b.toNat % 32))
  | 0x8 => some (a >>> (b.toNat % 32))
  | 0x9 => some (a.sshiftRight (b.toNat % 32))
  | 0xA => some (if a.toInt ≤ b.toInt then a else b)
  | 0xB => some (if a.toInt ≤ b.toInt then b else a)
  | 0xC => some (highOp (· + ·) a b)
  | 0xD => some (highOp (· - ·) a b)
  | 0xE => some (if pr1 then a else b)
  | _ => none

/-- Condition of CMP; none where FN is reserved. -/
def cmpFn (fn : Nat) (a b : BitVec 32) : Option Bool :=
  match fn with
  | 0 => some (a == b)
  | 1 => some (a != b)
  | 2 => some (decide (a.toInt < b.toInt))
  | 3 => some (decide (b.toInt ≤ a.toInt))
  | 4 => some (decide (a.toNat < b.toNat))
  | 5 => some (decide (b.toNat ≤ a.toNat))
  | _ => none

/-- SHI; none for the reserved direction. -/
def shiFn (imm : BitVec 15) (a : BitVec 32) : Option (BitVec 32) :=
  let k := imm.toNat % 32
  match imm.toNat / 32 % 4 with
  | 0 => some (a <<< k)
  | 1 => some (a >>> k)
  | 2 => some (a.sshiftRight k)
  | _ => none

/-- BFX. -/
def bfxFn (imm : BitVec 15) (a : BitVec 32) : BitVec 32 :=
  let lo := imm.toNat % 32
  let w := imm.toNat / 32 % 32 + 1
  let v := a.toNat / 2 ^ lo % 2 ^ w
  if bitAt imm.toNat 10 then BitVec.ofInt 32 (sgn w v) else BitVec.ofNat 32 v

/-- BFI. -/
def bfiFn (imm : BitVec 15) (d a : BitVec 32) : BitVec 32 :=
  let lo := imm.toNat % 32
  let w := imm.toNat / 32 % 32 + 1
  let m := BitVec.ofNat 32 ((2 ^ w - 1) * 2 ^ lo)
  (d &&& ~~~m) ||| (BitVec.ofNat 32 (a.toNat * 2 ^ lo) &&& m)

/-- Taken, by MODE over the predicates of the active lanes (R186). -/
def brTaken (mode : Nat) (ps : List Bool) : Bool :=
  match mode with
  | 0 => true
  | 1 => ps.any id
  | 2 => ps.all id
  | _ => !ps.any id

/-- The instruction is reserved in every thread (R185, R186, R193). -/
def nopIllegal : NOp → Bool
  | .alu _ _ _ fn => (aluFn fn.toNat false 0 0).isNone
  | .cmp rd _ _ fn => decide (4 ≤ rd.toNat) || rd.toNat == 0 || (cmpFn fn.toNat 0 0).isNone
  | .shi _ _ imm => (shiFn imm 0).isNone
  | .mulsh _ _ fn => fn.toNat % 4 == 3
  | .srnd _ _ imm => imm.toNat % 16 == 0 || decide (8 < imm.toNat % 16)
  | _ => false

/-- The instruction is not permitted in a service thread (R192). -/
def nopNeuronOnly : NOp → Bool
  | .ldn .. => true
  | .stn .. => true
  | .ldacc .. => true
  | .fold .. => true
  | .decay .. => true
  | .decayx .. => true
  | .fire .. => true
  | .emitk .. => true
  | .pend => true
  | .endTouch => true
  | _ => false

/-- Not permitted in this kind of thread or word count (R185, R192). -/
def nopNotHere (op : NOp) (service two : Bool) : Bool :=
  if service then (nopNeuronOnly op)
  else
    match op with
    | .waitstep => true
    | .ldn _ fn => fn.getLsbD 0 && !two
    | .stn _ fn => fn.getLsbD 0 && !two
    | _ => false

/-! ## Global accesses and hods of threads (R187, R191) -/

/-- Tags of reply buffers that wait for a reply. A buffer is free again once its reply is here, a DESIGN CHOICE (notes/assumptions/130.md). -/
def Tile.busyTags (x : Tile) : List Nat := (x.bufs.filter fun b => b.issued && b.reply == none).map fun b => b.tag

/-- A reply buffer that is free (R187). -/
def Tile.freeTag (x : Tile) : Option Nat := (List.range 16).find? fun k => !x.busyTags.contains k

/-- The packet of a request with its tag. -/
def packetWithTag (tag : Nat) : Packet → Packet
  | .readReq h => .readReq { h with tag := BitVec.ofNat 8 tag }
  | .writeReq h d => .writeReq { h with tag := BitVec.ofNat 8 tag } d
  | .hodMsg h op sv d => .hodMsg { h with tag := BitVec.ofNat 8 tag } op sv d
  | p => p

/-- Issue the requests that wait, oldest first, while reply buffers are free and the router has room. -/
def State.pumpBufs (s : State) (t : Nat) : State :=
  (List.range (s.tile t).bufs.length).foldl (fun s k =>
    match (s.tile t).bufs[k]?, (s.tile t).freeTag with
    | some b, some tag =>
      match b.issued, b.pkt with
      | false, some p =>
        match s.inject t .loc (packetWithTag tag p) with
        | some s => s.modTile t fun x => { x with bufs := x.bufs.set k { b with issued := true, tag := tag, pkt := none } }
        | none => s
      | _, _ => s
    | _, _ => s) s

/-- Add a request of a lane: refused or unmapped requests have their reply at once (R23, R453). -/
def State.laneRequest (s : State) (t n j : Nat) (kind : ReqKind) (ga : Nat) (data : Option (List (BitVec 64))) : State :=
  let a := ga % 2 ^ 38
  let chip := if ga / 2 ^ 38 % 1024 = 0x3FF then s.chipId else ga / 2 ^ 38 % 1024
  let put (s : State) (b : ReplyBuf) : State := s.modTile t fun x => { x with bufs := x.bufs ++ [b] }
  let b : ReplyBuf := { thread := n, lane := j, kind := kind, tag := 0 }
  if chip = s.chipId ∧ s.place a = .unmapped then put s { b with reply := some (Status.unmapped.code.toNat, 0, []) }
  else if !s.fwAllows iTHREAD a data.isSome then
    put (s.fwRefuse iTHREAD a data.isSome) { b with reply := some (Status.denied.code.toNat, 0, []) }
  else
    let h := s.reqHead chip a t false 0 0
    put s { b with issued := false, pkt := some (match data with | some d => .writeReq h d | none => .readReq h) }

/-- Add a hod request of a thread: TAG[7] = 0 (R191, R466). It goes to the thread's own cluster's controller, a DESIGN CHOICE
(notes/assumptions/130.md). -/
def State.hodRequest (s : State) (t n j : Nat) (kind : ReqKind) (op arg : Nat) (d : List (BitVec 64)) : State :=
  let c := clusterOf t
  let h : ReqHead :=
    { dtile := BitVec.ofNat 10 (tileOf c 27), dchip := BitVec.ofNat 10 s.chipId, dgw := false, stile := BitVec.ofNat 10 t,
      schip := BitVec.ofNat 10 s.chipId, sgw := false, tag := 0, size := if op = 0 then 0 else 3, addr := BitVec.ofNat 38 (shmBase c) }
  s.modTile t fun x =>
    { x with bufs := x.bufs ++ [{ thread := n, lane := j, kind := kind, tag := 0, issued := false,
                                  pkt := some (.hodMsg h (BitVec.ofNat 4 op) (BitVec.ofNat 16 arg) d) }] }

/-- Apply one reply to its lane (R187, R191). A hod request that found no controller answers UNREACHABLE. HRECV's scratch byte is taken as
HSEND's is, its low 5 bits ignored and modulo 32,768, a DESIGN CHOICE (notes/assumptions/130.md). -/
def State.applyReply (s : State) (t n : Nat) (b : ReplyBuf) : State :=
  match b.reply with
  | none => s
  | some (st, hs, d) =>
    let w0 := BitVec.ofNat 32 (d.headD 0).toNat
    let hst := if st = 0 then hs else hsUnreachable
    match b.kind with
    | .load rd => s.modLane t n b.lane fun l => (l.setReg rd (if st = 0 then w0 else 0)).setPred 3 (st == 0)
    | .store => s.modLane t n b.lane fun l => l.setPred 3 (st == 0)
    | .hopen rd => s.modLane t n b.lane fun l =>
        l.setReg rd (BitVec.ofNat 32 (hst * 65536 + (if hst = 0 then (d.headD 0).toNat % 65536 else 0)))
    | .hsend rd => s.modLane t n b.lane fun l => l.setReg rd (BitVec.ofNat 32 (hst * 65536))
    | .hrecv rd buf =>
      let s := if hst = 0 then
        (List.range 8).foldl (fun s k => s.setProg t ((buf / 32 * 8 + k) % 8192) ((hodEntry d).toNat / 2 ^ (32 * k) % 2 ^ 32)) s else s
      s.modLane t n b.lane fun l => l.setReg rd (BitVec.ofNat 32 (hst * 65536))

/-- THREAD_RESUME (R187): waiting requests are issued; when every reply of the thread's instruction is here, the thread goes on, or
faults where its next instruction lies outside program memory (R193). -/
def State.threadResume (s : State) (t n : Nat) : State :=
  let s := s.pumpBufs t
  let mine := (s.tile t).bufs.filter fun b => b.thread == n && !b.dead
  match (s.thread t n).touch with
  | some tc =>
    if tc.wait && mine.all (fun b => b.reply.isSome) then
      let s := mine.foldl (fun s b => s.applyReply t n b) s
      let s := (s.modTile t fun x => { x with bufs := x.bufs.filter fun b => !(b.thread == n && !b.dead) }).modThread t n fun x =>
        { x with touch := some { tc with wait := false } }
      if 8192 ≤ tc.pc then s.threadFault t n fPC (tc.pc - 1) else s
    else s
  | none => s

/-- THREAD_RESUME (R187). -/
def execThreadResume (t : BitVec 10) (n : BitVec 4) (s : State) : Out := .next (s.threadResume t.toNat n.toNat)

/-- A reply reaches router `t`'s local port with a tag below 16: the buffer takes it, or a dead one is freed (R187). -/
def State.bufReply (s : State) (t tag st hs : Nat) (d : List (BitVec 64)) : State :=
  match (s.tile t).bufs.find? fun b => b.issued && b.reply == none && b.tag == tag with
  | some b =>
    let s := s.modTile t fun x =>
      if b.dead then { x with bufs := x.bufs.erase b }
      else { x with bufs := x.bufs.map fun y => if y = b then { b with reply := some (st, hs, d) } else y }
    s.pumpBufs t
  | none => s

/-! ## One instruction in one lane -/

/-- The neuron of lane `j` of a touch. -/
def Touch.neuron (tc : Touch) (j : Nat) : Nat := 4 * tc.quad + j

/-- Accumulator as the touch sees it: 0 in a sweep touch. -/
def State.laneAcc (s : State) (t n j i : Nat) : Int := if (s.lane t n j).sweep then 0 else s.acc t i

/-- Raise the first word `w` by the lane's pending raise, if any; answers the word and whether a byte was drawn (R278). -/
def State.pendingRaise (s : State) (t n j w : Nat) : Nat × Bool :=
  match (s.lane t n j).raise with
  | some k => (s.raisePost t w k (s.drawByte t j 0), true)
  | none => (w, false)

/-- FIRE in a lane (R102, R185): PENDING is set at once, and kept at END (R181). -/
def State.fireLane (s : State) (t n j i semit : Nat) (rd : Nat) (a : BitVec 32) : State × Nat :=
  let r : LaneRun := { s := s }
  let q0 := (s.tile t).emitq.length
  let (r, v, w) := r.fire t n j i a.toNat (m16 a.toNat) (s.lane t n j).sweep semit
  let emitted := decide (q0 < (r.s.tile t).emitq.length)
  ((if r.pend then r.s.setPend t i else r.s).modLane t n j fun l =>
    { (l.setReg rd (BitVec.ofNat 32 (withM16 w v))).setPred 1 emitted with pendSet := l.pendSet || r.pend }, r.draws)

/-- EMITK in a lane (R185, R278). It sets no PENDING: R181 names it beside FIRE and PEND, but no rule gives a condition; a DESIGN CHOICE
(notes/assumptions/130.md). -/
def State.emitkLane (s : State) (t n j i semit : Nat) (a : BitVec 32) : State :=
  let l := s.lane t n j
  let rf := match l.rf with | some r => r | none => rfOf (s.neu t i)
  if a.toInt ≤ 0 ∨ s.gated t i rf l.sweep then s.modLane t n j fun l => l.setPred 1 false
  else
    let k := min 15 a.toNat
    let en := s.postEn t n
    (s.emit t i k semit).modLane t n j fun l => { l.setPred 1 true with raise := if en then some k else l.raise }

/-- The effect of an instruction in one executing lane: the state, and how many bytes the lane drew. Requests and control are
handled outside. -/
def State.laneOp (s : State) (t n j : Nat) (tc : Touch) (op : NOp) : State × Nat :=
  let l := s.lane t n j
  let i := tc.neuron j
  let g (r : BitVec 4) : BitVec 32 := l.reg r.toNat
  let set (r : BitVec 4) (v : BitVec 32) : State × Nat := (s.modLane t n j fun l => l.setReg r.toNat v, 0)
  match op with
  | .alu rd ra rb fn => set rd ((aluFn fn.toNat l.pr1 (g ra) (g rb)).getD 0)
  | .addi rd ra imm => set rd (g ra + imm.signExtend 32)
  | .andi rd ra imm => set rd (g ra &&& imm.signExtend 32)
  | .shi rd ra imm => set rd ((shiFn imm (g ra)).getD 0)
  | .ldi rd imm => set rd (imm.signExtend 32)
  | .ldih rd imm => set rd (BitVec.ofNat 32 (imm.toNat * 65536 + (g rd).toNat % 65536))
  | .cmp rd ra rb fn => (s.modLane t n j fun l => l.setPred rd.toNat ((cmpFn fn.toNat (g ra) (g rb)).getD false), 0)
  | .ldn rd fn => set rd (BitVec.ofNat 32 (s.neu t (if fn.getLsbD 0 then s.secondWord t n i else i)))
  | .stn ra fn =>
    if fn.getLsbD 0 then (s.setNeu t (s.secondWord t n i) (g ra).toNat, 0)
    else
      let (w, drew) := s.pendingRaise t n j (g ra).toNat
      ((s.setNeu t i w).modLane t n j fun l => { l with raise := none }, if drew then 1 else 0)
  | .ldacc rd => set rd (BitVec.ofInt 32 (s.laneAcc t n j i))
  | .fold rd ra =>
    let v := m16 (g ra).toNat + s.laneAcc t n j i
    (((s.memSat t v).setAcc t i 0).modLane t n j fun l =>
      { l.setReg rd.toNat (BitVec.ofNat 32 (withM16 (g ra).toNat (clamp16 v))) with folded := true }, 0)
  | .decay rd ra =>
    let delta := idle (g ra).toNat tc.stouch
    let dc := s.decayBy t n (g ra).toNat delta tc.stouch (s.drawByte t j 0)
    ((s.memSat t dc.m).modLane t n j fun l =>
      { l.setReg rd.toNat (BitVec.ofNat 32 dc.word) with delta := delta, rf := some (rfOf dc.word), decayed := true },
      if dc.drew then 1 else 0)
  | .decayx rd ra imm =>
    if l.delta = 0 then set rd (g ra)
    else
      let m := rnd15 (m16 (g ra).toNat * bits (s.prog t (decayEntry (imm.toNat % 32) l.delta)) 31 16)
      ((s.memSat t m).modLane t n j fun l => l.setReg rd.toNat (BitVec.ofNat 32 (withM16 (g ra).toNat (clamp16 m))), 0)
  | .fire rd ra => s.fireLane t n j i tc.semit rd.toNat (g ra)
  | .emitk ra => (s.emitkLane t n j i tc.semit (g ra), 0)
  | .pend => ((s.setPend t i).modLane t n j fun l => { l with pendSet := true }, 0)
  | .mulsh rd ra fn =>
    let b : Int × Int := match fn.toNat % 4 with | 0 => (0, 15) | 1 => (-32768, 32767) | _ => (-262144, 262143)
    let (s', v) := s.convert t n .mulsh (g ra).toInt b.1 b.2
    (s'.modLane t n j fun l => l.setReg rd.toNat (BitVec.ofInt 32 v), 0)
  | .srnd rd ra imm => (s.modLane t n j fun l =>
      l.setReg rd.toNat (BitVec.ofInt 32 (srnd (g ra).toInt (imm.toNat % 16) (s.drawByte t j 0))), 1)
  | .tlu rd ra imm => set rd (BitVec.ofNat 32 (s.prog t ((imm.toNat % 512 * 64 + (g ra).toNat % 256 * 4) % 32768 / 4)))
  | .lds rd ra imm => set rd (BitVec.ofNat 32 (s.prog t ((g ra + imm.signExtend 32).toNat % 8192)))
  | .sts rd ra imm => (s.setProg t ((g ra + imm.signExtend 32).toNat % 8192) (g rd).toNat, 0)
  | .bfx rd ra imm => set rd (bfxFn imm (g ra))
  | .bfi rd ra imm => set rd (bfiFn imm (g rd) (g ra))
  | .ldg rd ra rb => (s.laneRequest t n j (.load rd.toNat) ((g rb).toNat % 65536 * 2 ^ 32 + (g ra).toNat / 4 * 4) none, 0)
  | .stg rd ra rb =>
    (s.laneRequest t n j .store ((g rb).toNat % 65536 * 2 ^ 32 + (g ra).toNat / 4 * 4) (some [(g rd).setWidth 64]), 0)
  | .hopen rd ra => (s.hodRequest t n j (.hopen rd.toNat) 0 ((g ra).toNat % 65536) [], 0)
  | .hsend rd ra rb =>
    let e := (List.range 8).foldl (fun v k => v + s.prog t (((g rb).toNat / 32 * 8 + k) % 8192) * 2 ^ (32 * k)) 0
    (s.hodRequest t n j (.hsend rd.toNat) 1 ((g ra).toNat % 65536) (hodFlits (BitVec.ofNat 256 e)), 0)
  | .hrecv rd ra rb => (s.hodRequest t n j (.hrecv rd.toNat (g rb).toNat) 2 ((g ra).toNat % 65536) [], 0)
  | .nop => (s, 0)
  | .endTouch => (s, 0)
  | .br .. => (s, 0)
  | .waitstep => (s, 0)

/-- HOPEN, HSEND and HRECV execute once, in the lowest lane (R180). -/
def nopScalar : NOp → Bool
  | .hopen .. => true
  | .hsend .. => true
  | .hrecv .. => true
  | _ => false

/-- The instruction waits for replies (R187, R191). -/
def nopWaits : NOp → Bool
  | .ldg .. => true
  | .stg .. => true
  | op => (nopScalar op)

/-- Words of tile memory a lane of the instruction reads: memory and word (R374, R385). -/
def State.opReads (s : State) (t n j : Nat) (tc : Touch) (op : NOp) : List (Nat × Nat) :=
  let l := s.lane t n j
  let i := tc.neuron j
  match op with
  | .ldn _ fn => [(1, if fn.getLsbD 0 then s.secondWord t n i else i)]
  | .ldacc _ => [(2, i)]
  | .fold .. => [(2, i)]
  | .decay _ ra =>
    let d := idle (l.reg ra.toNat).toNat tc.stouch
    if d = 0 ∨ !s.b (TILE_DECAY_EN t n) then [] else [(3, decayEntry (s.f (TILE_DECAY_BASE t n)) d)]
  | .decayx _ _ imm => if l.delta = 0 then [] else [(3, decayEntry (imm.toNat % 32) l.delta)]
  | .tlu _ ra imm => [(3, (imm.toNat % 512 * 64 + (l.reg ra.toNat).toNat % 256 * 4) % 32768 / 4)]
  | .lds _ ra imm => [(3, (l.reg ra.toNat + imm.signExtend 32).toNat % 8192)]
  | .hsend _ _ rb => (List.range 8).map fun k => (3, ((l.reg rb.toNat).toNat / 32 * 8 + k) % 8192)
  | .emitk _ => if l.rf.isSome then [] else [(1, i)]
  | .endTouch => if l.raise.isSome || l.sweep then [(1, i)] else []
  | _ => []

/-! ## Ends -/

/-- END takes effect (R181): every active lane is finished, its pending raise applied to the stored word; a sweep lane whose membrane is
still at or above θ becomes pending (R101). -/
def State.endTouch (s : State) (t n : Nat) (tc : Touch) : State :=
  let lanes := s.activeLanes t n
  let r := lanes.foldl (fun (r : State × Nat) j =>
    let s := r.1
    let i := tc.neuron j
    let l := s.lane t n j
    let pend := l.pendSet || (l.sweep && decide (s.theta t n ≤ m16 (s.neu t i)))
    match l.raise with
    | some _ =>
      let (w, _) := s.pendingRaise t n j (s.neu t i)
      ((s.setNeu t i w).endNeuron t i pend, 1)
    | none => (s.endNeuron t i pend, r.2)) (s, 0)
  (r.1.lfsrAdvance t r.2).modThread t n fun x => { x with touch := none }

/-- WAITSTEP takes effect (R192): the service run is suspended behind it; in the last word of program memory it faults (R193). -/
def State.waitStep (s : State) (t n : Nat) (tc : Touch) : State :=
  if 8192 ≤ tc.pc + 1 then s.threadFault t n fPC tc.pc
  else
  (s.modThread t n fun x => { x with touch := none, resume := some (tc.pc + 1) }).modTile t fun x =>
    { x with svc := x.svc.filter (· != n) }

/-! ## Issuing an instruction -/

/-- Instructions a touch or service run may execute (R182). -/
def State.budget (s : State) (t n : Nat) : Nat := 64 * 2 ^ s.f (TILE_THR_PROG_LIMIT t n)

/-- The touch goes on at word `pc`, or faults with PC_RANGE (R193); one that waits for replies faults once they are here. -/
def State.goTo (s : State) (t n : Nat) (tc : Touch) (pc : Int) (wait : Bool) : State :=
  if pc < 0 ∨ (8192 ≤ pc ∧ !wait) then s.threadFault t n fPC tc.pc
  else s.modThread t n fun x => { x with touch := some { tc with pc := pc.toNat, issued := tc.issued + 1, wait := wait } }

/-- Run an instruction's data part in its executing lanes; the register advances once if any lane drew (R48). -/
def State.runLanes (s : State) (t n : Nat) (tc : Touch) (op : NOp) (lanes : List Nat) : State :=
  let lanes := if (nopScalar op) then lanes.take 1 else lanes
  let r := lanes.foldl (fun (r : State × Nat) j =>
    let q := r.1.laneOp t n j tc op
    (q.1, max r.2 q.2)) (s, 0)
  r.1.lfsrAdvance t r.2

/-- The words an instruction reads have good parity, or the thread waits or is contained (R381–R385). -/
def State.opChecked (s : State) (t n : Nat) (tc : Touch) (op : NOp) (lanes : List Nat) (k : State → State) : State :=
  if s.parClean t then k s
  else
    let rec go : List (Nat × Nat × Nat) → State → State
      | [], s => k s
      | (j, m, w) :: rest, s =>
        s.checked t m 1 [w] (if m = 3 then .program n else .block (tc.neuron j)) (go rest) id
    go (lanes.flatMap fun j => (s.opReads t n j tc op).map fun p => (j, p.1, p.2)) s

/-- One instruction of a touch in progress (R180–R186, R192, R193). The WAITSTEP that ends a service run counts against its budget, a DESIGN
CHOICE (notes/assumptions/130.md). -/
def State.issueIn (s : State) (t n : Nat) (tc : Touch) (i : NInstr) : State :=
  let lanes := s.execLanes t n i.pr.toNat i.pn
  if s.budget t n ≤ tc.issued then s.threadFault t n fBUDGET tc.pc
  else if (nopIllegal i.op) then s.threadFault t n fILLEGAL tc.pc
  else if lanes ≠ [] ∧ nopNotHere i.op tc.service (s.thrTwo t n) then s.threadFault t n fILLEGAL tc.pc
  else
    match i.op with
    | .br mode prb off =>
      if brTaken mode.toNat ((s.activeLanes t n).map fun j => (s.lane t n j).pred prb.toNat) then
        s.goTo t n tc (tc.pc + off.toInt) false
      else s.goTo t n tc (tc.pc + 1) false
    | .endTouch =>
      if lanes = [] then s.goTo t n tc (tc.pc + 1) false
      else if (s.activeLanes t n).any fun j => !((s.lane t n j).decayed && (s.lane t n j).folded) then
        s.threadFault t n fINCOMPLETE tc.pc
      else s.opChecked t n tc i.op (s.activeLanes t n) fun s => s.endTouch t n tc
    | .waitstep => if lanes = [] then s.goTo t n tc (tc.pc + 1) false else s.waitStep t n tc
    | op =>
      s.opChecked t n tc op lanes fun s =>
        let s' := (s.runLanes t n tc op lanes).goTo t n tc (tc.pc + 1) ((nopWaits op) && lanes != [])
        if 32 < (s'.tile t).emitq.length then s else if (nopWaits op) then s'.pumpBufs t else s'

/-- A thread issues an instruction (R179): in its touch in progress, or in the next one, which it opens. Nothing happens where the
thread has no work or waits for a reply. -/
def State.issue (s : State) (t n : Nat) (i : NInstr) : State :=
  let s' := if s.tileUp t then s.openNext t n else s
  match (s'.thread t n).touch with
  | none => s
  | some tc => if tc.wait || !s.tileUp t then s else s'.issueIn t n tc i

/-! ## Commands: one instruction of thread `n` of tile `t` each (R185) -/

/-- NOP (R185). -/
def execNop (t : BitVec 10) (n : BitVec 4) (pr : BitVec 2) (pn : Bool) (s : State) : Out :=
  .next (s.issue t.toNat n.toNat { op := .nop, pr := pr, pn := pn })

/-- END (R185). -/
def execEndTouch (t : BitVec 10) (n : BitVec 4) (pr : BitVec 2) (pn : Bool) (s : State) : Out :=
  .next (s.issue t.toNat n.toNat { op := .endTouch, pr := pr, pn := pn })

/-- ALU (R185). -/
def execAlu (t : BitVec 10) (n rd ra rb : BitVec 4) (fn : BitVec 11) (pr : BitVec 2) (pn : Bool) (s : State) : Out :=
  .next (s.issue t.toNat n.toNat { op := .alu rd ra rb fn, pr := pr, pn := pn })

/-- ADDI (R185). -/
def execAddi (t : BitVec 10) (n rd ra : BitVec 4) (imm : BitVec 15) (pr : BitVec 2) (pn : Bool) (s : State) : Out :=
  .next (s.issue t.toNat n.toNat { op := .addi rd ra imm, pr := pr, pn := pn })

/-- ANDI (R185). -/
def execAndi (t : BitVec 10) (n rd ra : BitVec 4) (imm : BitVec 15) (pr : BitVec 2) (pn : Bool) (s : State) : Out :=
  .next (s.issue t.toNat n.toNat { op := .andi rd ra imm, pr := pr, pn := pn })

/-- SHI (R185). -/
def execShi (t : BitVec 10) (n rd ra : BitVec 4) (imm : BitVec 15) (pr : BitVec 2) (pn : Bool) (s : State) : Out :=
  .next (s.issue t.toNat n.toNat { op := .shi rd ra imm, pr := pr, pn := pn })

/-- LDI (R185). -/
def execLdi (t : BitVec 10) (n rd : BitVec 4) (imm : BitVec 19) (pr : BitVec 2) (pn : Bool) (s : State) : Out :=
  .next (s.issue t.toNat n.toNat { op := .ldi rd imm, pr := pr, pn := pn })

/-- LDIH (R185). -/
def execLdih (t : BitVec 10) (n rd : BitVec 4) (imm : BitVec 16) (pr : BitVec 2) (pn : Bool) (s : State) : Out :=
  .next (s.issue t.toNat n.toNat { op := .ldih rd imm, pr := pr, pn := pn })

/-- CMP (R185). -/
def execCmp (t : BitVec 10) (n rd ra rb : BitVec 4) (fn : BitVec 11) (pr : BitVec 2) (pn : Bool) (s : State) : Out :=
  .next (s.issue t.toNat n.toNat { op := .cmp rd ra rb fn, pr := pr, pn := pn })

/-- BR (R185). -/
def execBr (t : BitVec 10) (n : BitVec 4) (mode prb : BitVec 2) (off : BitVec 19) (s : State) : Out :=
  .next (s.issue t.toNat n.toNat { op := .br mode prb off, pr := 0, pn := false })

/-- LDN (R185). -/
def execLdn (t : BitVec 10) (n rd : BitVec 4) (fn : BitVec 11) (pr : BitVec 2) (pn : Bool) (s : State) : Out :=
  .next (s.issue t.toNat n.toNat { op := .ldn rd fn, pr := pr, pn := pn })

/-- STN (R185). -/
def execStn (t : BitVec 10) (n ra : BitVec 4) (fn : BitVec 11) (pr : BitVec 2) (pn : Bool) (s : State) : Out :=
  .next (s.issue t.toNat n.toNat { op := .stn ra fn, pr := pr, pn := pn })

/-- LDACC (R185). -/
def execLdacc (t : BitVec 10) (n rd : BitVec 4) (pr : BitVec 2) (pn : Bool) (s : State) : Out :=
  .next (s.issue t.toNat n.toNat { op := .ldacc rd, pr := pr, pn := pn })

/-- FOLD (R185). -/
def execFold (t : BitVec 10) (n rd ra : BitVec 4) (pr : BitVec 2) (pn : Bool) (s : State) : Out :=
  .next (s.issue t.toNat n.toNat { op := .fold rd ra, pr := pr, pn := pn })

/-- DECAY (R185). -/
def execDecay (t : BitVec 10) (n rd ra : BitVec 4) (pr : BitVec 2) (pn : Bool) (s : State) : Out :=
  .next (s.issue t.toNat n.toNat { op := .decay rd ra, pr := pr, pn := pn })

/-- DECAYX (R185). -/
def execDecayx (t : BitVec 10) (n rd ra : BitVec 4) (imm : BitVec 15) (pr : BitVec 2) (pn : Bool) (s : State) : Out :=
  .next (s.issue t.toNat n.toNat { op := .decayx rd ra imm, pr := pr, pn := pn })

/-- FIRE (R185). -/
def execFire (t : BitVec 10) (n rd ra : BitVec 4) (pr : BitVec 2) (pn : Bool) (s : State) : Out :=
  .next (s.issue t.toNat n.toNat { op := .fire rd ra, pr := pr, pn := pn })

/-- EMITK (R185). -/
def execEmitk (t : BitVec 10) (n ra : BitVec 4) (pr : BitVec 2) (pn : Bool) (s : State) : Out :=
  .next (s.issue t.toNat n.toNat { op := .emitk ra, pr := pr, pn := pn })

/-- PEND (R185). -/
def execPend (t : BitVec 10) (n : BitVec 4) (pr : BitVec 2) (pn : Bool) (s : State) : Out :=
  .next (s.issue t.toNat n.toNat { op := .pend, pr := pr, pn := pn })

/-- MULSH (R185). -/
def execMulsh (t : BitVec 10) (n rd ra : BitVec 4) (fn : BitVec 11) (pr : BitVec 2) (pn : Bool) (s : State) : Out :=
  .next (s.issue t.toNat n.toNat { op := .mulsh rd ra fn, pr := pr, pn := pn })

/-- SRND (R185). -/
def execSrnd (t : BitVec 10) (n rd ra : BitVec 4) (imm : BitVec 15) (pr : BitVec 2) (pn : Bool) (s : State) : Out :=
  .next (s.issue t.toNat n.toNat { op := .srnd rd ra imm, pr := pr, pn := pn })

/-- TLU (R185). -/
def execTlu (t : BitVec 10) (n rd ra : BitVec 4) (imm : BitVec 15) (pr : BitVec 2) (pn : Bool) (s : State) : Out :=
  .next (s.issue t.toNat n.toNat { op := .tlu rd ra imm, pr := pr, pn := pn })

/-- LDS (R185). -/
def execLds (t : BitVec 10) (n rd ra : BitVec 4) (imm : BitVec 15) (pr : BitVec 2) (pn : Bool) (s : State) : Out :=
  .next (s.issue t.toNat n.toNat { op := .lds rd ra imm, pr := pr, pn := pn })

/-- STS (R185). -/
def execSts (t : BitVec 10) (n rd ra : BitVec 4) (imm : BitVec 15) (pr : BitVec 2) (pn : Bool) (s : State) : Out :=
  .next (s.issue t.toNat n.toNat { op := .sts rd ra imm, pr := pr, pn := pn })

/-- LDG (R185). -/
def execLdg (t : BitVec 10) (n rd ra rb : BitVec 4) (pr : BitVec 2) (pn : Bool) (s : State) : Out :=
  .next (s.issue t.toNat n.toNat { op := .ldg rd ra rb, pr := pr, pn := pn })

/-- STG (R185). -/
def execStg (t : BitVec 10) (n rd ra rb : BitVec 4) (pr : BitVec 2) (pn : Bool) (s : State) : Out :=
  .next (s.issue t.toNat n.toNat { op := .stg rd ra rb, pr := pr, pn := pn })

/-- BFX (R185). -/
def execBfx (t : BitVec 10) (n rd ra : BitVec 4) (imm : BitVec 15) (pr : BitVec 2) (pn : Bool) (s : State) : Out :=
  .next (s.issue t.toNat n.toNat { op := .bfx rd ra imm, pr := pr, pn := pn })

/-- BFI (R185). -/
def execBfi (t : BitVec 10) (n rd ra : BitVec 4) (imm : BitVec 15) (pr : BitVec 2) (pn : Bool) (s : State) : Out :=
  .next (s.issue t.toNat n.toNat { op := .bfi rd ra imm, pr := pr, pn := pn })

/-- HOPEN (R185). -/
def execHopen (t : BitVec 10) (n rd ra : BitVec 4) (pr : BitVec 2) (pn : Bool) (s : State) : Out :=
  .next (s.issue t.toNat n.toNat { op := .hopen rd ra, pr := pr, pn := pn })

/-- HSEND (R185). -/
def execHsend (t : BitVec 10) (n rd ra rb : BitVec 4) (pr : BitVec 2) (pn : Bool) (s : State) : Out :=
  .next (s.issue t.toNat n.toNat { op := .hsend rd ra rb, pr := pr, pn := pn })

/-- HRECV (R185). -/
def execHrecv (t : BitVec 10) (n rd ra rb : BitVec 4) (pr : BitVec 2) (pn : Bool) (s : State) : Out :=
  .next (s.issue t.toNat n.toNat { op := .hrecv rd ra rb, pr := pr, pn := pn })

/-- WAITSTEP (R185). -/
def execWaitstep (t : BitVec 10) (n : BitVec 4) (pr : BitVec 2) (pn : Bool) (s : State) : Out :=
  .next (s.issue t.toNat n.toNat { op := .waitstep, pr := pr, pn := pn })

end Sys2Proof.Machine
end

