-- ==== Sys2Proof/Machine/TileStep.lean ====
section
/-! DEFINITION. The step boundary in a tile, the close run, emission, enable and disable (spec/03_neuron_tile.md R98, R101,
R105–R117; spec/06_time_steps_and_overload.md R203, R205, R207). -/

namespace Sys2Proof.Machine
open Sys2Proof

/-! ## CLOSE (R112, R114, R116) -/

/-- The 64-bit step after a step whose low 8 bits are `t`, at or above `v` (R198). -/
def stepAfter (v : BitVec 64) (t : Nat) : BitVec 64 := BitVec.ofNat 64 (v.toNat + (t + 1 + 256 - v.toNat % 256) % 256)

def State.setPhase (s : State) (t p : Nat) : State := s.setF (TILE_STEP_PHASE t) p

/-- Clear INJ and CON of a parity (R205). -/
def State.clearParity (s : State) (t p : Nat) : State := (s.setF (tileInj t p) 0).setF (tileCon t p) 0

/-- Step 1 of R112: S, the counts of the closed parity, what the CLOSE says, the lift position; PHASE DRAIN. -/
def State.applyClose (s : State) (t : Nat) (c : CloseRec) : State :=
  let s := s.clearParity t c.step
  let s := s.modTile t fun x => { x with step := stepAfter x.step c.step, closeRec := none }
  let s := (((s.setF (TILE_STEP_STAT_EXH t) (bn c.exh)).setF (TILE_STEP_STAT_SHORT t) (bn c.short)).setF
    (TILE_STEP_STAT_EMITTED t) 0).setF (TILE_STEP_STAT_CLOSED t) c.step
  let (s, e) := (s.inc (TILE_CLOSES t)).liftStep t
  (s.modTile t fun x => { x with liftEnd := e }).setPhase t 1

/-- A stopped tile receives CLOSE(t) (R116); the EXH of the CLOSE before it is no longer applied (R218). -/
def State.stoppedClose (s : State) (t step : Nat) : State :=
  ((s.modTile t fun x => { x with step := s.ctl.step }).clearParity t step).setF (TILE_STEP_STAT_EXH t) 0

/-- CLOSE reaches tile `t`: applied in OPEN, recorded in another phase or while the tile drains (R114), R116 where it is stopped. -/
def State.tileCloseArrives (s : State) (t step : Nat) (short exh : Bool) : State :=
  if !s.tileUp t then s
  else if !s.en .tile t then s.stoppedClose t step
  else if s.phase t = 0 ∧ !s.draining .tile t then s.applyClose t { step := step, short := short, exh := exh }
  else s.modTile t fun x => { x with closeRec := some { step := step, short := short, exh := exh } }

/-- TILE_CLOSE (R112). -/
def execTileClose (t : BitVec 10) (step : BitVec 8) (short exh : Bool) (s : State) : Out :=
  .next (if s.en .tile t.toNat then s.tileCloseArrives t.toNat step.toNat short exh else s)

/-- TILE_STOPPED_CLOSE (R116). -/
def execTileStoppedClose (t : BitVec 10) (step : BitVec 8) (short exh : Bool) (s : State) : Out :=
  .next (if s.en .tile t.toNat then s else s.tileCloseArrives t.toNat step.toNat short exh)

/-! ## The close run (R98, R101, R112, R113) -/

/-- A thread has a touch or service run in progress. -/
def State.touching (s : State) (t : Nat) : Bool := (s.tile t).threads.any fun p => p.2.touch.isSome

/-- Masks of the lanes of a quad that are due: by ACTIVE or PENDING, and by the idle sweep of step `st`. -/
def State.dueLanes (s : State) (t n q st : Nat) : Nat × Nat :=
  let x := s.tile t
  (s.rangeLanes t n q).foldl (fun (m : Nat × Nat) j =>
    let i := 4 * q + j
    if s.blockOff t i then m
    else if bmGet x.active i || bmGet x.pend i then (m.1 + 2 ^ j, m.2)
    else if i % 128 = st % 128 ∧ 128 ≤ idle (s.neu t i) st then (m.1, m.2 + 2 ^ j)
    else m) (0, 0)

/-- The quads of a thread that have work in the RUN for step `st`, ascending. -/
def State.threadWork (s : State) (t n st : Nat) : List Work :=
  if s.neuronThread t n && !s.faulted t n then
    let q0 := s.thrBase t n / 4
    (List.range ((s.thrBase t n + s.thrCount t n - 1) / 4 + 1 - q0)).filterMap fun k =>
      let m := s.dueLanes t n (q0 + k) st
      if m = (0, 0) then none else some { thread := n, quad := q0 + k, due := m.1, sweep := m.2 }
  else []

/-- Neurons whose words the idle sweep of step `st` reads (R101). -/
def State.sweepReads (s : State) (t st : Nat) : List (Nat × Nat × Contain) :=
  if s.parClean t then []
  else (List.range 128).filterMap fun k =>
    let i := 128 * k + st % 128
    if (s.ownerThread t i).isSome && !s.blockOff t i then some (1, i, .block i) else none

/-- Threads in threshold-table mode that begin a run at step close (R56). -/
def State.tableThreads (s : State) (t : Nat) : List Nat :=
  (setBits 16 (s.f (TILE_RSC_TBL_TBL_MODE t))).filter fun n =>
    s.b (TILE_THR_BIND_EN t n) && !s.faulted t n && !(s.thread t n).stopped && !(s.neuronThread t n && s.threadOff t n)

/-- Words that the load of their thresholds reads. -/
def State.thrReads (s : State) (t : Nat) : List (Nat × Nat × Contain) :=
  if s.parClean t then []
  else (s.tableThreads t).flatMap fun n => (s.thrWords t n).map fun w => (3, w, .program n)

/-- PHASE RUN begins: thresholds loaded (R56), the work and the service threads listed. -/
def State.beginRun (s : State) (t : Nat) : State :=
  let st := (s.runSteps t).1
  let (s, _) := s.readEach t 1 (s.sweepReads t st)
  let s := (s.tableThreads t).foldl (fun s n => s.loadThr t n) s
  let svc := (List.range 16).filter fun n => s.serviceThread t n && !s.faulted t n && !(s.thread t n).stopped
  let work := (List.range 16).flatMap fun n => s.threadWork t n st
  (s.modTile t fun x => { x with work := work, svc := svc, commitPos := none, liftEnd := false }).setPhase t 3

/-- Everything of the closed step has finished (R112, R284). -/
def State.drainDone (s : State) (t : Nat) : Bool :=
  let x := s.tile t
  (x.half (s.curParity t)).isEmpty && s.coldOut t == 0 && x.plq.isEmpty && x.passStep.isNone && !s.immStall t && !s.touching t

/-- PHASE RUN begins once no threshold word that it loads is held (R381). -/
def State.goRun (s : State) (t : Nat) : State :=
  let (s, ok) := s.readEach t 1 (s.thrReads t)
  if ok then s.beginRun t else s

/-- TILE_DRAIN_DONE (R112, R287): ARM is sampled at a lift end. -/
def execTileDrainDone (t : BitVec 10) (s : State) : Out :=
  .next (
    let t := t.toNat
    if s.phase t = 1 ∧ s.drainDone t ∧ s.tileUp t then
      if (s.tile t).liftEnd then
        (s.modTile t fun x => { x with commitPos := some (s.f (CLU_LIFT_CTRL_ARM (clusterOf t))) }).setPhase t 2
      else s.goRun t
    else s)

/-- The COMMIT phase with ARM as sampled, then RUN; it waits while a word that it or the RUN needs is held (R381). -/
def State.goCommit (s : State) (t : Nat) : State :=
  let arm := (s.tile t).commitPos == some 1
  let (s, ok) := s.readEach t 1 (s.thrReads t)
  let (s, ok') := if ok && arm && (s.tile t).plOk then s.readEach t 2 (s.commitReads t) else (s, ok)
  if !ok' then s
  else ((s.commitPhase t arm).modTile t fun x => { x with lastLift := some (x.step - 1).toNat }).beginRun t

/-- TILE_COMMIT (R287, R288, R291). -/
def execTileCommit (t : BitVec 10) (s : State) : Out :=
  .next (if s.phase t.toNat = 2 ∧ s.tileUp t.toNat then s.goCommit t.toNat else s)

/-- Fetch and issue one instruction of the thread's touch in progress (R184, R193). -/
def State.fetchIssue (s : State) (t n : Nat) : State :=
  match (s.thread t n).touch with
  | none => s
  | some tc =>
    if tc.wait then s
    else
      s.checked t 3 1 [tc.pc] (.program n)
        (fun s =>
          match ninstrDecode (BitVec.ofNat 32 (s.prog t tc.pc)) with
          | some i => s.issueIn t n tc i
          | none => s.threadFault t n (if s.budget t n ≤ tc.issued then fBUDGET else fILLEGAL) tc.pc)
        id

/-- Issue up to `k` instructions of a thread's touch in progress. -/
def State.runProgram : Nat → State → Nat → Nat → State
  | 0, s, _, _ => s
  | k + 1, s, t, n => if (s.thread t n).touch.isSome then State.runProgram k (s.fetchIssue t n) t n else s

/-- A thread takes its next work in RUN and does it: a quad of a built-in model, or a touch or service run of a program up to its
end, a fault or a wait for replies. -/
def State.runThread (s : State) (t n : Nat) : State :=
  if s.custom t n then
    let s := s.openNext t n
    State.runProgram (s.budget t n + 1) s t n
  else if s.faulted t n then s
  else
    match (s.tile t).work.find? fun w => w.thread == n with
    | some w =>
      let (s', ok) := s.builtinQuad t n w.quad w.due w.sweep (s.runSteps t).1 (s.runSteps t).2
      if ok then s'.modTile t fun x => { x with work := x.work.erase w } else s'
    | none => s

/-- TILE_RUN (R113): thread `n` does the next of its work. -/
def execTileRun (t : BitVec 10) (n : BitVec 4) (s : State) : Out :=
  .next (if s.phase t.toNat = 3 ∧ s.tileUp t.toNat then s.runThread t.toNat n.toNat else s)

/-! ## Stopping (R115, R306, R571) -/

/-- The tile stops: STOPPED, TILE_STOP, EN and DRAINING 0, emitted for good (R207); a CLOSE recorded while it drained acts as R116
says. -/
def State.tileStop (s : State) (t : Nat) : State :=
  let v := (s.tile t).step.toNat
  let s := (s.setF (TILE_STOP_LO t) (v % 2 ^ 32)).setF (TILE_STOP_HI t) (v / 2 ^ 32)
  let s := (((s.setPhase t 4).setF (PAGE_EN .tile t) 0).setF (PAGE_DRAINING .tile t) 0).setF (TILE_STEP_STAT_EMITTED t) 1
  match (s.tile t).closeRec with
  | some c => (s.modTile t fun x => { x with closeRec := none }).stoppedClose t c.step
  | none => s

/-- A draining tile has completed its work. -/
def State.tileIdle (s : State) (t : Nat) : Bool := s.phase t == 0 && s.drainDone t && (s.tile t).emitq.isEmpty

/-- TILE_CTRL.EN = 0 (R115): the other half is discarded; the tile stops once the rest is done. -/
def State.tileDisable (s : State) (t : Nat) : State :=
  if !s.actv .tile t then s
  else
    let o := (s.tile t).step.toNat + (if s.phase t = 0 then 1 else 0)
    let s := (s.add (TILE_DROP_DISABLED t) ((s.tile t).half o).length).modTile t fun x => x.setHalf o []
    let s := s.setF (PAGE_DRAINING .tile t) 1
    if s.tileIdle t then s.tileStop t else s

/-- TILE_DISABLE (R115). -/
def execTileDisable (t : BitVec 10) (s : State) : Out := .next (if s.tileUp t.toNat then s.tileDisable t.toNat else s)

/-- A draining tile stops if its work is done. -/
def State.tileDrainCheck (s : State) (t : Nat) : State :=
  if s.draining .tile t && s.tileIdle t then s.tileStop t else s

/-- A forced stop in COMMIT (R306): the words committed by then, a number the spec leaves open, keep their new weights. -/
def State.commitAbandon (s : State) (t : Nat) : State :=
  if s.phase t = 2 ∧ (s.tile t).commitPos = some 1 ∧ (s.tile t).plOk then
    let (v, s) := s.drawFree
    let (s, _) := s.refine t
    let k := v.toNat % (s.plWords t + 1)
    ((List.range k).foldl (fun s v => s.commitWordAt t v) s).setF (TILE_PL_STAT_ABANDONED t) 1
  else s

/-- The forced path of a disable (R115, R571): everything held is discarded and counted, DRAIN_FORCED raised. -/
def State.tileForce (s : State) (t : Nat) : State :=
  let s := s.commitAbandon t
  let (s, cold) := s.coldDiscard t
  let x := s.tile t
  let s := s.add (DISCARD_COUNT .tile t) (x.half0.length + x.half1.length + cold + x.emitq.length)
  let s := s.modTile t fun x =>
    { x with half0 := [], half1 := [], emitq := [], plq := [], passStep := none, immWait := [], work := [], svc := [],
             commitPos := none, liftEnd := false, rebasing := none,
             threads := x.threads.map fun p => (p.1, { p.2 with touch := none }),
             bufs := x.bufs.filterMap fun b => if b.issued ∧ b.reply = none then some { b with dead := true } else none }
  (s.raise .tile t 30).tileStop t

/-! ## The end of RUN, emission (R107–R112) -/

/-- PHASE OPEN: the held half is the current one (R83, R112); a tile that drains may stop, and a recorded CLOSE begins its DRAIN (R114). -/
def State.enterOpen (s : State) (t : Nat) : State :=
  let s := (s.setPhase t 0).nextHwm t
  if s.draining .tile t then s.tileDrainCheck t
  else
    match (s.tile t).closeRec with
    | some c => s.applyClose t c
    | none => s

/-- TILE_RUN_END (R112): FIRED becomes the post bitmap, the modulators of the next step take effect (R281), the post pass is due
(R283), PHASE OPEN; a recorded CLOSE begins its DRAIN at once (R114). -/
def State.runEnd (s : State) (t : Nat) : State :=
  let s := s.modTile t fun x =>
    { x with post := x.fired, fired := 0, modPost := x.mod, mod := s.modRegs t, runDone := true,
             passStep := if x.plOk then some ((s.runSteps t).1) else none }
  s.enterOpen t

def execTileRunEnd (t : BitVec 10) (s : State) : Out :=
  .next (
    let t := t.toNat
    if s.phase t = 3 ∧ (s.tile t).work = [] ∧ (s.tile t).svc = [] ∧ !s.touching t ∧ s.tileUp t then s.runEnd t else s)

/-- The emitter has finished its head entry. -/
def State.emitPop (s : State) (t : Nat) : State :=
  (s.modTile t fun x => { x with emitq := x.emitq.drop 1 }).tileDrainCheck t

/-- A route miss (R109). -/
def State.routeMiss (s : State) (t : Nat) : State := (s.inc (TILE_ROUTE_MISS t)).raise .tile t 5

/-- The chip a template's DCHIP stands for (R108). -/
def State.templChip (s : State) (t : Nat) (d : Nat) : BitVec 10 :=
  BitVec.ofNat 10 (if s.b (TILE_ROUTE_CFG_LOCAL t) ∧ d = 0x3FF then s.chipId else d)

/-- The packet of a template (R108); none for another type. -/
def State.templPacket (s : State) (t : Nat) (e : Emit) (add w0 w1 : Nat) : Option Packet :=
  let ax (a : Nat) (idx : Bool) : BitVec 16 := BitVec.ofNat 16 (a + add + (if idx then e.neuron % 16 else 0))
  let k := BitVec.ofNat 4 e.payload
  let st := BitVec.ofNat 8 e.step
  match bits w0 63 60 with
  | 1 => some (.spikeUC (BitVec.ofNat 10 (bits w0 56 47)) (s.templChip t (bits w0 46 37)) (ax (bits w0 36 21) (bitAt w0 0)) k
      (BitVec.ofNat 2 (bits w0 16 15)) st)
  | 2 => some (.spikeMC (BitVec.ofNat 16 (bits w0 56 41)) (s.templChip t (bits w0 40 31)) (ax (bits w0 30 15) (bitAt w0 0)) k
      (BitVec.ofNat 2 (bits w0 10 9)) st (BitVec.ofNat 64 w1))
  | _ => none

/-- The head entry has handled `k` templates, the next one `w` words on; it leaves the queue after NT + 1. -/
def State.emitAdvance (s : State) (t : Nat) (e : Emit) (nt next : Nat) : State :=
  if nt < e.done + 1 then s.emitPop t
  else
    s.modTile t fun x => { x with emitq := { e with done := e.done + 1, next := next } :: x.emitq.drop 1 }

/-- The emitter handles one template of its head entry (R107–R110): a miss or a skipped template is counted; a packet enters the
router, or the emitter waits for room there. INJ grows by the packet's weight (R203). -/
def State.emitStep (s : State) (t : Nat) : State :=
  match (s.tile t).emitq with
  | [] => s
  | e :: _ =>
    let base := s.f (TILE_ROUTE_CFG_BASE t) * 512
    let a := base * 8 + 4 * (e.neuron / 16)
    s.checked t 0 1 [a / 8] (.routeMap a)
      (fun s =>
        let m := s.synW t (a / 8) / 2 ^ (a % 8 * 8) % 2 ^ 32
        let nt := bits m 14 13
        if !bitAt m 15 then (s.routeMiss t).emitPop t
        else
          let w := if e.done = 0 then base + 512 + bits m 12 0 else e.next
          if 32768 ≤ w then (s.routeMiss t).emitAdvance t e nt w
          else
            s.checked t 0 1 [w] .template
              (fun s =>
                let w0 := s.synW t w
                let len := if bits w0 63 60 = 2 then 2 else 1
                if 32768 < w + len then (s.routeMiss t).emitAdvance t e nt (w + len)
                else
                  s.checked t 0 1 [w + len - 1] .template
                    (fun s =>
                      match s.templPacket t e (bits m 31 16) w0 (s.synW t (w + 1)) with
                      | none => (s.routeMiss t).emitAdvance t e nt (w + len)
                      | some p =>
                        if bitAt (s.f MTR_INJ_HOLD_CLUSTER) (clusterOf t) then s
                        else
                          match s.inject t .loc p with
                          | none => s
                          | some s => ((s.addWrap (tileInj t e.step) p.injWeight).inc (TILE_PKT_OUT t)).emitAdvance t e nt (w + len))
                    (fun s => (s.routeMiss t).emitAdvance t e nt (w + len)))
              (fun s => (s.routeMiss t).emitAdvance t e nt (w + 1)))
      (fun s => s)

/-- EMIT_PACKET (R110). -/
def execEmitPacket (t : BitVec 10) (s : State) : Out := .next (if s.tileUp t.toNat then s.emitStep t.toNat else s)

/-- The emission for the open step is over: the close run has ended and the emitter is empty. -/
def State.emissionDone (s : State) (t : Nat) : Bool :=
  (s.phase t == 0 || s.phase t == 4) && (s.tile t).runDone && (s.tile t).emitq.isEmpty

/-- EMISSION_FINISHED (R110, R207). -/
def execEmissionFinished (t : BitVec 10) (s : State) : Out :=
  .next (
    let t := t.toNat
    if s.emissionDone t ∧ s.tileUp t then
      ((s.setF (TILE_STEP_STAT_EMITTED t) 1).modTile t fun x => { x with runDone := false }).tileDrainCheck t
    else s)

/-! ## Immediate touches (R105) -/

/-- Touches of a finished row that wait move into the queue as it gains room. -/
def State.refillImm (s : State) (t : Nat) : State :=
  s.modTile t fun x =>
    let k := 32 - x.immq.length
    { x with immq := x.immq ++ x.immWait.take k, immWait := x.immWait.drop k }

/-- The immediate touch at the head of the queue; an index that no immediate-fire thread owns is taken off without a touch. -/
def State.immTouch (s : State) (t : Nat) : State :=
  match (s.tile t).immq with
  | [] => s
  | i :: _ =>
    let pop := fun (s : State) => (s.modTile t fun x => { x with immq := x.immq.erase i }).refillImm t
    let drop := pop s
    match s.ownerThread t i with
    | none => drop
    | some n =>
      if !s.b (TILE_FIRE_IMM t n) || s.faulted t n then drop
      else if s.custom t n then
        if (s.thread t n).touch.isSome then State.runProgram (s.budget t n + 1) s t n
        else
          let s := (s.openNext t n).refillImm t
          State.runProgram (s.budget t n + 1) s t n
      else
        let (s', ok) := s.builtinQuad t n (i / 4) (2 ^ (i % 4)) 0 (s.tile t).step.toNat (s.tile t).step.toNat
        if ok then pop s' else s'

/-- IMMEDIATE_TOUCH (R105). -/
def execImmediateTouch (t : BitVec 10) (s : State) : Out :=
  .next (if s.phase t.toNat = 0 ∧ s.tileUp t.toNat then s.immTouch t.toNat else s)

/-! ## Enable (R117, R172, R308, R386) -/

/-- A bound thread fails the binding check (R172). -/
def State.bindFails (s : State) (t n : Nat) : Bool :=
  let c := s.thrCount t n
  let words := if s.thrTwo t n then 2 * c else c
  s.b (TILE_THR_BIND_EN t n) &&
    (decide (16384 < c) || decide (16384 < s.thrBase t n + words) ||
      (s.thrTwo t n && (s.thrBase t n % 4 != 0 || c % 4 != 0)))

/-- The signed 64-bit difference of the step counter that the tile has taken and TILE_STOP. -/
def State.stepsAway (s : State) (t : Nat) : Int :=
  sgn 64 ((s.tile t).step.toNat + 2 ^ 64 - (s.f (TILE_STOP_LO t) + 2 ^ 32 * s.f (TILE_STOP_HI t)))

/-- The rebase pass, where one is due, from place `k`; then OPEN. -/
def State.rebaseGo (s : State) (t k : Nat) : State :=
  let s := if 0 < s.stepsAway t then s.rebase t (s.stepsAway t).toNat k else s
  if (s.tile t).rebasing.isSome then s else s.enterOpen t

/-- A rebase pass that waited for a word goes on once its hold has ended. -/
def State.rebaseResume (s : State) (t : Nat) : State :=
  match (s.tile t).rebasing with
  | some k => (s.modTile t fun x => { x with rebasing := none }).rebaseGo t k
  | none => s

/-- TILE_CTRL.EN = 1 while the tile is idle. -/
def State.tileEnable (s : State) (t : Nat) : State :=
  if s.en .tile t then s
  else
    let s := s.modTile t fun x =>
      { x with step := s.ctl.step, half0 := [], half1 := [], active := 0, fired := 0, immq := [], immWait := [], work := [], svc := [],
               closeRec := none, commitPos := none, liftEnd := false, lastLift := none, runDone := false, rebasing := none, asleep := false,
               mod := s.modRegs t, threads := x.threads.map fun p => (p.1, { thr := p.2.thr }) }
    let s := s.modCluster (clusterOf t) fun x =>
      { x with liftDone := min x.liftDone s.ctl.step.toNat, promoDone := min x.promoDone s.ctl.step.toNat }
    let s := (List.range 8).foldl (fun s k => s.setF (TILE_NDIS t k) 0) s
    let s := (List.range 16).foldl (fun s n => (s.setF (TILE_THR_PROG_FAULT t n) 0).setF (TILE_THR_PROG_FCODE t n) 0) s
    let s := ((s.hodCloseThread t none).plCheck t).setF (PAGE_EN .tile t) 1
    let s := (List.range 16).foldl (fun s n =>
      if s.bindFails t n then s.threadFault t n fBIND (s.f (TILE_THR_PROG_ENTRY t n)) else s) s
    (s.setF (TILE_STEP_STAT_EMITTED t) 1).rebaseGo t 0

/-- TILE_ENABLE (R117). -/
def execTileEnable (t : BitVec 10) (s : State) : Out := .next (if s.tileUp t.toNat then s.tileEnable t.toNat else s)

/-! ## What the tile reports (R207) -/

/-- Emitted for the open step; a stopped tile always. -/
def State.tileEmitted (s : State) (t : Nat) : Bool := !s.en .tile t || s.b (TILE_STEP_STAT_EMITTED t)

/-- Passive; a stopped tile always, since it never holds a step open (R116). -/
def State.tilePassive (s : State) (t : Nat) : Bool :=
  !s.en .tile t || !((List.range 16).any fun n => s.neuronThread t n && s.b (TILE_FIRE_IMM t n)) ||
    (let x := s.tile t
     (x.half (s.curParity t)).isEmpty && x.immq.isEmpty && x.immWait.isEmpty && x.emitq.isEmpty && s.coldOut t == 0)

end Sys2Proof.Machine
end

