-- ==== Sys2Proof/Machine/Cores.lean ====
section
/-! DEFINITION. Firmware cores: watchdogs, crashes and restart, release, hod ports; the footing triggers a crash can raise
(spec/14_firmware_and_hods.md R449–R459, R466–R473; spec/15_start_recovery_footing.md R500–R502). -/

namespace Sys2Proof.Machine
open Sys2Proof

/-! ## Footing triggers (R500–R502, R507) -/

/-- Step 10 has ended with a mounted store or skipped (R501, R506). -/
def State.step10Done (s : State) : Bool :=
  let r := bits (s.rd (BOOT_LOG 10).addr).toNat 23 20
  r == 1 || r == 2 || r == 3 || r == 5

/-- A footing trigger (R500–R502, first row; R507): latched, or held pending before step 10 has ended. At the latch the FOOT pins
go to their SAFE levels, READY goes low, votes freeze and the step controller stops with its step open. -/
def State.footTrigger (s : State) (code : Nat) : State :=
  if s.b FOOT_STAT_ACTIVE then s.setF FOOT_STAT_SEEN (s.f FOOT_STAT_SEEN ||| 2 ^ (code - 1))
  else if !s.step10Done then
    if code = 3 ∨ code = 4 ∨ code = 5 then
      { s with foot := { s.foot with held := if s.foot.held.contains code then s.foot.held else s.foot.held ++ [code] } }
    else s
  else
    let s := (((s.setF FOOT_STAT_ACTIVE 1).setF FOOT_STAT_UNAVAIL 0).setF FOOT_STAT_TRIGGER code).setF FOOT_STAT_SEEN (2 ^ (code - 1))
    let s := ((s.inc FOOT_STAT_ENTRIES).setF FOOT_STAT_PINS (s.f FOOT_CFG_SAFE &&& s.footPins)).raise .boot 0 2
    let s := (s.setF TMR_STEP_STAT_RUNNING 0).setF TMR_STEP_CTRL_RUN 0
    { s with ready := false, foot := { entering := true, since := s.tb.toNat },
             ctl := { s.ctl with active := false, gap := false, forced := false, held := false, holdNext := false } }.gpioSync

/-! ## Cores -/

/-- States of FWC_COREk_STAT. -/
def cOFF : Nat := 0
def cRUN : Nat := 1
def cRESTARTING : Nat := 2
def cHELD : Nat := 3
def cLOAD : Nat := 4

def State.core (s : State) (k : Nat) : Core := Map.get {} s.cores k
def State.setCore (s : State) (k : Nat) (c : Core) : State := { s with cores := Map.set {} s.cores k c }
def State.modCore (s : State) (k : Nat) (g : Core → Core) : State := s.setCore k (g (s.core k))

def State.coreState (s : State) (k : Nat) : Nat := s.f (FWC_CORE_STAT_STATE k)
def State.setCoreState (s : State) (k v : Nat) : State := s.setF (FWC_CORE_STAT_STATE k) v

/-- The scheduler firmware runs. -/
def State.schedRuns (s : State) : Bool := s.coreState 2 == cRUN
/-- The security firmware runs. -/
def State.secRuns (s : State) : Bool := s.coreState 0 == cRUN

/-- Votes are frozen: the power-management core restarts or is held (R517), or footing mode is active (R502). -/
def State.frozen (s : State) : Bool :=
  s.coreState 1 == cRESTARTING || s.coreState 1 == cHELD || s.b FOOT_STAT_ACTIVE

/-- Base and size of a core's memory (R450, R451). -/
def coreMem (k : Nat) : Nat × Nat :=
  match k with
  | 0 => (0x300010000, 0x40000)
  | 1 => (0x303000000, 0x20000)
  | 2 => (0x302000000, 0x80000)
  | k => (shmBase (k - 3), 0x40000)

/-- Router and gateway bit at which a core's requests enter the mortar (R14, R449). -/
def corePlace (k : Nat) : Nat × Bool := if k < 3 then (sysRouter, true) else (tileOf (k - 3) 27, false)

/-- The footing cluster (R500). -/
def State.footCluster (s : State) : Nat := if s.b FOOT_STAT_SEL then 15 else 0

/-- N_FAULT (R471), sent while the scheduler firmware runs. -/
def State.nFault (s : State) (kind core cluster : Nat) : State :=
  if s.schedRuns then
    s.notify 0x4002 ([kind, core, cluster, if core < 19 then s.f (FWC_CORE_STAT_CAUSE core) else 0] ++
      bytesBE 4 (if core < 19 then s.f (FWC_CORE_STAT_CRASHES core) else 0) ++ bytesBE 8 s.tb.toNat)
  else s

def coreCluster (k : Nat) : Nat := if k < 3 then 0xFF else k - 3

/-- The crash of a core now would be the third within 10 s of the time base: a repeated crash (R459). -/
def State.crashRepeats (s : State) (k : Nat) : Bool :=
  match (s.core k).crash2 with
  | some t => decide (s.tb.toNat - t < 1000000000)
  | none => false

/-- A running core crashes (R457): CAUSE, CRASH, the crash times and the record of R555; the security core is held, the others begin
their restart, and the power-management core's absence clamps both wythes (R459). -/
def State.crashBegin (s : State) (k cause : Nat) : State :=
  if s.coreState k ≠ cRUN then s
  else
    let rep := s.crashRepeats k
    let s := s.modCore k fun c => { c with crash2 := c.crash1, crash1 := some s.tb.toNat, rep := rep }
    let s := ((s.setF (FWC_CORE_STAT_CAUSE k) cause).raise .fwc 0 0).recSample 0x21 k
    let s := s.inc (FWC_CORE_STAT_CRASHES k)
    if k = 0 then (s.setCoreState 0 cHELD).raise .fwc 0 1
    else
      let s := s.setCoreState k cRESTARTING
      if k = 1 then s.setF PWR_LEVEL_CLAMP 1 else s

/-- The endpoint of core `k` at other controllers (R467). -/
def State.coreFrom (s : State) (k : Nat) : HodFrom := .remote s.chipId (corePlace k).1 (corePlace k).2

/-- What is left of a core's port and registers after a reset of it (R458, R459): the crash times; a reply still due to it is discarded
on arrival. -/
def Core.fresh (c : Core) (now : Nat) : Core :=
  { kick := now, crash1 := c.crash1, crash2 := c.crash2, rep := c.rep, stale := c.stale || (c.busy && !c.retry && c.rsp.isNone) }

/-- Steps 1 to 4 of a restart (R458): the port, the blocked records and the channels of the core on this chip. -/
def State.coreClear (s : State) (k : Nat) : State :=
  let who := s.coreFrom k
  let s := s.modCore k fun c => c.fresh s.tb.toNat
  let s := (List.range 16).foldl (fun s c =>
    let me : HodFrom := if k = c + 3 then .core else who
    let s := s.unblock c me
    (s.hodCloseWhere c fun h => if k = c + 3 then h.kind == 0 else h.endpoint == some who).1) s
  if 3 ≤ k then s.setF (CLU_LIFT_CTRL_ARM (k - 3)) 0 else s

/-- Tiles of a cluster. -/
def clusterTiles (c : Nat) : List Nat := (List.range 64).map fun i => tileOf c i

/-- The control core of cluster `c` is held (R459): FAULT sets, and the scheduler firmware disables the cluster's tiles and tells the
host of the cluster, and of footing if it is the footing cluster. -/
def State.clusterFault (s : State) (c : Nat) : State :=
  let s := s.setF (PAGE_FAULT .clu c) 1
  if !s.schedRuns then s
  else
    let s := ((clusterTiles c).filter fun t => s.tileUp t).foldl (fun s t => s.tileDisable t) s
    let s := s.nFault 3 (3 + c) c
    if c = s.footCluster then s.nFault 4 (3 + c) c else s

/-- The restart of R458 and the consequences of R459. -/
def State.coreRestart (s : State) (k : Nat) : State :=
  if s.coreState k ≠ cRESTARTING then s
  else
    let s := s.coreClear k
    if !(s.core k).rep then (s.setCoreState k cRUN).nFault 1 k (coreCluster k)
    else if k = 2 then (s.setCoreState k cRUN).footTrigger 2
    else
      let s := (s.setCoreState k cHELD).raise .fwc 0 1
      if 3 ≤ k then s.clusterFault (k - 3) else s.nFault 2 k 0xFF

/-- CORE_CRASH (R457–R459): a core that still runs crashes with `cause`; the restart is carried out. -/
def execCoreCrash (k : BitVec 5) (cause : BitVec 3) (s : State) : Out :=
  .next (if k.toNat < 19 ∧ 1 ≤ cause.toNat ∧ cause.toNat ≤ 3 then (s.crashBegin k.toNat cause.toNat).coreRestart k.toNat else s)

/-- TIMEOUT of FWC_WDOGk in ms; 0 acts as 1. -/
def State.wdogMs (s : State) (k : Nat) : Nat := max 1 (s.f (FWC_WDOG_TIMEOUT k))

/-- WATCHDOG_EXPIRE (R457): the watchdog of an enabled, running core expires. -/
def execWatchdogExpire (k : BitVec 5) (s : State) : Out :=
  .next (if k.toNat < 19 && s.b (FWC_WDOG_EN k.toNat) then s.crashBegin k.toNat 1 else s)

/-- FATAL_TRAP (R457). -/
def execFatalTrap (k : BitVec 5) (s : State) : Out := .next (if k.toNat < 19 then s.crashBegin k.toNat 2 else s)

/-- PANIC (R457): a write of 1 to FWC_KICKk.PANIC by core `k`. -/
def execPanic (k : BitVec 5) (s : State) : Out := .next (if k.toNat < 19 then s.crashBegin k.toNat 3 else s)

/-- A write of 1 to FWC_KICKk.KICK. -/
def State.kick (s : State) (k : Nat) : State := s.modCore k fun c => { c with kick := s.tb.toNat }

/-- KICK (R457). -/
def execKick (k : BitVec 5) (s : State) : Out := .next (if k.toNat < 19 then s.kick k.toNat else s)

/-- A core starts at its restart vector with its watchdog restarted (R457, R473). -/
def State.coreStart (s : State) (k : Nat) : State := (s.setCoreState k cRUN).kick k

/-- RELEASE of FWC_COREk_STAT (R473): only in state LOAD. -/
def State.coreRelease (s : State) (k : Nat) : State := if s.coreState k = cLOAD then s.coreStart k else s

/-- CORE_RELEASE (R473). -/
def execCoreRelease (k : BitVec 5) (s : State) : Out := .next (if k.toNat < 19 then s.coreRelease k.toNat else s)

/-! ## Hod ports (R466) -/

/-- The chip HPTGT names (R236, R466). -/
def State.hpChip (s : State) (tgt : Nat) : Nat :=
  if bitAt tgt 31 then bits tgt 25 16 else if bits tgt 25 16 = 0x3FF then s.chipId else bits tgt 25 16

/-- Tag of a hod port's requests: TAG[7] marks a blocking SEND, the rest names the core. -/
def hpTag (k : Nat) (block : Bool) : Nat := 0x60 + k + (if block then 128 else 0)

/-- The HOD_MSG request of core `k`'s port (R242, R466). -/
def State.hpPacket (s : State) (k op arg : Nat) (block : Bool) (d : List (BitVec 64)) : Packet :=
  let tgt := (s.core k).hptgt.toNat
  let c := tgt % 16
  let (r, gw) := corePlace k
  .hodMsg { dtile := BitVec.ofNat 10 (tileOf c 27), dchip := BitVec.ofNat 10 (s.hpChip tgt), dgw := false,
            stile := BitVec.ofNat 10 r, schip := BitVec.ofNat 10 s.chipId, sgw := gw,
            tag := BitVec.ofNat 8 (hpTag k block), size := if op = 0 then 0 else 3,
            addr := BitVec.ofNat 38 (shmBase c) } (BitVec.ofNat 4 op) (BitVec.ofNat 16 arg) d

/-- Address of the 32-byte entry HPBUF names in core memory. -/
def State.hpBufAddr (s : State) (k : Nat) : Nat :=
  (coreMem k).1 + (s.core k).hpbuf.toNat / 32 * 32 % (coreMem k).2

/-- The entry that a SEND takes from core memory. What a control core's port sends where a word fails its parity the spec does not say:
a free value (R391, notes/assumptions/129.md). -/
def State.hpEntry (s : State) (k : Nat) : State × List (BitVec 64) :=
  if k < 3 then (s, hodFlits (BitVec.ofNat 256 (s.ldN 32 (s.hpBufAddr k))))
  else
    match s.shmLoad (k - 3) (s.hpBufAddr k - shmBase (k - 3)) 32 pCORE with
    | (s, some v) => (s, hodFlits (BitVec.ofNat 256 v))
    | (s, none) =>
      let a := s.drawFree
      let b := a.2.drawFree
      let d := b.2.drawFree
      let e := d.2.drawFree
      (e.2, [a.1, b.1, d.1, e.1])

/-- The entry that a RECV brings goes to core memory. -/
def State.hpStore (s : State) (k v : Nat) : State :=
  if k < 3 then State.stN 32 s (s.hpBufAddr k) v else s.shmStore (k - 3) (s.hpBufAddr k - shmBase (k - 3)) 32 v

/-- One attempt of the operation in HPCMD. A port whose target is its own cluster's controller operates it directly; another
request enters the mortar, and waits to be tried again where there is no room, or its reply space waits for a reply to the core as it was
before a restart (R458). -/
def State.hpAttempt (s : State) (k : Nat) : State :=
  let c := s.core k
  let v := c.hpcmd.toNat
  let op := bits v 30 29 - 1
  let arg := bits v 15 0
  let block := bitAt v 28 && op == 1
  let tc := c.hptgt.toNat % 16
  let (s, d) := if op = 1 then s.hpEntry k else (s, [])
  if 3 ≤ k ∧ tc = k - 3 ∧ s.hpChip c.hptgt.toNat = s.chipId then
    let (s, a) := s.hodServe tc op arg .core block d
    s.modCore k fun c => { c with retry := false, rsp := some (a.st, a.data op) }
  else if c.stale then s.modCore k fun c => { c with retry := true }
  else
    match s.inject (corePlace k).1 (if (corePlace k).2 then .gw else .loc) (s.hpPacket k op arg block d) with
    | some s => s.modCore k fun c => { c with retry := false }
    | none => s.modCore k fun c => { c with retry := true }

/-- HPCMD written with `v` (R466), HPTGT and HPBUF holding `tgt` and `buf`; ignored while BUSY and unless the core runs. -/
def State.hpStart (s : State) (k v tgt buf : Nat) : State :=
  if s.coreState k ≠ cRUN ∨ (s.core k).busy then s
  else
    let s := s.modCore k fun c =>
      { c with hpcmd := BitVec.ofNat 32 v, hptgt := BitVec.ofNat 32 tgt, hpbuf := BitVec.ofNat 32 buf, busy := true, rsp := none,
               retry := false, irq16 := false, first := s.tb.toNat }
    if bitAt v 28 && bits v 30 29 == 2 && decide (k < 2) then
      s.modCore k fun c => { c with busy := false, hpstat := BitVec.ofNat 32 hsIllegal, irq16 := true }
    else s.hpAttempt k

/-- The reply to core `k`'s request has arrived with hod status `st` and data. -/
def State.hpReply (s : State) (k st : Nat) (d : List (BitVec 64)) : State :=
  if (s.core k).stale then s.modCore k fun c => { c with stale := false }
  else if (s.core k).busy then s.modCore k fun c => { c with rsp := some (st, d) }
  else s

/-- Complete the operation with status `st` and, for OPEN, a handle. -/
def State.hpDone (s : State) (k st handle : Nat) : State :=
  s.modCore k fun c =>
    { c with busy := false, retry := false, rsp := none, irq16 := true, hpstat := BitVec.ofNat 32 (handle * 65536 + st) }

/-- The port takes its reply (R466): a blocking SEND answered FULL waits to be repeated, everything else completes. -/
def State.hpComplete (s : State) (k : Nat) : State :=
  let c := s.core k
  let v := c.hpcmd.toNat
  match c.rsp with
  | none => s
  | some (st, d) =>
    if !c.busy then s
    else if bits v 30 29 = 2 ∧ bitAt v 28 ∧ st = hsFull then s.modCore k fun c => { c with rsp := none, retry := true }
    else
      let s := if bits v 30 29 = 3 ∧ st = hsOk then s.hpStore k (hodEntry d).toNat else s
      s.hpDone k st (if bits v 30 29 = 1 ∧ st = hsOk then (d.headD 0).toNat % 65536 else 0)

/-- HPCMD_OPEN (R466). -/
def execHpcmdOpen (k : BitVec 5) (tgt : BitVec 32) (svc : BitVec 16) (s : State) : Out :=
  .next (if k.toNat < 19 then s.hpStart k.toNat (2 ^ 29 + svc.toNat) tgt.toNat (s.core k.toNat).hpbuf.toNat else s)

/-- HPCMD_SEND (R466). -/
def execHpcmdSend (k : BitVec 5) (tgt buf : BitVec 32) (block : Bool) (handle : BitVec 16) (s : State) : Out :=
  .next (if k.toNat < 19 then
    s.hpStart k.toNat (2 ^ 30 + (if block then 2 ^ 28 else 0) + handle.toNat) tgt.toNat buf.toNat else s)

/-- HPCMD_RECV (R466). -/
def execHpcmdRecv (k : BitVec 5) (tgt buf : BitVec 32) (handle : BitVec 16) (s : State) : Out :=
  .next (if k.toNat < 19 then s.hpStart k.toNat (2 ^ 30 + 2 ^ 29 + handle.toNat) tgt.toNat buf.toNat else s)

/-- HOD_SEND_RETRY (R466): the RETRY interval ends; the port tries again. -/
def execHodSendRetry (k : BitVec 5) (s : State) : Out :=
  .next (if (s.core k.toNat).busy && (s.core k.toNat).retry then s.hpAttempt k.toNat else s)

/-- HOD_SEND_TIMEOUT (R466): HOD_SEND_TIMEOUT has passed since the first attempt of a blocking SEND that waits to retry. -/
def execHodSendTimeout (k : BitVec 5) (s : State) : Out :=
  let c := s.core k.toNat
  .next (if c.busy && c.retry && bitAt c.hpcmd.toNat 28 then s.hpDone k.toNat hsTimeout 0 else s)

/-- HOD_PORT_COMPLETE (R466). -/
def execHodPortComplete (k : BitVec 5) (s : State) : Out := .next (s.hpComplete k.toNat)

/-! ## HOD_MSG at a controller (R242, R243, R463, R469) -/

/-- A HOD_MSG reaches the controller its router serves: the operation is done and the reply queued at the router. Where there
is no room for the reply, the request waits. -/
def State.hodMsg (s : State) (h : ReqHead) (op : Nat) (svc : Nat) (d : List (BitVec 64)) : Option State :=
  let r := h.dtile.toNat
  let c := clusterOf r
  let reply (s : State) (st : Status) (a : HodAns) : Option State :=
    s.inject r .loc (if op = 0 ∨ op = 2 then .readRsp (rspOf h st a.st) (if st = .ok then a.data op else [])
      else .writeAck (rspOf h st a.st))
  if !s.domOn (dCLU c) then reply s .domainOff { st := 0 }
  else
    let (s', a) := s.hodServe c op svc (.remote h.schip.toNat h.stile.toNat h.sgw) (bitAt h.tag.toNat 7) d
    reply s' .ok a

/-- HOD_OPEN (R463). -/
def execHodOpen (h : ReqHead) (svc : BitVec 16) (s : State) : Out := .next ((s.hodMsg h 0 svc.toNat []).getD s)

/-- HOD_SEND (R463). -/
def execHodSend (h : ReqHead) (handle : BitVec 16) (data : List (BitVec 64)) (s : State) : Out :=
  .next ((s.hodMsg h 1 handle.toNat data).getD s)

/-- HOD_RECV (R463). -/
def execHodRecv (h : ReqHead) (handle : BitVec 16) (s : State) : Out := .next ((s.hodMsg h 2 handle.toNat []).getD s)

end Sys2Proof.Machine
end

