-- ==== Sys2Proof/Machine/MemAccess.lean ====
section
/-! DEFINITION. Reads and writes of memories by address: tile windows, cluster shared memories, firmware memories, external memory
(spec/01_architecture.md R23–R27; spec/11_onchip_memory_integrity.md R375, R379–R385, R391–R395). -/

namespace Sys2Proof.Machine
open Sys2Proof

/-- How an access at its target comes out: with an outcome and the bytes read, or it waits on a held word. -/
inductive Served
  | done (s : State) (st : Status) (bs : List Nat)
  | wait (s : State)

/-! ## Tile windows (R24–R26) -/

/-- Memory code, first word and bytes per word of a tile window offset. -/
def tileMem (off : Nat) : Nat × Nat × Nat :=
  if off < 0x40000 then (0, off / 8, 8)
  else if off < 0x50000 then (1, (off - 0x40000) / 4, 4)
  else if off < 0x60000 then (2, (off - 0x50000) / 4, 4)
  else (3, (off - 0x60000) / 4, 4)

/-- Words that `n` bytes from `off` touch, each with the mask of its bytes that they cover. -/
def tileWords (off n : Nat) : List (Nat × Nat) :=
  let (_, w, k) := tileMem off
  let o := off % k
  (List.range ((o + n + k - 1) / k)).map fun i =>
    (w + i, ((List.range k).filter fun b => decide (o ≤ i * k + b) && decide (i * k + b < o + n)).foldl (fun a b => a + 2 ^ b) 0)

/-- The words of a mortar read, checked (R379–R385): `k` takes the read on where every word is good. -/
def State.tileCheck (t m : Nat) (k : State → Served) : List (Nat × Nat) → State → Served
  | [], s => k s
  | (w, cover) :: r, s =>
    match s.wordCheck t m pMORTAR w cover .none with
    | .good s => State.tileCheck t m k r s
    | .wait s => .wait s
    | .bad s => .done (s.wordTook t m pMORTAR w .none) .dataFail []

/-- The tile's banks take accesses: it is there, its domain on, its banks not asleep (R4, R27, R375). -/
def State.tileServes (s : State) (t : Nat) : Bool := s.tileUp t && !(s.tile t).asleep

/-- The tile's banks return from their selections: STOP has been cleared (R375, R376). -/
def State.tileFilling (s : State) (t : Nat) : Bool := s.tileUp t && (s.tile t).asleep && !s.b (PWR_RET_STOP (clusterOf t))

/-- A read of `n` bytes at offset `off` of a tile window. -/
def State.tileRead (s : State) (t off n : Nat) : Served :=
  let (m, _, _) := tileMem off
  let ws := tileWords off n
  if s.tileFilling t then .wait s
  else if !s.tileServes t || ws.any (fun w => s.retiredWord t m w.1) then .done s .domainOff []
  else
    let k := fun (s : State) => Served.done s .ok (s.bytes n (winBase t + off))
    if s.parClean t then k s else State.tileCheck t m k ws s

/-- Bytes written make their parity good (R379). -/
def State.tileFresh (s : State) (t m : Nat) (ws : List (Nat × Nat)) : State :=
  if (s.tile t).bad = [] then s else ws.foldl (fun s w => s.freshBytes t m w.1 w.2) s

/-- A write waits on a word that the hardware refetches; a word that the firmware corrects is corrected by such a write (R381, R384). -/
def State.writeWaits (s : State) (t m w : Nat) : Bool :=
  (s.tile t).holds.any fun h => h.mem == m && h.word == w && !h.fw && !h.failed

/-- A write of bytes at offset `off` of a tile window (R24–R26). -/
def State.tileWrite (s : State) (t off : Nat) (bs : List Nat) : Served :=
  let (m, w, _) := tileMem off
  let ws := tileWords off bs.length
  if s.tileFilling t then .wait s
  else if !s.tileServes t || ws.any (fun x => s.retiredWord t m x.1) then .done s .domainOff []
  else if m = 2 ∧ s.en .tile t then .done s .readOnly []
  else if ws.any fun x => s.writeWaits t m x.1 then .wait s
  else if m = 2 then
    .done ((List.range (bs.length / 4)).foldl (fun s i =>
      s.setAcc t (w + i) (sgn 20 (bs.getD (4 * i) 0 + 256 * bs.getD (4 * i + 1) 0 + 65536 * bs.getD (4 * i + 2) 0))) s) .ok []
  else .done ((s.stBytes (winBase t + off) bs).tileFresh t m ws) .ok []

/-! ## Cluster shared memory (R391, R392, R394, R395, R451, R463) -/

/-- The secure window: first offset and end; the end is 0 where there is none (R394). -/
def State.secWin (s : State) : Nat × Nat :=
  if s.b (CLU_SEC_WIN_EN 0) then
    (s.f (CLU_SEC_WIN_BASE 0) * 0x10000, min 0x400000 ((s.f (CLU_SEC_WIN_BASE 0) + s.f (CLU_SEC_WIN_SIZE 0) + 1) * 0x10000))
  else (0, 0)

/-- The access touches the window while it is being wiped (R395). -/
def State.shmWiping (s : State) (c off n : Nat) : Bool :=
  c == 0 && s.b (CLU_SEC_WIN_WIPING 0) && decide (off < s.secWin.2) && decide (s.secWin.1 < off + n)

/-- `n` bytes that the spec does not give. -/
def State.drawBytes (s : State) (n : Nat) : List Nat × State :=
  (List.range n).foldl (fun (r : List Nat × State) _ => let (v, s) := r.2.drawFree; (r.1 ++ [v.toNat % 256], s)) ([], s)

/-- Bytes of shared memory as a read shows them. How the controller lays channels out in the hod area (R451, R460) the spec does not say:
its bytes are free. -/
def State.shmShown (s : State) (c off n : Nat) : State × List Nat :=
  let bs := s.bytes n (shmBase c + off)
  if off < 0x50000 ∧ 0x40000 < off + n then
    let (fs, s) := s.drawBytes n
    (s, bs.zipIdx.map fun p => if 0x40000 ≤ off + p.2 ∧ off + p.2 < 0x50000 then fs.getD p.2 0 else p.1)
  else (s, bs)

/-- A read of cluster shared memory through a port (R398, R401). -/
def State.shmRead (s : State) (c off n port : Nat) : State × Status × List Nat :=
  if !s.domOn (dCLU c) || s.shmRetired c off then (s, .domainOff, [])
  else if s.shmWiping c off n then (s, .denied, [])
  else
    match s.shmBad c off n with
    | some w => (s.shmError c port w, .dataFail, [])
    | none => let r := s.shmShown c off n; (r.1, .ok, r.2)

/-- A write of cluster shared memory. One into the hod area breaks the entries it holds (R463). -/
def State.shmWrite (s : State) (c off : Nat) (bs : List Nat) : State × Status :=
  if !s.domOn (dCLU c) || s.shmRetired c off then (s, .domainOff)
  else if s.shmWiping c off bs.length then (s, .denied)
  else
    let s := (s.stBytes (shmBase c + off) bs).shmFresh c off bs.length
    (if 0x40000 ≤ off ∧ off < 0x50000 then s.hodCorrupt c else s, .ok)

/-! ## Any memory -/

/-- A read of `n` bytes at local address `a` that is no register page, at its target; `port`: by which port of a shared memory (R401). -/
def State.memRead (s : State) (a n : Nat) (port : Nat := pMORTAR) : Served :=
  match s.place a with
  | .tile t off => s.tileRead t off n
  | .shm c off => let r := s.shmRead c off n port; .done r.1 r.2.1 r.2.2
  | .fw d => if s.domOn d then .done s .ok (s.bytes n a) else .done s .domainOff []
  | .ext .. => let r := s.ldExt a n; .done r.1 r.2.1 r.2.2
  | _ => .done s .unmapped []

/-- A write of bytes at local address `a` that is no register page, at its target. The boot ROM is read-only (R450). -/
def State.memWrite (s : State) (a : Nat) (bs : List Nat) : Served :=
  match s.place a with
  | .tile t off => s.tileWrite t off bs
  | .shm c off => let r := s.shmWrite c off bs; .done r.1 r.2 []
  | .fw d =>
    if !s.domOn d then .done s .domainOff []
    else if a < 0x300010000 then .done s .readOnly []
    else .done (s.stBytes a bs) .ok []
  | .ext .. => let r := s.stExt a bs; .done r.1 r.2 []
  | _ => .done s .unmapped []

/-- Chip and local address of a 48-bit global address (R20). -/
def State.splitAddr (s : State) (ga : Nat) : Nat × Nat :=
  (if ga / 2 ^ 38 % 1024 = 0x3FF then s.chipId else ga / 2 ^ 38 % 1024, ga % 2 ^ 38)

/-- An outcome among those that another chip may answer (R27). -/
def State.drawStatus (s : State) (write : Bool) : Status × State :=
  let (v, s) := s.drawFree
  (match v.toNat % 7 with
    | 0 => .domainOff
    | 1 => .unmapped
    | 2 => if write then .readOnly else .ok
    | 3 => .denied
    | 4 => .dataFail
    | 5 => .unreachable
    | _ => .ok, s)

/-- A tie towards chip `d` is UP (R328, R330). -/
def State.chipReached (s : State) (d : Nat) : Bool := s.tieUp (s.tieRoute d none).tie

/-- An engine's access to another chip: UNREACHABLE without a way there; else what that chip answers, which is free here. DESIGN CHOICE
(notes/assumptions/30.md): the request and its reply are one step. -/
def State.engFar (s : State) (chip n : Nat) (write : Bool) : Served :=
  if !s.chipReached chip then .done s .unreachable []
  else
    let (st, s) := s.drawStatus write
    if write || st != .ok then .done s st [] else let (bs, s) := s.drawBytes n; .done s .ok bs

/-- The port by which an initiator's access reaches a cluster shared memory (R401): its own control core's, else the mortar's. -/
def shmPort (ini : Nat) (p : Place) : Nat :=
  match p with
  | .shm c _ => if ini = iCLU c then pCORE else pMORTAR
  | _ => pMORTAR

/-- A hardware engine or a firmware core at router `r` reads `n` bytes at a global address as initiator `ini`, its request and the reply
taken as one step (R19, R20, R27). -/
def State.engRead (s : State) (ini ga n : Nat) (r : Nat := sysRouter) : Served :=
  let (chip, a) := s.splitAddr ga
  if chip ≠ s.chipId then s.engFar chip n false
  else if !s.fwAllows ini a false then .done (s.fwRefuse ini a false) .denied []
  else
    match s.pathRefuses r (s.place a) with
    | some s => .done s .domainOff []
    | none => s.memRead a n (shmPort ini (s.place a))

/-- The same for a write. -/
def State.engWrite (s : State) (ini ga : Nat) (bs : List Nat) (r : Nat := sysRouter) : Served :=
  let (chip, a) := s.splitAddr ga
  if chip ≠ s.chipId then s.engFar chip bs.length true
  else if !s.fwAllows ini a true then .done (s.fwRefuse ini a true) .denied []
  else
    match s.pathRefuses r (s.place a) with
    | some s => .done s .domainOff []
    | none => s.memWrite a bs

/-- A read whose wait counts as a failure. -/
def Served.take : Served → State × Status × List Nat
  | .done s st bs => (s, st, bs)
  | .wait s => (s, .dataFail, [])

end Sys2Proof.Machine
end

