-- ==== Sys2Proof/Machine/TieLink.lean ====
section
/-! DEFINITION. The link of a tie port: frames and their check, sequence numbers, credits, retry, buffers (spec/09_ties_and_multichip.md
R320–R326, R331–R333). -/

namespace Sys2Proof.Machine
open Sys2Proof

def State.tieAt (s : State) (p : Nat) : Tie := Map.get {} s.ties p
def State.setTie (s : State) (p : Nat) (x : Tie) : State := { s with ties := Map.set {} s.ties p x }
def State.modTie (s : State) (p : Nat) (g : Tie → Tie) : State := s.setTie p (g (s.tieAt p))

/-! ## Frames (R320–R323) -/

/-- Header of a frame of type `ty` (R320). -/
def frameHeader (ty cls dvc len : Nat) : Nat := packBits [(ty, 4), (cls, 3), (dvc, 1), (len - 1, 3), (0, 21)]

/-- CRC-32 of a frame: over the header and the data words, each least significant byte first (R322). -/
def frameCrc (init hdr : Nat) (data : List (BitVec 64)) : Nat :=
  crcModel (bytesLE 4 hdr ++ data.flatMap fun d => bytesLE 8 d.toNat) 32 0x04C11DB7 init true true 0xFFFFFFFF

/-- Initial value of the CRC of a sequenced frame: the sequence number is folded in (R322). -/
def seqInit (seq : Nat) : Nat := 0xFFFFFFFF ^^^ (seq % 65536 * 0x10001)

/-- Type, header and data of a sent frame. -/
def TieFrame.hdr (f : TieFrame) : Nat :=
  if f.tree then frameHeader 2 0 0 f.pkt.flits.length
  else frameHeader 1 ((f.pkt.cls.map Class.code).getD 0) (bn f.dvc) f.pkt.flits.length

/-- Block 0 of a sent frame: the header in [63:32], the CRC in [31:0] (R320). -/
def TieFrame.block0 (f : TieFrame) : BitVec 64 := BitVec.ofNat 64 (f.hdr * 2 ^ 32 + frameCrc (seqInit f.seq) f.hdr f.pkt.flits)

/-- Receive buffer of a packet: 2 × class + DVC (R323). -/
def bufOf (dvc : Bool) (p : Packet) : Nat := 2 * (p.cls.map Class.code).getD 0 + bn dvc

def bufFlits (b : Nat) : Nat := if b = 10 then 8 else 64

/-- Credit of buffer `b`: its size less the flits sent and not yet freed (R323). -/
def Tie.credits (x : Tie) (b : Nat) : Nat := bufFlits b - (Map.get 0 x.sent b + 256 - Map.get 0 x.credit b) % 256

/-- Flits in the egress buffer of a class and DVC (R333). -/
def Tie.egressFlits (x : Tie) (b : Nat) : Nat := ((x.egress.filter fun e => bufOf e.1 e.2 == b).map fun e => e.2.flits.length).sum

/-- A link-local packet (R321): created and consumed by the tie blocks of one link. -/
def linkLocal : Packet → Bool
  | .mgmt k .. => k == 2
  | _ => false

/-! ## Sending (R322–R324, R332) -/

/-- Put a packet into a new frame and the retry buffer. -/
def State.tieSend (s : State) (p : Nat) (tree dvc : Bool) (pk : Packet) : State :=
  let b := if tree then 10 else bufOf dvc pk
  (s.modTie p fun x =>
    { x with retry := x.retry ++ [{ seq := x.txSeq, tree := tree, dvc := dvc, pkt := pk }], txSeq := (x.txSeq + 1) % 65536,
             sent := Map.set 0 x.sent b ((Map.get 0 x.sent b + pk.flits.length) % 256) }).inc (TIE_TX_FRAMES p)

/-- A request of this chip needs an entry of the outstanding table (R332). -/
def State.ownRequest (s : State) (pk : Packet) : Option ReqHead :=
  match pk with
  | .readReq h => if h.schip.toNat = s.chipId then some h else none
  | .writeReq h _ => if h.schip.toNat = s.chipId then some h else none
  | .hodMsg h .. => if h.schip.toNat = s.chipId then some h else none
  | _ => none

/-- The reply of status UNREACHABLE to a request (R331, R332). -/
def unreachReply : Packet → Option Packet
  | .readReq h => some (.readRsp (rspOf h .unreachable) [])
  | .writeReq h _ => some (.writeAck (rspOf h .unreachable))
  | .hodMsg h op .. => some (hodRefused h op .unreachable 6)
  | _ => none

/-- Send the egress packets that credit, the retry buffer and the outstanding table permit, oldest first; `held` lists the buffers
whose oldest packet must wait. -/
def State.tieSendAll (p : Nat) : List (Bool × Packet) → List Nat → State → State
  | [], _, s => s
  | e :: r, held, s =>
    let x := s.tieAt p
    let b := bufOf e.1 e.2
    if held.contains b || 256 ≤ x.retry.length || x.credits b < e.2.flits.length ||
        ((s.ownRequest e.2).isSome && 256 ≤ x.out.length) then
      State.tieSendAll p r (b :: held) s
    else
      let s := s.modTie p fun x => { x with egress := x.egress.erase e }
      let s := match s.ownRequest e.2, unreachReply e.2 with
        | some _, some rp => s.modTie p fun x => { x with out := x.out ++ [rp] }
        | _, _ => s
      State.tieSendAll p r held (s.tieSend p false e.1 e.2)

/-- Send the tree packets that wait (R340). -/
def State.tieSendTree (p : Nat) : List Packet → State → State
  | [], s => s
  | t :: r, s =>
    let x := s.tieAt p
    if 256 ≤ x.retry.length || x.credits 10 < t.flits.length then s
    else State.tieSendTree p r ((s.modTie p fun x => { x with tree := x.tree.drop 1 }).tieSend p true false t)

/-- Tree packets in relay registers enter the tree queue of 8 flits as far as there is room (R333, R340). -/
def Tie.relayIn : Nat → Tie → Tie
  | 0, x => x
  | n + 1, x =>
    match x.relay with
    | [] => x
    | pk :: r =>
      if (x.tree.map fun t => t.flits.length).sum + pk.flits.length ≤ 8 then Tie.relayIn n { x with tree := x.tree ++ [pk], relay := r }
      else x

/-- Flits that packets from other ties have reserved in an egress buffer (R333): those on their way through the mortar, and the PSUMs
among them that a combine buffer holds. -/
def State.reserved (s : State) (p b : Nat) : Nat :=
  let due := fun (arr : Option (Nat × Bool)) (pk : Packet) => arr.isSome &&
    (match pk.dchip? with
     | some d => d != s.chipId && (let r := s.tieRoute d arr; r.tie == p && bufOf r.dvc pk == b)
     | none => false)
  ((s.flights.filter fun f => due f.arr f.pkt).map fun f => f.pkt.flits.length).sum +
    ((s.psums.filter fun x => due x.arr x.packet).map fun x => x.packet.flits.length).sum

/-- Room for a whole packet in the egress buffer of a class and DVC, less what packets from other ties have reserved (R333). -/
def State.egressRoom (s : State) (p : Nat) (dvc : Bool) (pk : Packet) : Bool :=
  let b := bufOf dvc pk
  decide ((s.tieAt p).egressFlits b + s.reserved p b + pk.flits.length ≤ 64)

/-- Room for a packet that has reserved it. -/
def State.egressFits (s : State) (p : Nat) (dvc : Bool) (pk : Packet) : Bool :=
  decide ((s.tieAt p).egressFlits (bufOf dvc pk) + pk.flits.length ≤ 64)

/-- Link-local packets enter the egress buffer as far as there is room. -/
def State.linkIn (p : Nat) : List Packet → State → State
  | [], s => s
  | pk :: r, s =>
    if s.egressRoom p false pk then
      State.linkIn p r (s.modTie p fun x => { x with egress := x.egress ++ [(false, pk)], linkq := x.linkq.drop 1 })
    else s

/-- Send what may be sent. -/
def State.tieSends (s : State) (p : Nat) : State :=
  if !s.tieUp p then s
  else
    let s := s.modTie p fun x => Tie.relayIn x.relay.length x
    let s := State.tieSendTree p (s.tieAt p).tree s
    let s := State.linkIn p (s.tieAt p).linkq (s.modTie p fun x => Tie.relayIn x.relay.length x)
    State.tieSendAll p (s.tieAt p).egress [] s

/-! ## Unroutable packets (R331) -/

def tieCon (p par : Nat) : Loc := if par % 2 = 0 then TIE_SINK_CON0 p else TIE_SINK_CON1 p

/-- The tie block of port `p` handles an unroutable packet. None: a request whose answer has no room yet. -/
def State.unroutable (s : State) (p : Nat) (pk : Packet) : Option State :=
  match pk.cls with
  | some .ev | some .cl =>
    let s := s.inc (TIE_SINK_PKTS p)
    match pk.step? with
    | some st => some (if (stepClass st (s.tieAt p).step).counted then s.addWrap (tieCon p st) pk.conWeight else s)
    | none => some s
  | some .rq =>
    match unreachReply pk with
    | some rp => (s.inc (TIE_UNREACH p)).inject (tieRouter p) .gw rp
    | none => some s
  | some _ => some (s.inc (TIE_DROP_RPMG p))
  | none => some s

/-- A reply of the tie block enters the mortar, or waits for room there. -/
def State.tieReply (s : State) (p : Nat) (rp : Packet) : State :=
  match s.inject (tieRouter p) .gw rp with
  | some s' => s'
  | none => s.modTie p fun x => { x with due := x.due ++ [rp] }

/-- Replies of the tie block that wait enter the mortar as far as there is room. -/
def State.duePump (s : State) (p : Nat) : State :=
  let l := (s.tieAt p).due
  if l = [] then s else l.foldl (fun s rp => s.tieReply p rp) (s.modTie p fun x => { x with due := [] })

/-- Handle the packets of a list as unroutable. -/
def State.unroutableAll (p : Nat) : List Packet → State → State
  | [], s => s
  | pk :: r, s =>
    State.unroutableAll p r
      (match s.unroutable p pk, unreachReply pk with
       | some s', _ => s'
       | none, some rp => (s.inc (TIE_UNREACH p)).tieReply p rp
       | none, none => s)

/-- Answer the requests of the outstanding table with UNREACHABLE (R326). -/
def State.answerOut (p : Nat) (l : List Packet) (s : State) : State := l.foldl (fun s rp => (s.inc (TIE_UNREACH p)).tieReply p rp) s

/-! ## Going down (R325, R326, R338, R340, R341) -/

/-- The link-state frame of a port (R338). -/
def State.linkState (s : State) (p : Nat) : State :=
  if s.b SYS_CHIP_ID_ASSIGNED then
    let w := flit [(p, 2), (s.f (TIE_STAT_STATE p), 4), (s.f (TIE_STAT_WIDTH p), 2), (s.f (TIE_STAT_CAUSE p), 4), (0, 10),
      (s.f (TIE_STAT_NBR p), 10), (s.tb.toNat, 32)]
    s.sendMg [.mgmt 3 0 (BitVec.ofNat 10 s.chipId) 0 [w]]
  else s

/-- The parent port (R347). -/
def State.parentTie (s : State) : Option Nat := if s.f (TIE_TREE_PARENT 0) < 4 then some (s.f (TIE_TREE_PARENT 0)) else none

/-- ORPHAN of a worker: its parent port is not UP (R341, R347); raised when that comes to be. -/
def State.orphanSync (s : State) : State :=
  let now := !s.isManager && (match s.parentTie with | some p => !s.tieUp p | none => false)
  let s' := s.setF (TIE_ENUM_ORPHAN 0) (bn now)
  if now && !s.b (TIE_ENUM_ORPHAN 0) then s'.raise .tie 0 6 else s'

/-- Port `p` goes DOWN with a cause: its lanes go idle, and so its partner's. A request in the outstanding table is answered from there
alone, and one whose reply has come is answered no more: neither is handled again with the retry frames (R326, R332). -/
def State.tieDown (s : State) (p cause : Nat) : State :=
  if s.f (TIE_STAT_STATE p) = 5 ∨ s.f (TIE_STAT_STATE p) = 0 ∨ 4 ≤ p then s
  else
    let x := s.tieAt p
    let s := (((s.setF (TIE_STAT_STATE p) 5).setF (TIE_STAT_CAUSE p) cause).setF (TIE_LANES_LOCK p) 0).inc (TIE_DOWNS p)
    let s := s.raise .tie p 0
    let s := if cause = 3 then s.raise .tie p 3 else if cause = 4 ∨ cause = 6 then s.raise .tie p 4 else s
    let s := s.setTie p { x with egress := [], retry := [], tree := [], relay := [], linkq := [], ending := false, out := [], token := false,
                                 got := false, nak := false, skip := false, since := 0, width := 0, childDue := false }
    let s := State.answerOut p x.out s
    let sent := (x.retry.filter fun f => !f.tree && (s.ownRequest f.pkt).isNone).map fun f => f.pkt
    let s := State.unroutableAll p ((sent ++ x.egress.map Prod.snd).filter fun k => !linkLocal k) s
    let s := if x.childDue then
        let b := Map.get ({} : CountBuf) s.counts (tieRouter p)
        { s with counts := Map.set {} s.counts (tieRouter p) { b with missing := true, left := b.left - 1 } }
      else s
    s.orphanSync.linkState p

/-! ## Sending on (R321, R335, R336, R340) -/

/-- A port that has sent its CONFLICT goes DOWN (R336). -/
def State.endCheck (s : State) (p : Nat) : State :=
  let x := s.tieAt p
  if x.ending && x.linkq.isEmpty && !x.egress.any (fun e => linkLocal e.2) then s.tieDown p (if s.isManager then 6 else 4) else s

/-- Send what may be sent, and what the tie block owes the mortar. -/
def State.tiePump (s : State) (p : Nat) : State := ((s.duePump p).tieSends p).endCheck p

/-- Hand a tree packet to port `p` (R340). A port that is not UP carries none. -/
def State.treeSend (s : State) (p : Nat) (pk : Packet) : State :=
  if s.tieUp p then (s.modTie p fun x => { x with relay := x.relay ++ [pk] }).tiePump p else s

/-- Child ports of the cross-chip spanning tree (R339, R347). -/
def State.childTies (s : State) : List Nat := setBits 4 (s.f (TIE_TREE_CHILD 0))

/-- Send a step-protocol packet to every child tie (R261, R340). -/
def State.treeDown (s : State) (pk : Packet) : State :=
  if s.domOn dTIE then s.childTies.foldl (fun s p => s.treeSend p pk) s else s

/-! ## Acknowledgement and retry (R323, R324) -/

/-- Resend every frame of the retry buffer (R324). -/
def State.tieResend (s : State) (p : Nat) : State :=
  let n := (s.tieAt p).retry.length
  if n = 0 then s
  else
    let s := s.modTie p fun x => { x with retry := x.retry.map fun f => { f with resends := f.resends + 1 } }
    let s := ((s.add (TIE_RETX p) n).add (TIE_TX_FRAMES p) n).recEvt 0x1E n
    if (s.tieAt p).retry.any fun f => decide (max 1 (s.f (TIE_CFG_RETRY_MAX p)) < f.resends) then s.tieDown p 3 else s

/-- The data words of a CTRL frame as the port would send it now (R323). -/
def Tie.ctrlWords (x : Tie) : BitVec 64 × BitVec 64 :=
  (flit ((List.range 8).map fun i => (Map.get 0 x.freed (7 - i), 8)),
   flit [(x.rxSeq, 16), (bn x.nak, 1), (0, 23), (Map.get 0 x.freed 10, 8), (Map.get 0 x.freed 9, 8), (Map.get 0 x.freed 8, 8)])

/-- Send a CTRL frame (R324). -/
def State.ctrlSend (s : State) (p : Nat) : State :=
  if s.tieUp p then s.modTie p fun x => { x with ctrl := some x.ctrlWords, since := 0, nak := false } else s

/-- TIE_CTRL_SEND (R324). -/
def execTieCtrlSend (p : BitVec 2) (s : State) : Out := .next (s.ctrlSend p.toNat)

/-- The words of a CTRL frame that passed its check: credits, acknowledgement, NAK (R323, R324). -/
def State.ctrlTake (s : State) (p w0 w1 : Nat) : State :=
  let ack := bits w1 63 48
  let s := s.modTie p fun x =>
    { x with credit := (List.range 11).foldl (fun m b => Map.set 0 m b (if b < 8 then bits w0 (8 * b + 7) (8 * b) else
               bits w1 (8 * (b - 8) + 7) (8 * (b - 8)))) x.credit,
             retry := x.retry.filter fun f => decide ((f.seq + 65536 - ack) % 65536 < 32768) }
  let s := if bitAt w1 47 then s.tieResend p else s
  s.tiePump p

/-- A CTRL frame (R322, R323). One that fails its check is discarded and counted. -/
def execTieCtrlFrame (p : BitVec 2) (hdr crc : BitVec 32) (w0 w1 : BitVec 64) (s : State) : Out :=
  .next (
    let p := p.toNat
    if !s.tieUp p then s
    else if bits hdr.toNat 31 28 = 3 ∧ bits hdr.toNat 23 21 = 1 ∧ frameCrc 0xFFFFFFFF hdr.toNat [w0, w1] = crc.toNat then
      s.ctrlTake p w0.toNat w1.toNat
    else s.inc (TIE_CRC_ERR p))

/-- TIE_RETX_TIMEOUT (R324): ACKSEQ has not advanced for 4 µs. -/
def execTieRetxTimeout (p : BitVec 2) (s : State) : Out :=
  .next (if s.tieUp p.toNat then (s.tieResend p.toNat).tiePump p.toNat else s)

/-- TIE_LOS (R325): a trained port, UP or before it. -/
def execTieLos (p : BitVec 2) (s : State) : Out :=
  .next (if s.domOn dTIE && (s.tieUp p.toNat || s.f (TIE_STAT_STATE p.toNat) == 3) then s.tieDown p.toNat 2 else s)

/-- TIE_DOWN (R325): the port goes DOWN with one of the causes of R344. -/
def execTieDown (p : BitVec 2) (cause : BitVec 4) (s : State) : Out :=
  .next (if s.domOn dTIE ∧ 1 ≤ cause.toNat ∧ cause.toNat ≤ 6 then s.tieDown p.toNat cause.toNat else s)

/-- A sequenced frame's check and acceptance (R322, R324). The first that fails is answered with NAK = 1 at once; those after it are
discarded until one is accepted. -/
def State.frameIn (s : State) (p ty : Nat) (hdr crc : Nat) (data : List (BitVec 64)) : State × Bool :=
  let x := s.tieAt p
  if bits hdr 31 28 = ty ∧ bits hdr 23 21 + 1 = data.length ∧ frameCrc (seqInit x.rxSeq) hdr data = crc then
    let s := (s.modTie p fun x => { x with rxSeq := (x.rxSeq + 1) % 65536, since := x.since + 1, skip := false }).inc (TIE_RX_FRAMES p)
    (if 32 ≤ (s.tieAt p).since then s.ctrlSend p else s, true)
  else if x.skip then (s.inc (TIE_CRC_ERR p), false)
  else (((s.inc (TIE_CRC_ERR p)).modTie p fun x => { x with nak := true, skip := true }).ctrlSend p, false)

/-- Flits freed in receive buffer `b` (R323). -/
def State.tieFree (s : State) (p b n : Nat) : State :=
  s.modTie p fun x => { x with freed := Map.set 0 x.freed b ((Map.get 0 x.freed b + n) % 256) }

/-- TIE_UNROUTABLE (R331): port `p` is not UP and a packet cannot leave through it. -/
def execTieUnroutable (p : BitVec 2) (pkt : Packet) (s : State) : Out :=
  .next (
    let p := p.toNat
    if !s.domOn dTIE || s.tieUp p then s
    else
      match (s.tieAt p).egress.find? fun e => e.2 == pkt with
      | some e => ((s.modTie p fun x => { x with egress := x.egress.erase e }).unroutable p pkt).getD s
      | none => (s.unroutable p pkt).getD s)

/-- TIE_REQ_TIMEOUT (R332): entry `k` of the outstanding table goes unanswered for REQ_TIMEOUT. -/
def execTieReqTimeout (p : BitVec 2) (k : BitVec 8) (s : State) : Out :=
  .next (
    let p := p.toNat
    match (s.tieAt p).out[k.toNat]? with
    | none => s
    | some rp =>
      let s := s.modTie p fun x => { x with out := x.out.eraseIdx k.toNat }
      (((s.inc (TIE_REQ_TO p)).raise .tie p 5).tieReply p rp).tiePump p)

end Sys2Proof.Machine
end

