-- ==== Sys2Proof/Machine/StepCtl.lean ====
section
/-! DEFINITION. The step controller, the rounds and the reporters (spec/06_time_steps_and_overload.md R196–R232;
spec/07_mortar_fabric.md R259–R263). -/

namespace Sys2Proof.Machine
open Sys2Proof

/-- Relay mode (R196). -/
def State.relay (s : State) : Bool := s.b TMR_STEP_STAT_RELAY

/-- A step is open and not held (R230). -/
def State.running (s : State) : Bool := s.b TMR_STEP_STAT_RUNNING

/-- The step that ports stamp: the open step, or the next once the seal has reached them (R211). -/
def State.stampStep (s : State) : BitVec 64 := if s.b TMR_STEP_STAT_SEALED then s.ctl.step + 1 else s.ctl.step

/-! ## Opening (R199–R201, R215) -/

/-- The period in force: PERIOD within its bounds, stretched by PSTRETCH sixteenths (R227, R526). -/
def State.stepPeriod (s : State) : Nat :=
  max 1000 (min 10000000 (s.f TMR_STEP_PERIOD_PERIOD)) * (16 + s.f PWR_GOV_PSTRETCH) / 16

/-- The lag account, which TMR_STEP_ACCOUNT shows in its 28 bits (R215, R231). -/
def State.setAccount (s : State) (a : Nat) : State :=
  { s with ctl := { s.ctl with account := a } }.setF TMR_STEP_ACCOUNT_A (min a (2 ^ 28 - 1))

/-- Channel 0 as the period timer of the open step, which the controller owns while RUN = 1 (R199). -/
def State.periodTimer (s : State) : State :=
  if !s.b TMR_STEP_CTRL_RUN then s
  else if s.ctl.held then s.setF (TMRCH_STAT_ARMED 0) 0
  else
    let s := { s with tmr := Map.set {} s.tmr 0 { mode := 1, src := 0 } }
    ((s.setF (TMRCH_COMPARE 0) (s.ctl.openT + s.ctl.period)).setF (TMRCH_STAT_ARMED 0) (bn !s.ctl.periodOver)).setF (TMRCH_STAT_MISSED 0) 0

/-- Step TMR_STEP opens now (R199, R201, R215): the configuration is sampled; unless the step is held, channel 0 is armed with its
period end. -/
def State.openStep (s : State) (held : Bool) : State :=
  let P := s.stepPeriod
  let stretch := P * s.f TMR_STEP_BOUND_STRETCH_MAX / 16
  let allow := min stretch s.ctl.account
  let now := s.tb.toNat
  let s := { s with ctl := { s.ctl with
    openT := now, period := P, stretch := stretch, lagMax := P * s.f TMR_STEP_BOUND_LAG_MAX / 16,
    refill := P * s.f TMR_STEP_BOUND_REFILL / 16, allowance := allow, deadline := now + P + allow, held := held, holdNext := false,
    overdue := false, confirmed := false, periodOver := false, active := false, activeSealed := false, gap := false, last := none,
    stepped := false, forced := false } }
  ((s.setF TMR_STEP_STAT_RUNNING (bn !held)).setF TMR_STEP_STAT_SEALED 0).periodTimer

/-- START: the counter takes the first step's number (R198, R200). -/
def State.startAt (s : State) (v : BitVec 64) : State :=
  ({ s with ctl := { s.ctl with step := v } }).treeDown (.start v)

/-- RUN changes from 0 to 1 (R200). -/
def State.runStart (s : State) : State :=
  if s.relay || s.b TMR_STEP_CTRL_RUN then s
  else
    let s := s.setF TMR_STEP_CTRL_RUN 1
    if s.running then { s with ctl := { s.ctl with holdNext := false } }.periodTimer
    else if s.b TMR_STEP_STAT_LOAD_ARMED then
      let s := s.startAt (BitVec.ofNat 64 (s.f TMR_STEP_START_HI * 2 ^ 32 + s.f TMR_STEP_START_LO))
      let s := (s.setAccount (s.stepPeriod * s.f TMR_STEP_BOUND_LAG_MAX / 16)).setF TMR_STEP_STAT_LOAD_ARMED 0
      s.openStep false
    else
      let f := s.ctl.forced
      let s := s.openStep false
      { s with ctl := { s.ctl with forced := f } }

/-- RUN_START (R200). -/
def execRunStart (s : State) : Out := .next s.runStart

/-- RUN changes from 1 to 0 (R201): the step after the open one is held. -/
def State.runStop (s : State) : State :=
  if s.relay || !s.b TMR_STEP_CTRL_RUN then s
  else
    let s := s.setF TMR_STEP_CTRL_RUN 0
    if s.running then { s with ctl := { s.ctl with holdNext := true } } else s

/-- RUN_STOP (R201). -/
def execRunStop (s : State) : Out := .next s.runStop

/-- TMR_STEP_START_HI_WRITE (R200, R229): a write arms the load, also on a worker, whose controller starts no run (R225). -/
def State.startHi (s : State) (v : Nat) : State := (s.setF TMR_STEP_START_HI v).setF TMR_STEP_STAT_LOAD_ARMED 1

def execTmrStepStartHiWrite (v : BitVec 32) (s : State) : Out := .next (s.startHi v.toNat)

/-- TMR_STEP_LO_READ (R228). -/
def State.stepLoRead (s : State) : State := s.setF TMR_STEP_HI_SNAP (s.ctl.step.toNat / 2 ^ 32)

def execTmrStepLoRead (s : State) : Out := .next s.stepLoRead

/-! ## Seal and close (R211–R218, R220) -/

/-- Close causes (R230). -/
def ccCOUNT : Nat := 0
def ccSTRETCH : Nat := 1
def ccLAG : Nat := 2
def ccCOMMAND : Nat := 3
def ccOVERRUN : Nat := 4

/-- A force close's outstanding value (R216). -/
def State.outstanding (s : State) : State :=
  match s.ctl.last with
  | some r =>
    let v := r.inj - r.con
    let s := (s.setF TMR_STEP_OUTSTANDING v.toNat).setF TMR_STEP_STAT_OUT_VALID 1
    if 0 < v.toInt then (s.add TMR_STEP_UNDELIVERED v.toNat).recSample 0x07 v.toNat else s
  | none => s.setF TMR_STEP_STAT_OUT_VALID 0

/-- The open step closes with a cause (R201, R212, R214–R216, R218, R220); the next opens, held where that is due: while RUN is 0. -/
def State.closeStep (s : State) (cause : Nat) : State :=
  let c := s.ctl
  let len := s.tb.toNat - c.openT
  let late := len - c.period
  let a := c.account
  let a' := if c.stepped then a else (clampI 0 c.lagMax ((a : Int) - late + c.refill)).toNat
  let exh := decide (a' ≤ c.refill)
  let s := ((s.setF TMR_STEP_LAST_LEN (min len 0xFFFFFFFF)).setAccount a').setF TMR_STEP_STAT_CAUSE cause
  let s := if exh && !s.b TMR_STEP_STAT_EXH then s.raise .tmr 0 17 else s
  let s := s.setF TMR_STEP_STAT_EXH (bn exh)
  let s := if cause = ccCOUNT then s else (s.outstanding.inc TMR_STEP_SHORTS).raise .tmr 0 16
  let s := ((s.recSample 0x00 (len / 1000)).recSample 0x01 (late / 1000)).capture 0x40 0
  let s := s.treeDown (.close (BitVec.ofNat 8 c.step.toNat) (decide (cause ≠ ccCOUNT)) exh)
  let s := { s with ctl := { s.ctl with step := c.step + 1 }, net := { s.net with ran := true } }
  s.openStep (c.holdNext || (c.stepped && !s.b TMR_STEP_CTRL_RUN))

/-- Each powered CSI port takes its sensor time at the seal (R409). -/
def State.tsSeal (s : State) : State :=
  if s.domOn dCSI then (List.range 4).foldl (fun s k => s.setF (CSI_TS_SEAL k) (s.f (CSI_TS_LAST k))) s else s

/-- The controller seals the open step (R211); a recorded FORCE_CLOSE then acts (R215). -/
def State.sealStep (s : State) : State :=
  let s := ((s.setF TMR_STEP_STAT_SEALED 1).tsSeal.capture 0x41 0).treeDown (.seal (BitVec.ofNat 8 s.ctl.step.toNat))
  if s.ctl.forced then s.closeStep ccCOMMAND else s

/-- The open step is due to be sealed: confirmed, and past its period end (R211). -/
def State.sealCheck (s : State) : State :=
  if s.ctl.confirmed && s.ctl.periodOver && !s.b TMR_STEP_STAT_SEALED then
    let s := s.sealStep
    if s.b TMR_STEP_STAT_SEALED && s.ctl.overdue then s.closeStep ccOVERRUN else s
  else s

/-- The period end of the open step: channel 0 matches (R199, R211). -/
def State.periodEnd (s : State) : State :=
  if s.relay || !s.running || s.ctl.periodOver || s.ctl.stepped then s
  else
    let s := s.timeTo (s.ctl.openT + s.ctl.period)
    let s := if s.b TMR_STEP_CTRL_RUN then (s.setF (TMRCH_STAT_ARMED 0) 0).tmrEvent 0 else s
    ({ s with ctl := { s.ctl with periodOver := true, gap := false } }).sealCheck

/-- STEP_PERIOD_END (R211). -/
def execStepPeriodEnd (s : State) : Out := .next s.periodEnd

/-- The deadline of the open step (R215): a sealed step is force-closed; an unconfirmed one is in overrun. -/
def State.stepDeadline (s : State) : State :=
  if s.relay || !s.running || s.ctl.overdue then s
  else
    let t := s.ctl.step
    let s := s.periodEnd
    let c := s.ctl
    if c.step ≠ t then s
    else
    let s := s.timeTo c.deadline
    if s.b TMR_STEP_STAT_SEALED then
      s.closeStep (if !c.stepped && c.allowance == c.account && decide (c.account < c.stretch) then ccLAG
        else ccSTRETCH)
    else { s with ctl := { s.ctl with overdue := true } }

/-- STEP_DEADLINE (R215). -/
def execStepDeadline (s : State) : Out := .next s.stepDeadline

/-- STEP while a step is held (R201): it is sealed at once and runs; the step after it is held again. -/
def State.stepHeld (s : State) : State :=
  if s.relay || s.b TMR_STEP_CTRL_RUN || !s.ctl.held then s
  else
    let s := { s with ctl := { s.ctl with held := false, stepped := true, periodOver := true, deadline := s.tb.toNat + s.ctl.stretch } }
    (s.setF TMR_STEP_STAT_RUNNING 1).sealStep

/-- STEP (R201). -/
def execStep (s : State) : Out := .next s.stepHeld

/-- FORCE_CLOSE (R215): at once in a sealed step, recorded before the seal. -/
def State.forceClose (s : State) : State :=
  if s.relay then s
  else if s.running && s.b TMR_STEP_STAT_SEALED then s.closeStep ccCOMMAND
  else if s.running || s.ctl.held then { s with ctl := { s.ctl with forced := true } }
  else s

/-- FORCE_CLOSE (R215). -/
def execForceClose (s : State) : Out := .next s.forceClose

/-- A write of TMR_STEP_CTRL (R226): WP bits act with the RUN that the write leaves. -/
def State.stepCtrl (s : State) (v : Nat) : State :=
  if s.relay then s
  else
    let s := if bitAt v 0 then s.runStart else s.runStop
    let s := if bitAt v 3 then s.stepHeld else s
    if bitAt v 2 then s.forceClose else s

/-! ## Rounds (R208–R212, R259–R262, R340) -/

/-- Children of a router in the collective tree (R259). -/
def treeChildren (r : Nat) : List Nat :=
  let x := tileX r
  let y := tileY r
  if y = 0 then []
  else (if y < 31 then [r + 32] else []) ++ (if y = 1 then [r - 32] ++ (if x < 31 then [r + 1] else []) else [])

/-- Parent of a router in the collective tree (R259). -/
def treeParent (r : Nat) : Option Nat :=
  let x := tileX r
  let y := tileY r
  if 2 ≤ y then some (r - 32) else if y = 0 then some (r + 32) else if 1 ≤ x then some (r - 1) else none

/-- What a reporter answers: INJ, CON, not emitted, not passive (R208). -/
structure Answer where
  inj : Nat := 0
  con : Nat := 0
  ne : Nat := 0
  np : Nat := 0

/-- A port or the host port answers (R202, R207): passive once the seal has reached it. -/
def State.portAnswer (s : State) (inj con : Nat) : Answer :=
  { inj := inj, con := con, np := bn !(s.b TMR_STEP_STAT_SEALED) }

def hostInj (p : Nat) : Loc := if p % 2 = 0 then HOST_INJ0 else HOST_INJ1
def hostCon (p : Nat) : Loc := if p % 2 = 0 then HOST_CON0 else HOST_CON1

/-- Sensor ports behind a gateway router (R18). -/
def portsAt (r : Nat) : List Nat :=
  match r with
  | 0x040 => [0, 1, 4]
  | 0x05F => [2, 3, 5]
  | 0x060 => [6, 7, 8, 9]
  | _ => []

/-- Domain of a sensor port. -/
def portDom (k : Nat) : Nat := if k < 6 then dCSI else dT1S

def State.sport (s : State) (k : Nat) : SPort := Map.get {} s.sports k
def State.modSport (s : State) (k : Nat) (g : SPort → SPort) : State := { s with sports := Map.set {} s.sports k (g (s.sport k)) }

def SPort.inj (x : SPort) (p : Nat) : Nat := if p % 2 = 0 then x.inj0.toNat else x.inj1.toNat

/-- Tie port behind a gateway router. -/
def tieOfRouter (r : Nat) : Option Nat := (List.range 4).find? fun p => tieRouter p == r

/-- Answers of the reporters of router `r` for step parity `p` (R202, R206, R208, R259, R269, R331). -/
def State.reporters (s : State) (r p : Nat) : List Answer :=
  (if s.tileUp r then
     [{ inj := s.f (tileInj r p), con := s.f (tileCon r p), ne := bn !(s.tileEmitted r), np := bn !(s.tilePassive r) }]
   else []) ++
  [{ inj := s.f (rtInj r p), con := s.f (rtCon r p) }] ++
  (if r = 0x000 ∧ s.domOn dHOST then [s.portAnswer (s.f (hostInj p)) (s.f (hostCon p))] else []) ++
  (((portsAt r).filter fun k => s.domOn (portDom k)).map fun k => s.portAnswer ((s.sport k).inj p) 0) ++
  (match tieOfRouter r with
   | some k => if s.domOn dTIE then [{ con := s.f (tieCon k p) }] else []
   | none => []) ++
  (if r = (if s.b MTR_COLLAR_E_SINK && !s.b MTR_COLLAR_W_SINK then 0x030 else 0x02F) then
     [{ inj := s.f (collarInj p), con := s.f (collarCon p) }] else [])

def sat21 (n : Nat) : Nat := min n 2097151

def State.countBuf (s : State) (r : Nat) : CountBuf := Map.get {} s.counts r
def State.setCount (s : State) (r : Nat) (b : CountBuf) : State := { s with counts := Map.set {} s.counts r b }

/-- The addition of R208. -/
def CountBuf.plus (b : CountBuf) (inj con ne np : Nat) (missing : Bool) : CountBuf :=
  { b with inj := b.inj + BitVec.ofNat 32 inj, con := b.con + BitVec.ofNat 32 con, notEmitted := sat21 (b.notEmitted + ne),
           notPassive := sat21 (b.notPassive + np), missing := b.missing || missing }

/-- POLL passes router `r` with a tag (R208, R261, R262): buffer 0 takes the readings of its reporters and awaits its powered tree
children and the child tie; a child tie that is not UP is missing at once (R340). -/
def State.pollAt (s : State) (r : Nat) (step : BitVec 8) (round : BitVec 4) : State :=
  let b := (s.reporters r step.toNat).foldl (fun b a => CountBuf.plus b a.inj a.con a.ne a.np false)
    { valid := true, step := step, round := round, left := ((treeChildren r).filter fun c => s.routerOn c).length }
  match tieOfRouter r with
  | some p =>
    if s.domOn dTIE && s.childTies.contains p then
      if s.tieUp p then
        ((s.setCount r { b with left := b.left + 1 }).modTie p fun x => { x with childDue := true }).treeSend p (.poll step round)
      else s.setCount r { b with missing := true }
    else s.setCount r b
  | none => s.setCount r b

/-- A round is due on the manager (R208–R210): until the open step is confirmed, and from its seal on. -/
def State.roundDue (s : State) : Bool :=
  !s.relay && s.running && !s.ctl.active && !s.ctl.gap && (!s.ctl.confirmed || s.b TMR_STEP_STAT_SEALED)

/-- The manager's controller begins a round (R208). -/
def State.beginRound (s : State) : State :=
  if s.roundDue && s.routerOn sysRouter then
    ({ s with ctl := { s.ctl with active := true, activeSealed := s.b TMR_STEP_STAT_SEALED } }).pollAt sysRouter
      (BitVec.ofNat 8 s.ctl.step.toNat) s.ctl.round
  else s

/-- POLL (R208, R261): at the root the controller begins a round, or relays the one that reached a worker; a router below takes it
from its parent. -/
def State.pollArrives (s : State) (r : Nat) (step : BitVec 8) (round : BitVec 4) : State :=
  if r = sysRouter then if s.relay then (if s.routerOn r then s.pollAt r step round else s) else s.beginRound
  else
    match treeParent r with
    | some q =>
      let b := s.countBuf q
      let me := s.countBuf r
      if s.routerOn r && b.valid && !(me.valid && me.step == b.step && me.round == b.round) then s.pollAt r b.step b.round else s
    | none => s

def execPoll (r : BitVec 10) (step : BitVec 8) (round : BitVec 4) (s : State) : Out := .next (s.pollArrives r.toNat step round)

/-- A COUNT with MISSING = 1: one that a child tie receives, that a worker sends, or that completes the manager's round (R224, R231;
notes/assumptions/134.md). -/
def State.missingCount (s : State) (m : Bool) : State := if m then (s.inc TMR_STEP_MISSING).raise .tmr 0 19 else s

/-- The COUNT packet of a buffer. -/
def CountBuf.packet (b : CountBuf) : Packet :=
  .count b.step b.round b.missing (BitVec.ofNat 21 b.notEmitted) (BitVec.ofNat 21 b.notPassive) b.inj b.con

/-- A COUNT enters the buffer of router `q`; one with another tag is discarded (R262). -/
def State.countInto (s : State) (q : Nat) (step : BitVec 8) (round : BitVec 4) (missing : Bool) (ne np : Nat) (inj con : BitVec 32) : State :=
  let b := s.countBuf q
  if b.valid && b.step == step && b.round == round && decide (0 < b.left) then
    s.setCount q { b.plus inj.toNat con.toNat ne np missing with left := b.left - 1 }
  else s

/-- COUNT (R208, R262): router `r` sends its complete sum to its parent; a worker's root sends it over the parent tie (R340). -/
def State.countUp (s : State) (r : Nat) : State :=
  let b := s.countBuf r
  if !b.valid || b.done || b.left != 0 then s
  else
    match treeParent r with
    | some q => (s.setCount r { b with done := true }).countInto q b.step b.round b.missing b.notEmitted b.notPassive b.inj b.con
    | none =>
      if s.relay then
        let s := (s.setCount r { b with done := true }).missingCount b.missing
        match s.parentTie with
        | some p => s.treeSend p b.packet
        | none => s
      else s

def execCount (r : BitVec 10) (s : State) : Out := .next (s.countUp r.toNat)

/-- The round in progress completes: the manager's root holds the sum (R208, R210–R212). One with NOT_EMITTED = 0 or with MISSING = 1
confirms the step (R210, R224). -/
def State.roundComplete (s : State) : State :=
  let b := s.countBuf sysRouter
  if s.relay || !s.ctl.active || !b.valid || b.done || b.left != 0 || b.step != BitVec.ofNat 8 s.ctl.step.toNat ||
      b.round != s.ctl.round then s
  else
    let s := ((s.setCount sysRouter { b with done := true }).inc TMR_STEP_ROUNDS).missingCount b.missing
    let r : Round := { inj := b.inj, con := b.con, clean := b.notEmitted == 0 && b.notPassive == 0 && !b.missing }
    let was := s.ctl.activeSealed
    let s := { s with ctl := { s.ctl with active := false, activeSealed := false, gap := true, round := s.ctl.round + 1,
                                          confirmed := s.ctl.confirmed || b.notEmitted == 0 || b.missing } }
    if was then
      match s.ctl.last with
      | some a =>
        if a.clean && r.clean && a.con == r.inj then s.closeStep ccCOUNT else { s with ctl := { s.ctl with last := some r } }
      | none => { s with ctl := { s.ctl with last := some r } }
    else s.sealCheck

/-- ROUND_COMPLETE (R208). -/
def execRoundComplete (s : State) : Out := .next s.roundComplete

/-- ROUND_TIMEOUT (R209): the round is abandoned and the next one begins. -/
def State.roundTimeout (s : State) : State :=
  if s.relay || !s.ctl.active then s
  else
    ({ s.inc TMR_STEP_RTIMEOUT with ctl := { s.ctl with active := false, activeSealed := false, gap := false, round := s.ctl.round + 1 } }).beginRound

def execRoundTimeout (s : State) : Out := .next s.roundTimeout

/-- ROUND_GAP_EXPIRE (R209): GAP after a round's completion the next one begins. -/
def State.gapExpire (s : State) : State :=
  if s.ctl.gap then ({ s with ctl := { s.ctl with gap := false } }).beginRound else s

def execRoundGapExpire (s : State) : Out := .next s.gapExpire

/-! ## Workers (R198, R211, R223) -/

/-- START reaches a worker (R198). -/
def State.workerStart (s : State) (v : BitVec 64) : State :=
  if s.relay then
    let s := (s.startAt v).setF TMR_STEP_STAT_SEALED 0
    s.setF TMR_STEP_STAT_RUNNING 1
  else s

/-- START (R198). -/
def execStart (step : BitVec 64) (s : State) : Out := .next (s.workerStart step)

/-- SEAL reaches a worker (R211). -/
def State.workerSeal (s : State) (step : BitVec 8) : State :=
  if s.relay then ((s.setF TMR_STEP_STAT_SEALED 1).tsSeal.capture 0x41 0).treeDown (.seal step) else s

/-- SEAL (R211). -/
def execSeal (step : BitVec 8) (s : State) : Out := .next (s.workerSeal step)

/-- CLOSE reaches a worker's controller (R198, R214, R231). -/
def State.workerClose (s : State) (step : BitVec 8) (short exh : Bool) : State :=
  if !s.relay then s
  else
    let n := s.ctl.step + 1
    let d := (step.toNat + 1 + 256 - n.toNat % 256) % 256
    let s := if d ≠ 0 then (s.inc TMR_STEP_SYNC).raise .tmr 0 18 else s
    let len := s.tb.toNat - s.ctl.lastClose
    let s := ((s.setF TMR_STEP_LAST_LEN (min len 0xFFFFFFFF)).setF TMR_STEP_STAT_SEALED 0).setF TMR_STEP_STAT_EXH (bn exh)
    let s := { s with ctl := { s.ctl with step := n + BitVec.ofNat 64 d, lastClose := s.tb.toNat } }
    ((s.recSample 0x00 (len / 1000)).capture 0x40 0).treeDown (.close step short exh)

/-- WORKER_CLOSE (R198). -/
def execWorkerClose (step : BitVec 8) (short exh : Bool) (s : State) : Out := .next (s.workerClose step short exh)

/-! ## Reporters at CLOSE (R205) -/

/-- CLOSE of a step reaches a reporter: its counts of that parity clear and its open step advances. -/
def State.reporterClose (s : State) (rep : Reporter) (step : Nat) : State :=
  match rep with
  | .sink r =>
    let s := { s with sinkStep := Map.set 0 s.sinkStep r.toNat (stepAfter (s.sinkOpen r.toNat) step) }
    (s.setF (rtInj r.toNat step) 0).setF (rtCon r.toNat step) 0
  | .collar => (({ s with collarStep := stepAfter s.collarStep step }).setF (collarInj step) 0).setF (collarCon step) 0
  | .host =>
    (({ s with host := { s.host with step := stepAfter s.host.step step } }).setF (hostInj step) 0).setF (hostCon step) 0
  | .port k =>
    if 10 ≤ k.toNat then s
    else s.modSport k.toNat fun x =>
      if step % 2 = 0 then { x with step := stepAfter x.step step, inj0 := 0 } else { x with step := stepAfter x.step step, inj1 := 0 }
  | .tie p => (s.modTie p.toNat fun x => { x with step := stepAfter x.step step }).setF (tieCon p.toNat step) 0

/-- Domain of a reporter. -/
def repDom : Reporter → Nat
  | .sink r => mortarDom r.toNat
  | .collar => dMTW
  | .host => dHOST
  | .port k => portDom k.toNat
  | .tie _ => dTIE

/-- REPORTER_CLOSE (R205). -/
def execReporterClose (rep : Reporter) (step : BitVec 8) (s : State) : Out :=
  .next (if s.domOn (repDom rep) then s.reporterClose rep step.toNat else s)

end Sys2Proof.Machine
end

