-- ==== Sys2Proof/Machine/Sensors.lean ====
section
/-! DEFINITION. Sensor and actuator ports (spec/12_sensor_ports.md R402–R424): 0 to 3 CSI, 4 and 5 AER, 6 to 9 T1S. -/

namespace Sys2Proof.Machine
open Sys2Proof

/-! ## What a port is (R18, R265, R402) -/

/-- Router whose gateway a port injects at. -/
def portRouter (p : Nat) : Nat :=
  if p = 0 ∨ p = 1 ∨ p = 4 then 0x040 else if p = 2 ∨ p = 3 ∨ p = 5 then 0x05F else 0x060

/-- The gateway's hold bit (R265). -/
def portHold (p : Nat) : Loc :=
  if p = 0 ∨ p = 1 ∨ p = 4 then MTR_INJ_HOLD_SNSW else if p = 2 ∨ p = 3 ∨ p = 5 then MTR_INJ_HOLD_SNSE else MTR_INJ_HOLD_T1SG

def State.portHeld (s : State) (p : Nat) : Bool := s.b (portHold p)

/-- Block and instance of a port's page. -/
def portPage (p : Nat) : Block × Nat := if p < 4 then (.csi, p) else if p < 6 then (.aer, 0) else (.t1s, p - 6)

/-- Ports of a page. -/
def pagePorts (b : Block) (i : Nat) : List Nat :=
  match b with
  | .csi => [i]
  | .aer => [4, 5]
  | .t1s => [6 + i]
  | _ => []

def fifoSize (p : Nat) : Nat := if p < 4 then 256 else 64

/-- The register of a port, by kind. -/
def portLoc (p : Nat) (c : Loc) (a : Loc) (t : Loc) : Loc := if p < 4 then c else if p < 6 then a else t

def portInjCount (p : Nat) : Loc := portLoc p (CSI_INJ p) (AER_INJ (p - 4)) (T1S_INJ (p - 6))
def portDropBucket (p : Nat) : Loc := portLoc p (CSI_DROP_BUCKET p) (AER_DROP_BUCKET (p - 4)) (T1S_DROP_BUCKET (p - 6))
def portDropNoroom (p : Nat) : Loc := portLoc p (CSI_DROP_NOROOM p) (AER_DROP_NOROOM (p - 4)) (T1S_DROP_NOROOM (p - 6))
def portRate (p : Nat) : Loc := portLoc p (CSI_BUCKET_RATE p) (AER_BUCKET_RATE (p - 4)) (T1S_BUCKET_RATE (p - 6))
def portDepth (p : Nat) : Loc := portLoc p (CSI_BUCKET_DEPTH p) (AER_BUCKET_DEPTH (p - 4)) (T1S_BUCKET_DEPTH (p - 6))

/-- The port's domain is on and its page ACTIVE. -/
def State.portUp (s : State) (p : Nat) : Bool := s.domOn (portDom p) && s.actv (portPage p).1 (portPage p).2

/-- The page is on and its disable is in progress. -/
def State.portEnding (s : State) (p : Nat) : Bool := s.domOn (portDom p) && s.draining (portPage p).1 (portPage p).2

/-! ## The token bucket (R404) -/

/-- Tokens in 1/1,600: one count of the time base adds RATE of them. -/
def bucketFill (tokens rate depth : Nat) : Nat := min (depth * 1600) (min tokens (depth * 1600) + rate)

/-- Take a token if one is there, the count first clipped to the depth; RATE = 0 admits everything. -/
def bucketTake (tokens rate depth : Nat) : Bool × Nat :=
  if rate = 0 then (true, tokens)
  else
    let k := min tokens (depth * 1600)
    if 1600 ≤ k then (true, k - 1600) else (false, k)

/-- TOKEN_BUCKET_REFILL (R404, R441): one count of the time base at a sensor port, or (10) at the host's input bucket, by the RATE and
DEPTH in effect. -/
def execTokenBucketRefill (p : BitVec 4) (s : State) : Out :=
  .next (
    let p := p.toNat
    if p < 10 then
      if s.portUp p then
        s.modSport p fun x => { x with tokens := bucketFill x.tokens x.rate x.depth }
      else s
    else if p = 10 ∧ s.domOn dHOST ∧ s.actv .host 0 then
      { s with host := { s.host with itokens := bucketFill s.host.itokens s.host.irate s.host.idepth } }
    else s)

/-! ## Placement, the spill ring and injection (R402, R405, R406) -/

/-- Entries in the ring: in its memory and in the write buffer. -/
def SPort.spilled (x : SPort) : Nat := x.ring.length + x.buf.length

/-- The three conditions of R405 under which a CSI port with SPILL_EN = 1 keeps events in its ring whatever it already holds. -/
def State.spillNow (s : State) (p : Nat) : Bool :=
  s.b TMR_STEP_STAT_SEALED || s.portHeld p || decide (fifoSize p ≤ (s.sport p).fifo.length)

/-- An event that found no room. -/
def State.noRoom (s : State) (p : Nat) : State :=
  let s := s.inc (portDropNoroom p)
  if p = 4 ∨ p = 5 then s.raise .aer 0 (p - 4) else s

/-- Stage 4 (R402, R405). -/
def State.placeEvent (s : State) (p : Nat) (e : PEvent) : State :=
  let x := s.sport p
  if p < 4 && s.b (CSI_CFG_SPILL_EN p) && (s.spillNow p || x.spilled != 0) then
    if 0x800000 ≤ x.spilled then s.noRoom p
    else (s.modSport p fun x => { x with buf := x.buf ++ [(e, s.stampStep.toNat)] }).inc (CSI_SPILLED p)
  else if fifoSize p ≤ x.fifo.length then s.noRoom p
  else s.modSport p fun x => { x with fifo := x.fifo ++ [e] }

/-- Stages 3 and 4 (R402, R404). RATE and DEPTH as the event finds them are in effect from it on. -/
def State.admitEvt (s : State) (p : Nat) (e : PEvent) : State :=
  let (ok, k) := bucketTake (s.sport p).tokens (s.f (portRate p)) (s.f (portDepth p))
  let s := s.modSport p fun x => { x with tokens := k, rate := s.f (portRate p), depth := s.f (portDepth p) }
  if ok then s.placeEvent p e
  else
    let s := s.inc (portDropBucket p)
    if 6 ≤ p then s.raise .t1s (p - 6) 2 else s

/-- A draining page's ports hold nothing more. -/
def State.portsIdle (s : State) (b : Block) (i : Nat) : Bool :=
  (pagePorts b i).all fun p => (s.sport p).fifo.isEmpty && (s.sport p).spilled == 0

/-- The disable completes once the ports hold nothing (R406, R571). -/
def State.portCheck (s : State) (b : Block) (i : Nat) : State :=
  if s.draining b i && s.portsIdle b i then (s.setF (PAGE_DRAINING b i) 0).setF (PAGE_EN b i) 0 else s

/-- PORT_DISABLE (R406). -/
def State.portDisable (s : State) (b : Block) (i : Nat) : State :=
  if s.actv b i then (s.setF (PAGE_DRAINING b i) 1).portCheck b i else s

def execPortDisable (p : BitVec 4) (s : State) : Out :=
  .next (if p.toNat < 10 ∧ s.domOn (portDom p.toNat) then s.portDisable (portPage p.toNat).1 (portPage p.toNat).2 else s)

/-- The remaining entries are discarded and counted, and the disable completes by force (R406, R571). -/
def State.portForce (s : State) (b : Block) (i : Nat) : State :=
  if !s.en b i then s
  else
    let n := ((pagePorts b i).map fun p => (s.sport p).fifo.length + (s.sport p).spilled).sum
    let s := (pagePorts b i).foldl (fun s p => s.modSport p fun x => { x with fifo := [], ring := [], buf := [], tail := x.head }) s
    (((s.add (DISCARD_COUNT b i) n).setF (PAGE_DRAINING b i) 0).setF (PAGE_EN b i) 0).raise b i 30

/-- EN changes to 1: the bucket is full (R404). From then on an AER port drives its ACK (R412, R418). -/
def State.portEnable (s : State) (b : Block) (i : Nat) : State :=
  if s.en b i then s
  else
    let s := s.setF (PAGE_EN b i) 1
    (pagePorts b i).foldl (fun s p => s.modSport p fun x =>
      { x with tokens := s.f (portDepth p) * 1600, rate := s.f (portRate p), depth := s.f (portDepth p), seen := true }) s

/-- The spike an event becomes (R403, R405). -/
def State.eventPacket (s : State) (e : PEvent) : Packet :=
  .spikeUC (BitVec.ofNat 10 e.tile) (BitVec.ofNat 10 s.chipId) (BitVec.ofNat 16 e.axon) (BitVec.ofNat 4 e.payload)
    (BitVec.ofNat 2 e.prio) (BitVec.ofNat 8 s.stampStep.toNat)

/-- The stamp exceeds the recorded step by more than AGE (R405). -/
def State.staleEvent (s : State) (k rec : Nat) : Bool :=
  s.f (CSI_SPILL_AGE k) != 0 && decide (rec + s.f (CSI_SPILL_AGE k) < s.stampStep.toNat)

/-- The oldest event of a sensor port's FIFO is injected, or discarded where it has become stale (R405). -/
def State.injectOne (s : State) (p : Nat) : State :=
  match (s.sport p).fifo with
  | [] => s
  | e :: r =>
    if s.portHeld p || !(s.domOn (portDom p)) then s
    else
      let (b, i) := portPage p
      let stale := match e.rec? with
        | some t => s.staleEvent p t
        | none => false
      if stale then ((s.modSport p fun x => { x with fifo := r }).inc (CSI_SPILL_STALE p)).portCheck b i
      else
        match s.inject (portRouter p) .gw (s.eventPacket e) with
        | none => s
        | some s' =>
          let odd := s.stampStep.toNat % 2 = 1
          let s' := s'.modSport p fun x =>
            if odd then { x with fifo := r, inj1 := x.inj1 + 1 } else { x with fifo := r, inj0 := x.inj0 + 1 }
          ({ s'.inc (portInjCount p) with portTurn := Map.set 0 s'.portTurn (portRouter p) p }).portCheck b i

/-- The port behind the gateway of port `p` whose turn it is: the first with an event in its FIFO after the one that injected last (R402).
Before the first injection the lowest-numbered comes first, a DESIGN CHOICE (notes/assumptions/135.md). -/
def State.portNext (s : State) (p : Nat) : Option Nat :=
  let ps := (List.range 10).filter fun q => portRouter q == portRouter p
  let wait := ps.filter fun q => s.domOn (portDom q) && !(s.sport q).fifo.isEmpty
  match s.portTurn.find? fun x => x.1 == portRouter p with
  | some (_, l) => (wait.find? fun q => decide (l < q)).orElse fun _ => wait.head?
  | none => wait.head?

/-- A port with an event waits for its gateway: the port whose turn it is injects (R402, R405). -/
def State.portInject (s : State) (p : Nat) : State :=
  if (s.sport p).fifo.isEmpty || !s.domOn (portDom p) then s
  else
    match s.portNext p with
    | some q => s.injectOne q
    | none => s

/-- Byte address of ring entry `n` (R405). -/
def State.ringEntry (s : State) (k n : Nat) : Nat := s.chipId * 2 ^ 38 + s.f (CSI_SPILL_BASE k) * 2 ^ 26 + 8 * (n % 0x800000)

/-- Four entries that a failed request lost (R405). -/
def State.spillFail (s : State) (k : Nat) : State := (s.add (CSI_SPILL_FAIL k) 4).raise .csi k 2

/-- SPILL_RING_WRITE (R405): the oldest complete group of four goes to the ring memory in one request. What the entry's eight bytes
are is not stated: free values. -/
def State.ringWrite (s : State) (k : Nat) : State :=
  let x := s.sport k
  if x.buf.length < 4 then s
  else
    let (d, s) := s.drawBytes 32
    match s.engWrite iENGINE (s.ringEntry k x.head) d (portRouter k) with
    | .wait s => s
    | .done s .ok _ =>
      s.modSport k fun y => { y with ring := y.ring ++ x.buf.take 4, buf := x.buf.drop 4, head := (y.head + 4) % 0x800000 }
    | .done s _ _ => (s.modSport k fun y => { y with buf := x.buf.drop 4 }).spillFail k

def execSpillRingWrite (k : BitVec 2) (s : State) : Out := .next (if s.domOn dCSI then s.ringWrite k.toNat else s)

/-- Entries that reach the FIFO, with their recorded steps. -/
def State.toFifo (s : State) (k : Nat) (l : List (PEvent × Nat)) : State :=
  s.modSport k fun x => { x with fifo := x.fifo ++ l.map fun e => { e.1 with rec? := some e.2 } }

/-- SPILL_RING_READ (R405): four entries of the ring memory, or, once that is empty, the entries of an incomplete group. -/
def State.ringRead (s : State) (k : Nat) : State :=
  let x := s.sport k
  if s.spillNow k then s
  else
    let s :=
      if x.ring.isEmpty then
        let n := min x.buf.length (256 - x.fifo.length)
        if 4 ≤ x.buf.length then s
        else (s.modSport k fun y => { y with buf := y.buf.drop n }).toFifo k (x.buf.take n)
      else if 256 < x.fifo.length + 4 then s
      else
        match s.engRead iENGINE (s.ringEntry k x.tail) 32 (portRouter k) with
        | .wait s => s
        | .done s .ok _ =>
          (s.modSport k fun y => { y with ring := y.ring.drop 4, tail := (y.tail + 4) % 0x800000 }).toFifo k (x.ring.take 4)
        | .done s _ _ => (s.modSport k fun y => { y with ring := y.ring.drop 4, tail := (y.tail + 4) % 0x800000 }).spillFail k
    s.portCheck .csi k

def execSpillRingRead (k : BitVec 2) (s : State) : Out := .next (if s.domOn dCSI then s.ringRead k.toNat else s)

/-! ## The block map (R403, R407) -/

/-- A field with 0 meaning 256. -/
def orAll (n : Nat) : Nat := if n = 0 then 256 else n

/-- The map entry of pixel (x, y); none: outside the map. -/
def State.mapAt (s : State) (p x y : Nat) : Option Nat :=
  let bw := orAll (s.f (portLoc p (CSI_GEOM_BW p) (AER_GEOM_BW (p - 4)) (AER_GEOM_BW 0)))
  let bh := orAll (s.f (portLoc p (CSI_GEOM_BH p) (AER_GEOM_BH (p - 4)) (AER_GEOM_BH 0)))
  if bw ≤ x / 16 ∨ bh ≤ y / 16 ∨ (if p < 4 then 16384 else 4096) ≤ y / 16 * bw + x / 16 then none else some (y / 16 * bw + x / 16)

/-- Pixel (x, y) with polarity `pol` through a port's block map; `none`: OOMAP. -/
def State.mapPixel (s : State) (p x y pol : Nat) : Option PEvent :=
  let ys := s.f (portLoc p (CSI_GEOM_YSTRIDE p) (AER_GEOM_YSTRIDE (p - 4)) (AER_GEOM_YSTRIDE 0))
  let ps := s.f (portLoc p (CSI_GEOM_PSTRIDE p) (AER_GEOM_PSTRIDE (p - 4)) (AER_GEOM_PSTRIDE 0))
  let pay := s.f (portLoc p (CSI_CFG_PAYLOAD p) (AER_CFG_PAYLOAD (p - 4)) (AER_CFG_PAYLOAD 0))
  match s.mapAt p x y with
  | none => none
  | some k =>
    let e := (Map.get 0 (s.sport p).map k).toNat
    let ps' := bits e 27 26
    if !bitAt e 31 then none
    else if (ps' = 1 ∧ pol = 0) ∨ (ps' = 2 ∧ pol = 1) then none
    else
      let pol := if ps' = 3 then 0 else pol
      some { tile := bits e 25 16, axon := (bits e 15 0 + pol * ps * 16 + y % 16 * ys + x % 16) % 65536,
             payload := max 1 pay, prio := bits e 29 28 }

/-- Stages 2 to 4 for a decoded pixel. A map entry that fails its parity makes the event OOMAP and raises MAP_PAR (R403). -/
def State.pixel (s : State) (p x y pol : Nat) : State :=
  let out := fun (s : State) => s.inc (portLoc p (CSI_OOMAP p) (AER_OOMAP (p - 4)) (AER_OOMAP 0))
  if (s.mapAt p x y).any fun k => (s.sport p).mapBad.contains k then out (s.raise (portPage p).1 (portPage p).2 (if p < 4 then 3 else 2))
  else
    match s.mapPixel p x y pol with
    | none => out s
    | some e => s.admitEvt p e

/-- A routing table of the port may be written (R407). -/
def State.tableOpen (s : State) (p : Nat) : Bool := !s.en (portPage p).1 (portPage p).2 || s.portHeld p

/-- IDX and AUTO of a port's map. -/
def mapIdx (p : Nat) : Loc := portLoc p (CSI_MAP_IDX_IDX p) (AER_MAP_IDX_IDX (p - 4)) (AER_MAP_IDX_IDX 0)
def mapAuto (p : Nat) : Loc := portLoc p (CSI_MAP_IDX_AUTO p) (AER_MAP_IDX_AUTO (p - 4)) (AER_MAP_IDX_AUTO 0)
def mapData (p : Nat) : Loc := portLoc p (CSI_MAP_DATA p) (AER_MAP_DATA (p - 4)) (AER_MAP_DATA 0)

/-- IDX steps on after an access where AUTO is 1. -/
def State.mapStep (s : State) (p : Nat) : State := if s.b (mapAuto p) then s.addWrap (mapIdx p) 1 else s

/-- What a read of the map data register returns. -/
def State.mapEntry (s : State) (p : Nat) : BitVec 32 := Map.get 0 (s.sport p).map (s.f (mapIdx p))

/-- A write of the map data register (R403, R407), whose bit 30 is reserved; a rejected one reaches no entry. A written entry has good
parity. -/
def State.mapPut (s : State) (p : Nat) (v : BitVec 32) : State :=
  let v := v &&& 0xBFFFFFFF
  let k := s.f (mapIdx p)
  let s :=
    if s.tableOpen p then s.modSport p fun x => { x with map := Map.set 0 x.map k v, mapBad := x.mapBad.filter (· != k) }
    else if s.mapEntry p = v then s
    else s.cfgReject (portPage p).1 (portPage p).2 ((mapData p).addr % 4096)
  s.mapStep p

/-! ## CSI-2 (R408–R410) -/

/-- Width of x or y. -/
def pixWidth (w : Nat) : Nat := max 1 (min 12 w)

/-- `w` bits from `pos`; bits past the word read 0. -/
def field (word pos w : Nat) : Nat := word / 2 ^ pos % 2 ^ w

/-- Does the word's type make it an event (R409)? -/
def State.csiEvent (s : State) (k word : Nat) : Bool :=
  s.f (CSI_FMT1_KW k) == 0 || field word (s.f (CSI_FMT1_KPOS k)) (s.f (CSI_FMT1_KW k)) == s.f (CSI_FMT1_KVAL k)

/-- An event word (R409). -/
def State.csiWord (s : State) (k word : Nat) : State :=
  if !s.csiEvent k word then s.inc (CSI_SKIP k)
  else if s.portEnding k then s.noRoom k
  else
    let x := field word (s.f (CSI_FMT0_XPOS k)) (pixWidth (s.f (CSI_FMT0_XW k)))
    let y := field word (s.f (CSI_FMT0_YPOS k)) (pixWidth (s.f (CSI_FMT0_YW k)))
    let b := field word (s.f (CSI_FMT0_PPOS k)) 1
    let pol := if s.b (CSI_FMT0_PEN k) then (if s.b (CSI_FMT0_PINV k) then 1 - b else b) else 0
    let t := field word (s.f (CSI_FMT1_TPOS k)) (s.f (CSI_FMT1_TWM1 k) + 1)
    let s := match s.f (CSI_FMT1_TMODE k) with
      | 1 => s.setF (CSI_TS_LAST k) t
      | 2 => s.addWrap (CSI_TS_LAST k) t
      | _ => s
    (s.inc (CSI_EVENTS k)).pixel k x y pol

/-- Bytes of an event word. -/
def State.csiEW (s : State) (k : Nat) : Nat := max 2 (min 8 (s.f (CSI_FMT0_EW k)))

/-- The words of a packet's data. -/
def State.csiWords (s : State) (k : Nat) (data : List Nat) : List Nat :=
  let n := s.csiEW k
  ((chunks n (data.length / n) data).filter fun c => c.length == n).map ofLE

/-- A long packet (R408–R410). `hdr`: 0 good, 1 corrected, else uncorrectable. -/
def State.csiLong (s : State) (k vc dt hdr : Nat) (crcBad : Bool) (data : List Nat) : State :=
  if !s.domOn dCSI || !s.en .csi k then s
  else if 2 ≤ hdr then (s.inc (CSI_HDR_ERR k)).raise .csi k 0
  else
    let s := if hdr = 1 then s.inc (CSI_HDR_CORR k) else s
    if vc ≠ s.f (CSI_CFG_VC k) ∨ dt ≠ s.f (CSI_CFG_DT k) ∨ dt < 0x30 ∨ 0x37 < dt then s.inc (CSI_OTHER k)
    else
      let s := s.inc (CSI_PKTS k)
      let (s, body) := s.crcSource (0x10 + k) (s.sport k).frame data
      let s := match body with
        | some d => (s.csiWords k d).foldl (fun s w => s.csiWord k w) s
        | none => s
      if crcBad then (s.inc (CSI_CRC_ERR k)).raise .csi k 1 else s

def execCsiLongPacket (k : BitVec 2) (vc : BitVec 4) (dt : BitVec 6) (hdr : BitVec 2) (crcBad : Bool) (data : List (BitVec 8))
    (s : State) : Out :=
  .next (s.csiLong k.toNat vc.toNat dt.toNat hdr.toNat crcBad (data.map BitVec.toNat))

/-- A short packet (R408): frame start 0x00 and frame end 0x01 of the port's channel supply the frame number; a frame start is a capture
source (R533). -/
def State.csiShort (s : State) (k vc dt num : Nat) : State :=
  if !s.domOn dCSI || !s.en .csi k || vc != s.f (CSI_CFG_VC k) then s
  else if dt = 0 then (s.modSport k fun x => { x with frame := num }).capture (0x20 + k) 0
  else if dt = 1 then s.modSport k fun x => { x with frame := num }
  else s

def execCsiShortPacket (k : BitVec 2) (vc : BitVec 4) (dt : BitVec 6) (num : BitVec 16) (s : State) : Out :=
  .next (s.csiShort k.toNat vc.toNat dt.toNat num.toNat)

/-! ## AER (R411, R412) -/

/-- A word whose handshake the port completes. -/
def State.aerWord (s : State) (k w : Nat) : State :=
  if !s.domOn dCSI || !s.en .aer 0 || !s.b (AER_CFG_PEN k) then s
  else
    let s := s.inc (AER_EVENTS k)
    if s.draining .aer 0 then s.noRoom (4 + k)
    else
      let x := field w (s.f (AER_FMT_XPOS k)) (pixWidth (s.f (AER_FMT_XW k)))
      let y := field w (s.f (AER_FMT_YPOS k)) (pixWidth (s.f (AER_FMT_YW k)))
      let b := field w (s.f (AER_FMT_PPOS k)) 1
      let pol := if s.b (AER_FMT_POLEN k) then (if s.b (AER_FMT_PINV k) then 1 - b else b) else 0
      s.pixel (4 + k) x y pol

/-- AERk_ACK between handshakes (R412, R418): high-impedance until the page has been enabled, low from then on; none is
high-impedance. -/
def State.aerAck (s : State) (k : Nat) : Option Bool := if s.domOn dCSI && (s.sport (4 + k)).seen then some false else none

def execAerWord (k : BitVec 1) (w : BitVec 16) (s : State) : Out := .next (s.aerWord k.toNat w.toNat)

/-! ## 10BASE-T1S (R413–R415) -/

/-- The source entry a frame's source address names. -/
def State.t1sSource (s : State) (p src : Nat) : Option Nat :=
  (List.range 8).find? fun i =>
    s.b (T1S_SRC_HI_VALID p i) && s.f (T1S_SRC_HI_MAC p i) * 2 ^ 32 + s.f (T1S_SRC_LO p i) == src

/-- The signed or unsigned field of a rule in the payload. -/
def State.ruleField (s : State) (p r : Nat) (payload : List Nat) : Option Int :=
  let n := match s.f (T1S_RULE_SEL_WIDTH p r) with | 0 => 1 | 1 => 2 | _ => 4
  let o := s.f (T1S_RULE_SEL_OFFSET p r)
  if payload.length < o + n then none
  else
    let v := if s.b (T1S_RULE_SEL_BE p r) then ofBE (slice payload o n) else ofLE (slice payload o n)
    some (if s.b (T1S_RULE_SEL_SIGNED p r) then sgn (8 * n) v else v)

/-- One rule over an accepted frame (R415). While the port drains, an event counts as DROP_NOROOM. -/
def State.t1sRule (s : State) (p r : Nat) (payload : List Nat) : State :=
  match s.ruleField p r payload with
  | none => s.inc (T1S_RULE_SHORT p)
  | some v =>
    let neg := s.b (T1S_RULE_SEL_NEG p r) && decide (v < 0)
    let v := if neg then -v else v
    let axon := if neg then (s.f (T1S_RULE_TGT_AXON p r) + 1) % 65536 else s.f (T1S_RULE_TGT_AXON p r)
    let c := if s.b (T1S_RULE_SEL_TBL p r) then
        rescaleTable v ((List.range 15).map fun i => sgn 24 (s.rd (T1S_THR p (16 * r + i)).addr).toNat) 0 15
      else rescale v (s.f (T1S_RULE_SCALE_M p r)) (s.f (T1S_RULE_SCALE_S p r)) 0 15
    let s := s.inc (T1S_CONV p)
    let s := if c.clipped then s.inc (T1S_CLIP p) else s
    if c.y = 0 then s
    else if s.draining .t1s p then s.noRoom (6 + p)
    else s.admitEvt (6 + p) { tile := s.f (T1S_RULE_TGT_TILE p r), axon := axon, payload := c.y.toNat, prio := s.f (T1S_RULE_TGT_PRIO p r) }

/-- The rules of source `i`, in ascending order (R415). -/
def State.t1sRules (s : State) (p i : Nat) (payload : List Nat) : State :=
  ((List.range 16).filter fun r => s.b (T1S_RULE_SEL_EN p r) && s.f (T1S_RULE_SEL_SRC p r) == i).foldl
    (fun s r => s.t1sRule p r payload) s

/-- A received frame (R414, R418): listen-only, it counts; enabled, it passes the six checks and goes to the rules. -/
def State.t1sFrame (s : State) (p : Nat) (sym fcs : Bool) (dst src etype : Nat) (payload : List Nat) : State :=
  if !s.domOn dT1S then s
  else if sym then s.inc (T1S_SYM_ERR p)
  else if fcs then s.inc (T1S_FCS_ERR p)
  else if !s.en .t1s p then s.inc (T1S_RX_FRAMES p)
  else
    let mine := dst == s.f (T1S_MAC_HI_MAC p) * 2 ^ 32 + s.f (T1S_MAC_LO p)
    if !(mine || (dst == 2 ^ 48 - 1 && s.b (T1S_MAC_HI_BCAST p))) then s
    else
      match s.t1sSource p src with
      | none => (s.inc (T1S_STRANGER p)).raise .t1s p 0
      | some i =>
        let e := s.f (T1S_SRC_TYPE_ETYPE p i)
        if e ≠ 0 ∧ e ≠ etype then s.inc (T1S_STRANGER p)
        else
          let ms := s.tb.toNat / 100000
          let x := s.sport (6 + p)
          let n := if x.ms = ms then x.accepted else 0
          if s.f (T1S_RXCFG_FRAME_RATE p) ≠ 0 ∧ s.f (T1S_RXCFG_FRAME_RATE p) ≤ n then (s.inc (T1S_RATE_DROP p)).raise .t1s p 3
          else
            let s := s.modSport (6 + p) fun x => { x with ms := ms, accepted := n + 1 }
            ((s.inc (T1S_RX_FRAMES p)).capture (0x28 + p) 0).t1sRules p i payload

def execT1sFrame (p : BitVec 2) (sym fcs : Bool) (dst src : BitVec 48) (etype : BitVec 16) (payload : List (BitVec 8)) (s : State) :
    Out :=
  .next (s.t1sFrame p.toNat sym fcs dst.toNat src.toNat etype.toNat (payload.map BitVec.toNat))

/-! ## Actuators (R416) -/

/-- Bytes of a template's buffer. -/
def State.actBuf (s : State) (p j : Nat) : List Nat := (List.range 16).flatMap fun w => bytesLE 4 (s.rd (T1S_ACT_BUF p j w).addr).toNat

def State.actLen (s : State) (p j : Nat) : Nat := max 1 (min 64 (s.f (T1S_ACT_CTRL_LEN p j)))

def SPort.act (x : SPort) (j : Nat) : ActTpl := Map.get {} x.acts j
def SPort.setAct (x : SPort) (j : Nat) (a : ActTpl) : SPort := { x with acts := Map.set {} x.acts j a }

/-- A trigger: the frame is built, and replaces one that still waits. -/
def State.actTrigger (s : State) (p j step : Nat) (short exh : Bool) : State :=
  let a := (s.sport (6 + p)).act j
  let body := [step % 256, step / 256 % 256, (if short then 1 else 0) + (if exh then 2 else 0), a.frames % 256] ++
    (s.actBuf p j).take (s.actLen p j)
  let s := if a.waiting.isSome then s.inc (T1S_TX_REPLACED p) else s
  s.modSport (6 + p) fun x => x.setAct j
    { closes := a.closes, frames := (a.frames + 1) % 256,
      waiting := some { dst := s.f (T1S_ACT_DST_HI_MAC p j) * 2 ^ 32 + s.f (T1S_ACT_DST_LO p j), etype := s.f (T1S_ACT_DST_HI_ETYPE p j),
                        body := body ++ List.replicate (46 - body.length) 0 } }

/-- A CLOSE reaches template `j` (R416). -/
def State.actClose (s : State) (p j step : Nat) (short exh : Bool) : State :=
  let period := s.f (T1S_ACT_CTRL_PERIOD p j)
  if !s.b (T1S_ACT_CTRL_EN p j) || period == 0 then s
  else
    let n := ((s.sport (6 + p)).act j).closes + 1
    if period ≤ n then
      (s.modSport (6 + p) fun x => x.setAct j { x.act j with closes := 0 }).actTrigger p j step short exh
    else s.modSport (6 + p) fun x => x.setAct j { x.act j with closes := n }

/-- ACTUATOR_TRIGGER_CLOSE (R416): the CLOSE of `step` reaches port `p`. -/
def execActuatorTriggerClose (p : BitVec 2) (step : BitVec 8) (short exh : Bool) (s : State) : Out :=
  let n := (stepAfter (s.sport (6 + p.toNat)).step step.toNat).toNat + 2 ^ 64 - 1
  .next (if s.portUp (6 + p.toNat) then (List.range 4).foldl (fun s j => s.actClose p.toNat j (n % 65536) short exh) s else s)

/-- SEND (R416): triggers a template with EN = 1 once, with the open step. -/
def State.actSend (s : State) (p j : Nat) : State :=
  if s.portUp (6 + p) && s.b (T1S_ACT_CTRL_EN p j) then s.actTrigger p j (s.ctl.step.toNat % 65536) false false else s

def execSend (p j : BitVec 2) (s : State) : Out := .next (s.actSend p.toNat j.toNat)

/-- ACTUATOR_FRAME_SENT (R416, R418, R423): the bus takes a waiting frame (0); a collision (1) or a late one (2), which is a collision too,
is on the bus, and a port that only listens counts it as well; or a waiting frame is abandoned after excess collisions (3). -/
def State.actSent (s : State) (p j coll : Nat) : State :=
  if coll = 1 ∨ coll = 2 then
    if !s.domOn dT1S then s
    else if coll = 1 then s.inc (T1S_COLL p)
    else ((s.inc (T1S_COLL p)).inc (T1S_LATE_COLL p)).raise .t1s p 1
  else if !s.portUp (6 + p) || !s.b (T1S_CFG_TX_EN p) then s
  else
    match ((s.sport (6 + p)).act j).waiting with
    | none => s
    | some f =>
      let s := s.modSport (6 + p) fun x => x.setAct j { x.act j with waiting := none }
      if coll = 0 then (s.modSport (6 + p) fun x => { x with sent := x.sent ++ [f] }).inc (T1S_TX_FRAMES p) else s.inc (T1S_EXC_COLL p)

def execActuatorFrameSent (p j : BitVec 2) (coll : BitVec 2) (s : State) : Out := .next (s.actSent p.toNat j.toNat coll.toNat)

end Sys2Proof.Machine
end

