-- ==== Sys2Proof/Machine/HostStream.lean ====
section
/-! DEFINITION. The host port's streams, input, lease and grace (spec/13_host_link_and_mailboxes.md R437–R441, R445–R447). -/

namespace Sys2Proof.Machine
open Sys2Proof

def State.hostOn (s : State) : Bool := s.domOn dHOST

/-- The stream paths take new work (R447). -/
def State.streamUp (s : State) : Bool := s.hostOn && s.actv .host 0

/-- The step that a CLOSE names, taken with the reporter's open step `v` before or after it has moved on. -/
def closedStep (v : BitVec 64) (t : Nat) : Nat := ((stepAfter v t).toNat + 2 ^ 64 - 1) % 2 ^ 64

/-! ## Streams (R437, R438) -/

def State.strOn (s : State) (k : Nat) : Bool := s.b (HOST_OSTR_CFG_EN k) && !s.host.off.contains k
def State.strDense (s : State) (k : Nat) : Bool := s.b (HOST_OSTR_CFG_MODE k)
def State.strFirst (s : State) (k : Nat) : Nat := s.f (HOST_OSTR_CFG_FIRST k)
def State.strCount (s : State) (k : Nat) : Nat := s.f (HOST_OSTR_CFG_COUNTM1 k) + 1

/-- The enabled stream that takes output index `o`: the lowest whose range holds it. -/
def State.streamOf (s : State) (o : Nat) : Option Nat :=
  (List.range 8).find? fun k => s.strOn k && decide (s.strFirst k ≤ o) && decide (o < s.strFirst k + s.strCount k)

/-- Bounds of a stream's values. -/
def State.strBounds (s : State) (k : Nat) : Int × Int :=
  match s.b (HOST_OSTR_CFG_WIDE k), s.b (HOST_OSTR_CFG_SIGNED k) with
  | false, false => (0, 255)
  | false, true => (-128, 127)
  | true, false => (0, 65535)
  | true, true => (-32768, 32767)

/-- A stream's conversion of a payload or count (R438). -/
def State.strValue (s : State) (k v : Nat) : Int :=
  (rescale v (s.f (HOST_OSTR_SCALE_M k)) (s.f (HOST_OSTR_SCALE_S k)) (s.strBounds k).1 (s.strBounds k).2).y

/-- Key of a dense count: step parity and index in the store. -/
def denseKey (step place : Nat) : Nat := step % 2 * 1024 + place

/-- First index of a dense stream in the store. -/
def State.densePlace (s : State) (k : Nat) : Nat := Map.get 0 s.host.place k - 1

/-- An output spike that is kept: a list entry, or an addition to its index's count. -/
def State.takeSpike (s : State) (k o payload step : Nat) : State :=
  if s.strDense k then
    let key := denseKey step (s.densePlace k + (o - s.strFirst k))
    let v := min 65535 (Map.get 0 s.host.dense key + payload)
    ({ s with host := { s.host with dense := Map.set 0 s.host.dense key v } }).inc HOST_OUT_SPIKES
  else if 16384 ≤ s.host.list.length then
    let l := if s.host.loss.contains k then s.host.loss else s.host.loss ++ [k]
    (({ s with host := { s.host with loss := l } }).inc HOST_OUT_DROP).raise .host 0 2
  else
    let e : OutEntry := { stream := k, step := step, word := (o - s.strFirst k) * 65536 + wrap 16 (s.strValue k payload) }
    ({ s with host := { s.host with list := s.host.list ++ [e] } }).inc HOST_OUT_SPIKES

/-- The step that a packet carries, near the port's open step (R79). -/
def nearStep (v : BitVec 64) (t : Nat) : Nat := ((stepAfter (v - 1) t).toNat + 2 ^ 64 - 1) % 2 ^ 64

/-- In footing mode output streams are off: the spikes of a step are counted, and those of the four FOOT indices noted (R504, R505). -/
def State.footSpike (s : State) (o step : Nat) : State :=
  let base := s.f FOOT_CFG_OBASE
  let hit := fun (h : Nat) => if base ≤ o ∧ o < base + 4 then h ||| 2 ^ (o - base) else h
  if step % 2 = 0 then { s with foot := { s.foot with spikes0 := sat32 (s.foot.spikes0 + 1), hits0 := hit s.foot.hits0 } }
  else { s with foot := { s.foot with spikes1 := sat32 (s.foot.spikes1 + 1), hits1 := hit s.foot.hits1 } }

/-- An output spike reaches the port (R437). It adds to CON where it is current or next (R204). -/
def State.outSpike (s : State) (axon payload step : Nat) : State :=
  match stepClass step s.host.step with
  | .late => s.inc HOST_OUT_LATE
  | c =>
    let s := if c.counted then s.addWrap (hostCon step) 1 else s
    if s.b FOOT_STAT_ACTIVE then s.footSpike (axon - s.f (RT_GWIN_BASE 0)) step
    else if !s.streamUp then (s.inc HOST_OUT_DROP).raise .host 0 2
    else
      let o := axon - s.f (RT_GWIN_BASE 0)
      match s.streamOf o with
      | none => s.inc HOST_OUT_UNMAPPED
      | some k => s.takeSpike k o payload (nearStep s.host.step step)

/-- OUTPUT_SPIKE (R437). -/
def execOutputSpike (axon : BitVec 16) (payload : BitVec 4) (step : BitVec 8) (s : State) : Out :=
  .next (if s.hostOn then s.outSpike axon.toNat payload.toNat step.toNat else s)

/-! ## Frames (R439, R440, R446) -/

/-- Bytes of a frame in the grace ring: its control header and body. -/
def TxFrame.size (f : TxFrame) : Nat := 8 + f.body.length

/-- Size of the ring in bytes. -/
def State.graceSize (s : State) : Nat := 2 ^ (20 + min 4 (s.f HOST_GRACE_SIZE))

/-- A frame goes into the ring (R446). How its bytes stand in the ring memory is not stated: free values. -/
def State.toRing (s : State) (f : TxFrame) : State :=
  if s.graceSize < (s.host.ring.map TxFrame.size).sum + f.size then (s.inc HOST_GRACE_DROP).raise .host 0 5
  else
    let (d, s) := s.drawBytes f.size
    let base := s.f HOST_GRACE_BASE * 2 ^ 20
    let p := s.host.gpos
    let n := min f.size (s.graceSize - p)
    let s := (s.engWrite iENGINE (s.chipId * 2 ^ 38 + base + p) (d.take n) 0x000).take.1
    let s := if n < f.size then (s.engWrite iENGINE (s.chipId * 2 ^ 38 + base) (d.drop n) 0x000).take.1 else s
    { s with host := { s.host with ring := s.host.ring ++ [f], gpos := (p + f.size) % s.graceSize } }

/-- A built stream frame is sent, kept in the ring, or discarded (R446). -/
def State.sendStream (s : State) (f : TxFrame) : State :=
  if !s.bound then s.inc HOST_GRACE_DROP
  else
    match s.f HOST_LEASE_STATE with
    | 2 => if s.b HOST_GRACE_EN then s.toRing f else s.inc HOST_GRACE_DROP
    | 3 => s.inc HOST_GRACE_DROP
    | _ => s.txFrame s.peer 6 f.seq s.chipId f.body

/-- Build a STREAM_OUT frame (R439) and send it. `payload` is the stream payload, `n` its entries or values. -/
def State.buildStream (s : State) (k step flags n offset : Nat) (payload : List Nat) : State :=
  let seq := Map.get 0 s.host.oseq k
  let loss := s.host.loss.contains k
  let host := { s.host with oseq := Map.set 0 s.host.oseq k ((seq + 1) % 65536), loss := s.host.loss.filter (· != k) }
  let s := { s with host := host }
  let (s, p) := s.crcSource 2 seq payload
  match p with
  | none => s
  | some p =>
    s.sendStream
      { dst := s.peer, kind := 6, seq := seq, chip := 0x8000 + s.chipId,
        body := bytesBE 8 step ++ [k, flags + (if loss then 8 else 0)] ++ bytesBE 2 n ++ bytesBE 2 offset ++ [0, 0] ++
          bytesBE 4 s.tb.toNat ++ p }

/-- The pieces of a list stream's entries, one frame each; none of them where there is no entry and no FINAL frame is due. -/
def framePieces {α : Type} (n : Nat) (l : List α) (final : Bool) : List (List α) :=
  if l.isEmpty then (if final then [[]] else []) else chunks n l.length l

/-- Send pieces in order; the last carries the flags of a FINAL frame. -/
def State.sendPieces (s : State) (k step : Nat) (last : Nat) (ps : List (Nat × Nat × List Nat)) : State :=
  ps.zipIdx.foldl (fun s p => s.buildStream k step (if p.2 + 1 = ps.length then last else 0) p.1.1 p.1.2.1 p.1.2.2) s

/-- The list entries of step `u` of a stream leave the buffer and are sent. -/
def State.sendList (s : State) (k u : Nat) (final : Bool) (last : Nat) : State :=
  let (mine, rest) := s.host.list.partition fun e => e.stream == k && e.step == u
  let s := { s with host := { s.host with list := rest } }
  s.sendPieces k u last ((framePieces 367 mine final).map fun l => (l.length, 0, l.flatMap fun e => bytesBE 4 e.word))

/-- The values of a dense stream for step `u` (R438). -/
def State.sendDense (s : State) (k u last : Nat) : State :=
  let wide := s.b (HOST_OSTR_CFG_WIDE k)
  let keys := (List.range (s.strCount k)).map fun i => denseKey u (s.densePlace k + i)
  let vals := keys.map fun q => s.strValue k (Map.get 0 s.host.dense q)
  let s := { s with host := { s.host with dense := s.host.dense.filter fun p => !keys.contains p.1 } }
  let ps := chunks (if wide then 734 else 1468) vals.length vals
  let pad := fun (l : List Nat) => l ++ List.replicate ((4 - l.length % 4) % 4) 0
  s.sendPieces k u last (ps.zipIdx.map fun p =>
    (p.1.length, p.2 * (if wide then 734 else 1468),
      pad (p.1.flatMap fun v => if wide then bytesBE 2 (wrap 16 v) else [wrap 8 v])))

/-- The stream path has nothing left to inject or send (R447). -/
def State.hostIdle (s : State) : Bool := s.host.fifo.isEmpty && s.host.list.isEmpty && s.host.dense.isEmpty

def State.hostCheck (s : State) : State :=
  if s.draining .host 0 && s.hostIdle then (s.setF (PAGE_DRAINING .host 0) 0).setF (PAGE_EN .host 0) 0 else s

/-- STREAM_EARLY_FRAMES (R440): a round has first confirmed the open step. -/
def State.earlyFrames (s : State) : State :=
  if !s.ctl.confirmed then s
  else
    let u := s.ctl.step.toNat
    (((List.range 8).filter fun k => s.strOn k && !s.strDense k).foldl (fun s k => s.sendList k u false 0) s).hostCheck

def execStreamEarlyFrames (s : State) : Out := .next (if s.hostOn && s.en .host 0 then s.earlyFrames else s)

/-- STREAM_FINAL_FRAMES (R440): CLOSE(u) reaches the port. -/
def State.finalFrames (s : State) (u : Nat) (short exh : Bool) : State :=
  let last := 1 + (if short then 2 else 0) + (if exh then 4 else 0)
  let s := ((List.range 8).filter fun k => s.strOn k).foldl
    (fun s k => if s.strDense k then s.sendDense k u last else s.sendList k u true last) s
  ({ s with host := { s.host with list := s.host.list.filter fun e => e.step != u } }).hostCheck

def execStreamFinalFrames (step : BitVec 8) (short exh : Bool) (s : State) : Out :=
  .next (if s.hostOn && s.en .host 0 then s.finalFrames (closedStep s.host.step step.toNat) short exh else s)

/-! ## Input (R441) -/

/-- One event of a STREAM_IN frame, for chip `chip`. -/
def State.streamEvent (s : State) (chip word : Nat) : State :=
  if s.draining .host 0 then s.inc HOST_IN_DROP_NOROOM
  else
    let (ok, k) := bucketTake s.host.itokens (s.f HOST_IBUCKET_RATE) (s.f HOST_IBUCKET_DEPTH)
    let s := { s with host := { s.host with itokens := k, irate := s.f HOST_IBUCKET_RATE, idepth := s.f HOST_IBUCKET_DEPTH } }
    if !ok then s.inc HOST_IN_DROP_BUCKET
    else if 256 ≤ s.host.fifo.length then s.inc HOST_IN_DROP_NOROOM
    else
      let e : PEvent := { tile := bits word 31 22, axon := bits word 21 6, payload := bits word 5 2, prio := bits word 1 0 }
      { s with host := { s.host with fifo := s.host.fifo ++ [(chip, e)] } }

/-- The chip that CHIP of a control header names (R429). -/
def chipField (v : Nat) : Nat := if v % 1024 = 0x3FF ∧ v < 32768 then 0 else v % 1024

/-- A STREAM_IN body. -/
def State.streamIn (s : State) (seq chip : Nat) (body : List Nat) : State :=
  if !s.en .host 0 then s
  else
    let (s, b) := s.crcSource 1 seq body
    match b with
    | none => s
    | some d =>
      ((chunks 4 (d.length / 4) d).filter fun c => c.length == 4).foldl (fun s c => s.streamEvent (chipField chip) (ofBE c)) s

/-- STREAM_IN (R441), from the bound host. -/
def execStreamIn (seq chip : BitVec 16) (body : List (BitVec 8)) (s : State) : Out :=
  .next (if s.hostOn && s.bound then s.streamIn seq.toNat chip.toNat (body.map BitVec.toNat) else s)

/-- The oldest input event is injected. -/
def State.hostInject (s : State) : State :=
  match s.host.fifo with
  | [] => s
  | (chip, e) :: r =>
    if s.b MTR_INJ_HOLD_HOST || !s.hostOn then s
    else
      let p : Packet := .spikeUC (BitVec.ofNat 10 e.tile) (BitVec.ofNat 10 chip) (BitVec.ofNat 16 e.axon) (BitVec.ofNat 4 e.payload)
        (BitVec.ofNat 2 e.prio) (BitVec.ofNat 8 s.stampStep.toNat)
      match s.inject 0x000 .gw p with
      | none => s
      | some s' =>
        ((({ s' with host := { s'.host with fifo := r } }).inc HOST_IN_INJ).addWrap (hostInj s.stampStep.toNat) 1).hostCheck

/-- PORT_INJECT (R405, R441): a sensor port, or (10) the host port. -/
def execPortInject (p : BitVec 4) (s : State) : Out :=
  .next (if p.toNat < 10 then s.portInject p.toNat else if p.toNat = 10 then s.hostInject else s)

/-! ## Enable and disable (R438, R447) -/

/-- EN written to 1: dense streams get their counts in stream order; one that does not fit stays disabled. -/
def State.hostEnable (s : State) : State :=
  if s.en .host 0 then s
  else
    let s := (s.setF (PAGE_EN .host 0) 1)
    let (s, _) := ((List.range 8).filter fun k => s.b (HOST_OSTR_CFG_EN k) && s.strDense k).foldl
      (fun (r : State × Nat) k =>
        let (s, used) := r
        if used + s.strCount k ≤ 1024 then
          ({ s with host := { s.host with place := Map.set 0 s.host.place k (used + 1) } }, used + s.strCount k)
        else (({ s with host := { s.host with off := s.host.off ++ [k] } }).raise .host 0 3, used))
      ({ s with host := { s.host with off := [], place := [], dense := [], itokens := s.f HOST_IBUCKET_DEPTH * 1600, irate := s.f HOST_IBUCKET_RATE,
                                      idepth := s.f HOST_IBUCKET_DEPTH } }, 0)
    s

/-- HOST_STREAM_DISABLE (R447). -/
def State.hostDisable (s : State) : State :=
  if s.actv .host 0 then (s.setF (PAGE_DRAINING .host 0) 1).hostCheck else s

def execHostStreamDisable (s : State) : Out := .next (if s.hostOn then s.hostDisable else s)

/-- The drain is forced: events and spikes left are discarded and counted. -/
def State.hostForce (s : State) : State :=
  if !s.en .host 0 then s
  else
    let n := s.host.fifo.length + s.host.list.length + s.host.dense.length
    let s := { s with host := { s.host with fifo := [], list := [], dense := [] } }
    (((s.add (DISCARD_COUNT .host 0) n).setF (PAGE_DRAINING .host 0) 0).setF (PAGE_EN .host 0) 0).raise .host 0 30

/-! ## Lease and grace (R445, R446) -/

/-- Timer channel 1 armed as a one-shot `t` counts ahead (R445). -/
def State.leaseArm (s : State) : State :=
  let s := { s with tmr := Map.set {} s.tmr 1 { mode := 1, src := 0 } }
  let s := s.setF (TMRCH_PHASE 1) s.host.interval
  ((s.setF (TMRCH_COMPARE 1) (s.tb.toNat + s.host.interval)).setF (TMRCH_STAT_ARMED 1) 1).setF (TMRCH_STAT_MISSED 1) 0

/-- The frames of the ring are sent in order, marked GRACE (R439, R446). -/
def State.flushRing (s : State) : State :=
  let l := s.host.ring
  l.foldl (fun s f => s.txFrame s.peer 6 f.seq s.chipId (f.body.take 9 ++ [f.body.getD 9 0 + 16] ++ f.body.drop 10))
    { s with host := { s.host with ring := [] } }

/-- A HEARTBEAT from the bound host (R445, R446). -/
def State.heartbeat (s : State) : State :=
  match s.f HOST_LEASE_STATE with
  | 1 => s.leaseArm
  | 2 => ((s.setF HOST_LEASE_STATE 1).leaseArm).flushRing
  | _ => s

/-- HEARTBEAT_RECOGNISE (R445). -/
def execHeartbeatRecognise (s : State) : Out := .next (if s.hostOn && s.bound then s.heartbeat else s)

/-- The lease lapses as channel 1 matches (R446). -/
def State.lapse (s : State) : State :=
  let s := s.setF HOST_LEASE_STATE 2
  { s with host := { s.host with graceAt := s.tb.toNat + s.host.grace } }

/-- Channel `k` matches (R531); channel 1 carries a held lease (R446). -/
def State.matchChan (s : State) (k : Nat) : State :=
  if s.stepOwns k || !s.tmrCompares k then s
  else if k = 1 ∧ s.f HOST_LEASE_STATE = 1 then (s.tmrMatch 1).lapse
  else s.tmrMatch k

/-- TIMER_MATCH (R531). -/
def execTimerMatch (k : BitVec 4) (s : State) : Out := .next (s.matchChan k.toNat)

/-- LEASE_LAPSE (R446). -/
def execLeaseLapse (s : State) : Out := .next (if s.f HOST_LEASE_STATE = 1 then s.matchChan 1 else s)

/-- The binding is released (R431). -/
def State.unbind (s : State) : State := ((s.setF HOST_BIND_BOUND 0).setF HOST_BIND_PEER_HI 0).setF HOST_PEER_LO 0

/-- HOST_BIND_RELEASE (R431). -/
def execHostBindRelease (s : State) : Out := .next (if s.hostOn then s.unbind else s)

/-- GRACE_EXPIRE (R446): while a lease is in grace. Without AUTONOMOUS the scheduler firmware enters footing. -/
def State.graceExpire (s : State) : State :=
  if s.f HOST_LEASE_STATE ≠ 2 then s
  else
    let s := (s.timeTo s.host.graceAt).unbind
    let s := ({ s with host := { s.host with ring := [] } }).setF HOST_LEASE_STATE 3
    if !s.b HOST_LEASE_AUTONOMOUS && s.schedRuns then s.footTrigger 1 else s

def execGraceExpire (s : State) : Out := .next (if s.hostOn then s.graceExpire else s)

/-! ## Link and gPTP (R425, R427, R447) -/

/-- The link goes up or down. -/
def State.hostLink (s : State) (up : Bool) : State :=
  if s.b HOST_PHY_LINK = up then s
  else
    let s := ((s.setF HOST_PHY_LINK (bn up)).raise .host 0 0).capture 0x31 0
    if up then s else s.inc HOST_LINK_DOWNS

/-- HOST_LINK_CHANGE (R447). -/
def execHostLinkChange (up : Bool) (s : State) : Out := .next (if s.hostOn then s.hostLink up else s)

/-- GPTP_FRAME (R427, R533): a Sync is a capture source; the servo is firmware. -/
def execGptpFrame (sync : Bool) (s : State) : Out := .next (if s.hostOn && sync then s.capture 0x30 0 else s)

end Sys2Proof.Machine
end

