-- ==== Sys2Proof/Machine/Integrity.lean ====
section
/-! DEFINITION. Correction of held words, the bucket's leak, repointing, the log, retirement, bank states and the secure window
(spec/11_onchip_memory_integrity.md R374–R377, R382, R384, R387–R395). -/

namespace Sys2Proof.Machine
open Sys2Proof

/-! ## Held words (R382, R384) -/

/-- The hold of the hardware path or of the firmware path. -/
def State.holdOf (s : State) (t : Nat) (fw : Bool) : Option Hold := (s.tile t).holds.find? fun h => h.fw == fw && !h.failed

/-- The port of the access that found the error. -/
def Hold.port (h : Hold) : Nat := (h.waits.headD (pMORTAR, .none)).1

/-- The word has been corrected: its hold ends, and what waited goes on (R381, R387). -/
def State.holdDone (s : State) (t outcome : Nat) (h : Hold) : State :=
  (((s.release t h.mem h.word).pendClear t h.fw).corrected t outcome h.mem h.port h.mask h.word).rebaseResume t

/-- The word could not be corrected (R384). -/
def State.holdFails (s : State) (t : Nat) (h : Hold) : State := (s.failHold t h).rebaseResume t

/-- HW_REFETCH_REPLY (R382): the reply is OK and the word is written with fresh parity, or the word becomes uncorrectable (R384). A
refetch that has found no room at its router is issued. -/
def State.refetchReply (s : State) (t : Nat) : State :=
  match s.holdOf t false with
  | none => s
  | some h =>
    match h.rsp with
    | none => s.refetchPump t
    | some (0, d) =>
      let v := (d.headD 0).toNat
      (if h.mem = 0 then s.setSynW t h.word v else s.setProg t h.word (v % 2 ^ 32)).holdDone t 0 h
    | some _ => s.holdFails t h

def execHwRefetchReply (t : BitVec 10) (s : State) : Out := .next (if s.tileServes t.toNat then s.refetchReply t.toNat else s)

/-- PEND.DONE (R384, R387). -/
def State.pendDone (s : State) (t : Nat) : State :=
  match s.holdOf t true with
  | some h => s.holdDone t 1 h
  | none => s

/-- PEND.FAIL (R384). -/
def State.pendFail (s : State) (t : Nat) : State :=
  match s.holdOf t true with
  | some h => s.holdFails t h
  | none => s

def execParPendFail (t : BitVec 10) (s : State) : Out := .next (if s.tileUp t.toNat then s.pendFail t.toNat else s)

/-- PAR_HOLD_TIMEOUT (R384): WAIT has passed since the error. -/
def State.holdTimeout (s : State) (t : Nat) (fw : Bool) : State :=
  match s.holdOf t fw with
  | some h => s.holdFails t h
  | none => s

def execParHoldTimeout (t : BitVec 10) (fw : Bool) (s : State) : Out :=
  .next (if s.tileUp t.toNat then s.holdTimeout t.toNat fw else s)

/-- PAR_BUCKET_LEAK (R387). -/
def State.bucketLeak (s : State) (c : Nat) : State := s.setF (CLU_PAR_LEVEL_LEVEL c) (s.f (CLU_PAR_LEVEL_LEVEL c) - 1)

def execParBucketLeak (c : BitVec 4) (s : State) : Out := .next (if s.domOn (dCLU c.toNat) then s.bucketLeak c.toNat else s)

/-! ## Repointing (R388–R390) -/

/-- Memory, bank and region of a tile's region number: synapse, neuron state, accumulators, program, each bank from region 0 (R388). -/
def regionAt (k : Nat) : Nat × Nat × Nat :=
  if k < 512 then (0, k / 64, k % 64)
  else if k < 768 then (1, (k - 512) / 64, k % 64)
  else if k < 1024 then (2, (k - 768) / 4, k % 4)
  else (3, (k - 1024) / 64, k % 64)

/-- Word `i` of a region (R374). -/
def regionWord (m b r i : Nat) : Nat :=
  match m with
  | 0 => b * 4096 + r * 64 + i
  | 1 => (r * 64 + i) * 4 + b
  | 2 => (r * 64 + i) * 64 + b
  | _ => b * 4096 + r * 64 + i

/-- The first region at or after `k` that is on, not retired and has not failed (R388, R389). -/
def State.nextRegion (s : State) (t k : Nat) : Option Nat :=
  (List.range (1152 - k)).findSome? fun i =>
    let (m, b, r) := regionAt (k + i)
    if (s.tile t).marchFail.contains (k + i) || s.retiredWord t m (regionWord m b r 0) then none else some (k + i)

/-- What the copy of a word reads, with the containment of each part by where it lies (R385, R389): descriptors (R84) and route map entries
(R107) as those; rows, templates and program words are contained for no event, entry or thread. -/
def State.copyReads (s : State) (t m w : Nat) : List (Nat × Nat × Contain) :=
  if m = 1 ∨ m = 2 then [(m, w, .block w)]
  else if m = 0 then
    let d := s.f (TILE_AXON_CFG_BASE t) * 8
    let r := s.f (TILE_ROUTE_CFG_BASE t) * 512
    if d ≤ w ∧ w < d + s.f (TILE_AXON_CFG_DIRECT_COUNT t) + (kslots (s.f (TILE_AXON_CFG_KSLOTS t))).1 then [(0, w, .nullDesc w)]
    else if r ≤ w ∧ w < r + 512 then [(0, w, .routeMap (8 * w)), (0, w, .routeMap (8 * w + 4))]
    else [(0, w, .none)]
  else [(m, w, .none)]

/-- The words of a region are read for the shadow copy; `k` goes on where none of them is held (R389). -/
def State.copyRegion (s : State) (t m b r : Nat) (k : State → State) : State :=
  if s.parClean t then k s
  else
    let (s, ok) := s.readEach t pREPOINT ((List.range 64).flatMap fun i => s.copyReads t m (regionWord m b r i))
    if ok then k s else s

/-- The unit of a tile tests its next region; `fail`: the march found a cell that did not hold what was written. -/
def State.repointTile (s : State) (t : Nat) (fail : Bool) : State :=
  if !s.tileServes t || !s.b (TILE_PAR_CFG_REP_EN t) then s
  else
    match (s.nextRegion t (s.tile t).repNext).orElse fun _ => s.nextRegion t 0 with
    | none => s
    | some k =>
      let (m, b, r) := regionAt k
      s.copyRegion t m b r fun s =>
        let s := ((s.setF (TILE_REP_STAT_MEM t) m).setF (TILE_REP_STAT_BANK t) b).setF (TILE_REP_STAT_REGION t) r
        let s := if fail then
            ((s.parLog t 4 m 4 0 (regionWord m b r 0)).raise .clu (clusterOf t) 11).modTile t fun x =>
              { x with marchFail := x.marchFail ++ [k] }
          else s
        match s.nextRegion t (k + 1) with
        | some n => s.modTile t fun x => { x with repNext := n }
        | none => (s.addWrap (TILE_REP_STAT_PASSES t) 1).modTile t fun x => { x with repNext := 0 }

/-- The first region of a cluster's shared memory at or after `k` that is on, not retired and has not failed. -/
def State.nextShmRegion (s : State) (c k : Nat) : Option Nat :=
  (List.range 16).findSome? fun b =>
    if (b + 1) * 512 ≤ k || bitAt (s.f (CLU_RETIRE_BANK_BANK c)) b then none
    else (List.range 512).findSome? fun r =>
      if b * 512 + r < k || (s.cluster c).marchFail.contains (b * 512 + r) then none else some (b * 512 + r)

/-- The unit of a cluster's shared memory tests its next region; words that fail their parity stay as they are (R391). -/
def State.repointShm (s : State) (c : Nat) (fail : Bool) : State :=
  if !s.domOn (dCLU c) || !s.b (CLU_REP_CFG_REP_EN c) then s
  else
    match (s.nextShmRegion c (s.cluster c).repNext).orElse fun _ => s.nextShmRegion c 0 with
    | none => s
    | some k =>
      let (b, r) := (k / 512, k % 512)
      let s := ((List.range 64).filter fun i => Map.get 0 (s.cluster c).bad (b * 32768 + r * 64 + i) != 0).foldl
        (fun s i => s.shmError c pREPOINT (b * 32768 + r * 64 + i)) s
      let s := (s.setF (CLU_REP_STAT_BANK c) b).setF (CLU_REP_STAT_REGION c) r
      let s := if fail then
          let s := (s.raise .clu c 11).modCluster c fun x => { x with marchFail := x.marchFail ++ [k] }
          if s.b (CLU_PAR_LOG_VALID c) then s
          else (((s.setF (CLU_PAR_LOG_VALID c) 1).setF (CLU_PAR_LOG_PORT c) 4).setF (CLU_PAR_LOG_BANK c) b).setF
            (CLU_PAR_LOG_WORD c) (r * 64)
        else s
      match s.nextShmRegion c (k + 1) with
      | some n => s.modCluster c fun x => { x with repNext := n }
      | none => (s.addWrap (CLU_REP_STAT_PASSES c) 1).modCluster c fun x => { x with repNext := 0 }

/-- REPOINT_REGION (R388): of a cluster's shared memory, or of a tile. -/
def execRepointRegion (cl : Bool) (i : BitVec 10) (fail : Bool) (s : State) : Out :=
  .next (if cl then (if i.toNat < 16 then s.repointShm i.toNat fail else s) else s.repointTile i.toNat fail)

/-! ## The log (R391, R398) -/

/-- A read of TILE_PAR_LOG: the word it returns, and the entry leaves. -/
def State.parLogRead (s : State) (t : Nat) : BitVec 32 × State :=
  match (s.tile t).log with
  | [] => (0, s)
  | e :: r => (e.word, (s.setF (TILE_PAR_LOG_T t) e.time.toNat).modTile t fun x => { x with log := r })

/-- TILE_PAR_LOG_READ (R391). -/
def execTileParLogRead (t : BitVec 10) (s : State) : Out := .next (if s.tileUp t.toNat then (s.parLogRead t.toNat).2 else s)

/-! ## Folding and losing a tile (R206, R377, R392) -/

/-- Both parity counts of a tile are added to its router's sink counts. -/
def State.foldTile (s : State) (t : Nat) : State :=
  [0, 1].foldl (fun s p => (s.addWrap (rtInj t p) (s.f (tileInj t p))).addWrap (rtCon t p) (s.f (tileCon t p))) s

/-- A tile's registers and hidden state return to reset. -/
def State.tileReset (s : State) (t : Nat) : State :=
  (s.resetRegs (Block.tile.base t) (Block.tile.base t + 0xFFF)).setTile t {}

/-- A tile leaves service (R206, R377, R392): its counts fold into its router, which begins to sink with the chip's step, and its state and
memories are lost. -/
def State.tileGone (s : State) (t : Nat) : State :=
  let s := ((s.foldTile t).tileReset t).zeroMem (winBase t) (winBase t + 0x7FFFF)
  { s with sinkStep := Map.set 0 s.sinkStep t s.ctl.step }

/-! ## Retirement (R392) -/

/-- What a bank or region held is lost when it is retired (R375). -/
def State.zeroWords (s : State) (t m : Nat) (ws : List Nat) : State :=
  ws.foldl (fun s w =>
    let (a, n) := match m with
      | 0 => (synBase t + 8 * w, 8)
      | 1 => (neuBase t + 4 * w, 4)
      | 2 => (accBase t + 4 * w, 4)
      | _ => (progBase t + 4 * w, 4)
    (State.stN n s a 0).freshWord t m w) s

/-- Firmware keeps a retirement register's value in the training and repair partition, for step 4 (R393). -/
def State.keepRetire (s : State) (a v : Nat) : State :=
  { s with kparts := { s.kparts with retired := Map.set 0 s.kparts.retired a (BitVec.ofNat 32 v) } }

/-- TILE_RETIRE takes `v`: the banks retired lose their contents, and return from off with good parity (R376). -/
def State.retireSyn (s : State) (t v : Nat) : State :=
  let s := (setBits 8 v).foldl (fun s b =>
    (s.zeroMem (synBase t + b * 0x8000) (synBase t + b * 0x8000 + 0x7FFF)).modTile t fun x =>
      { x with bad := x.bad.filter fun p => p.1 / 4096 != b }) s
  (s.setF (TILE_RETIRE_SYN t) v).keepRetire (TILE_RETIRE_SYN t).addr v

/-- TILE_RETIRE_REGk takes `v`. A region that does not exist retires nothing. -/
def State.retireRegion (s : State) (t k v : Nat) : State :=
  let (m, b, r) := (bits v 30 29, bits v 13 8, bits v 5 0)
  let there := match m with
    | 0 => decide (b < 8)
    | 1 => decide (b < 4)
    | 2 => decide (r < 4)
    | _ => decide (b < 2)
  let s := if bitAt v 31 && there then s.zeroWords t m ((List.range 64).map fun i => regionWord m b r i) else s
  ((((s.setF (TILE_RETIRE_REG_VALID t k) (v / 2 ^ 31)).setF (TILE_RETIRE_REG_MEM t k) m).setF (TILE_RETIRE_REG_BANK t k) b).setF
    (TILE_RETIRE_REG_REGION t k) r).keepRetire (TILE_RETIRE_REG_VALID t k).addr v

/-- CLU_RETIRE_BANK takes `v`. -/
def State.retireShm (s : State) (c v : Nat) : State :=
  let s := (setBits 16 v).foldl (fun s b =>
    (s.zeroMem (shmBase c + b * 0x40000) (shmBase c + b * 0x40000 + 0x3FFFF)).modCluster c fun x =>
      { x with bad := x.bad.filter fun p => p.1 / 32768 != b }) s
  (s.setF (CLU_RETIRE_BANK_BANK c) v).keepRetire (CLU_RETIRE_BANK_BANK c).addr v

/-- Tiles that bits of CLU_RETIRE_T0 (`hi` = 0) or CLU_RETIRE_T1 name. -/
def retireTiles (c hi v : Nat) : List Nat := (setBits 32 v).map fun i => tileOf c (32 * hi + i)

/-- Every tile newly named is stopped (R392). -/
def State.retireOk (s : State) (c hi v : Nat) : Bool := (retireTiles c hi v).all fun t => s.tileRetired t || !s.en .tile t

/-- CLU_RETIRE_T0 or CLU_RETIRE_T1 takes `v`: tiles newly retired leave service and their routers sink. -/
def State.retireTile (s : State) (c hi v : Nat) : State :=
  let s := ((retireTiles c hi v).filter fun t => s.tileUp t).foldl (fun s t => s.tileGone t) s
  let l := if hi = 0 then CLU_RETIRE_T0 c else CLU_RETIRE_T1 c
  (s.setF l v).keepRetire l.addr v

/-! ## Bank states (R375, R376, R518) -/

/-- Bytes of a tile whose banks PWR_RETc selects off lose their contents. -/
def State.dropBanks (s : State) (t : Nat) : State :=
  let c := clusterOf t
  let syn := s.f (PWR_RET_SYN c)
  let neu := s.f (PWR_RET_NEU c)
  let prog := s.f (PWR_RET_PROG c)
  let s := ((List.range 8).filter fun b => !bitAt syn b).foldl
    (fun s b => s.zeroMem (synBase t + b * 0x8000) (synBase t + b * 0x8000 + 0x7FFF)) s
  let s := if neu % 16 = 15 then s
    else { s with mem := s.mem.filter fun p => !(decide (neuBase t ≤ p.1) && decide (p.1 < neuBase t + 0x10000) &&
                                                  !bitAt neu ((p.1 - neuBase t) / 4 % 4)) }
  let s := if s.b (PWR_RET_ACC c) then s else s.zeroMem (accBase t) (accBase t + 0xFFFF)
  ((List.range 2).filter fun b => !bitAt prog b).foldl
    (fun s b => s.zeroMem (progBase t + b * 0x4000) (progBase t + b * 0x4000 + 0x3FFF)) s

/-- Words of banks selected off have good parity once they have been filled (R376). -/
def State.dropBad (s : State) (t : Nat) : State :=
  let c := clusterOf t
  let keep := fun (k : Nat) =>
    let (m, w) := (k / 32768, k % 32768)
    match m with
    | 0 => bitAt (s.f (PWR_RET_SYN c)) (tileBank 0 w).1
    | 1 => bitAt (s.f (PWR_RET_NEU c)) (tileBank 1 w).1
    | 2 => s.b (PWR_RET_ACC c)
    | _ => bitAt (s.f (PWR_RET_PROG c)) (tileBank 3 w).1
  if (s.tile t).bad = [] then s else s.modTile t fun x => { x with bad := x.bad.filter fun p => keep p.1 }

/-- The banks of a stopped tile take their selections (R375). -/
def State.banksSleep (s : State) (t : Nat) : State :=
  if s.b (PWR_RET_STOP (clusterOf t)) && !s.en .tile t && !(s.tile t).asleep then
    ((s.dropBanks t).dropBad t).modTile t fun x => { x with asleep := true }
  else s

/-- STOPPED_BANK_HOLD_EXPIRE (R375). -/
def execStoppedBankHoldExpire (t : BitVec 10) (s : State) : Out := .next (if s.tileUp t.toNat then s.banksSleep t.toNat else s)

/-- A sleeping tile's banks return once STOP has been cleared (R375, R376). -/
def State.banksReturn (s : State) (t : Nat) : State :=
  if (s.tile t).asleep && !s.b (PWR_RET_STOP (clusterOf t)) then s.modTile t fun x => { x with asleep := false } else s

/-- BANK_RETURN (R376). -/
def execBankReturn (t : BitVec 10) (s : State) : Out := .next (if s.tileUp t.toNat then s.banksReturn t.toNat else s)

/-! ## The secure window (R394, R395) -/

/-- A write of CLU_SEC_WIN that the firewall has let through: fixed once LOCK is set. -/
def State.secWinWrite (s : State) (v : Nat) : State :=
  if s.b (CLU_SEC_WIN_LOCK 0) then s
  else (((s.setF (CLU_SEC_WIN_LOCK 0) (v / 2 ^ 31)).setF (CLU_SEC_WIN_SIZE 0) (bits v 11 8)).setF (CLU_SEC_WIN_EN 0) (bits v 7 7)).setF
    (CLU_SEC_WIN_BASE 0) (bits v 5 0)

/-- CLU_SEC_WIN_WRITE (R394): only SEC may write; DOMAIN_OFF while PD_CLU0 is off. -/
def execCluSecWinWrite (ini : BitVec 5) (v : BitVec 32) (s : State) : Out :=
  let a := (CLU_SEC_WIN 0).addr
  .next (
    if !s.fwAllows ini.toNat a true then s.fwRefuse ini.toNat a true
    else if !s.domOn (dCLU 0) then s
    else s.secWinWrite v.toNat)

/-- The wipe of the window has ended (R395). -/
def State.wipeEnd (s : State) : State :=
  let s := { s with secure := { s.secure with wipe := none } }
  ((s.setF (CLU_SEC_WIN_WIPING 0) 0).setF (CLU_SEC_WIN_WIPED 0) 1).raise .clu 0 13

/-- A wipe takes 60 µs of the time base, the longest that R395 allows, a DESIGN CHOICE (notes/assumptions/36.md). -/
def wipeTime : Nat := 6000

/-- The wipe in progress ends once its time has passed. -/
def State.wipeCheck (s : State) : State :=
  match s.secure.wipe with
  | some t => if t + wipeTime ≤ s.tb.toNat then s.wipeEnd else s
  | none => s

/-- The window is wiped (R395): its words are zero from the wipe's begin on, since no access sees them before its end. With PD_CLU0 off
there is nothing to wipe, and WIPED sets at once. -/
def State.wipeWindow (s : State) : State :=
  let (a, e) := s.secWin
  if s.domOn (dCLU 0) && decide (a < e) then
    let s := (s.zeroMem (shmBase 0 + a) (shmBase 0 + e - 1)).modCluster 0 fun x =>
      { x with bad := x.bad.filter fun p => !(decide (a ≤ 8 * p.1) && decide (8 * p.1 < e)) }
    { s.setF (CLU_SEC_WIN_WIPING 0) 1 with secure := { s.secure with wipe := some s.tb.toNat } }
  else s.wipeEnd

end Sys2Proof.Machine
end

