-- ==== Sys2Proof/Machine/Kiln.lean ====
section
/-! DEFINITION. The kiln's plastic store: rows, slices, rings, sets, mount; the cluster firmware's write-back and promotion
(spec/08_learning_and_kiln.md R292–R305, R313–R315; spec/04_synapse_store.md R150–R156). -/

namespace Sys2Proof.Machine
open Sys2Proof

/-! ## Rows (R292–R294) -/

def kBASE : Nat := 0xA400
def kEND : Nat := 0x40000

def State.krow (s : State) (r : Nat) : KRow := Map.get {} s.krows r
def KRow.wear (k : KRow) : Nat := bits k.tag.toNat 63 44
def KRow.slice (k : KRow) : Nat := bits k.tag.toNat 43 40
def KRow.lrow (k : KRow) : Nat := bits k.tag.toNat 39 22
def KRow.set (k : KRow) : Nat := bits k.tag.toNat 21 6

/-- CRC-16 over data and tag (R293). -/
def kCrc (data : BitVec 512) (tag : BitVec 64) : BitVec 16 :=
  BitVec.ofNat 16 (crcMsb 16 0x1021 0xFFFF (lineBytes data ++ bytesLE 8 tag.toNat))

def KRow.good (k : KRow) : Bool := k.crc == kCrc k.data k.tag

/-- The rows of slice `c` (R294). -/
def State.sliceRows (s : State) (c : Nat) : List Nat :=
  ((List.range (16 * s.f (KILN_SLICE_SIZE16 c))).map fun i => kBASE + 16 * s.f (KILN_SLICE_BASE16 c) + i).filter fun r => decide (r < kEND)

/-- `a` is newer than `b` (R295). -/
def newer (a b : Nat) : Bool := let d := (a + 65536 - b) % 65536; decide (1 ≤ d) && decide (d ≤ 32767)

def State.kslice (s : State) (c : Nat) : KSlice := Map.get {} s.kslices c
def State.modKslice (s : State) (c : Nat) (g : KSlice → KSlice) : State := { s with kslices := Map.set {} s.kslices c (g (s.kslice c)) }

def KSlice.queue (k : KSlice) : Nat → List Nat
  | 0 => k.q0
  | 1 => k.q1
  | 2 => k.q2
  | _ => k.q3

def KSlice.setQueue (k : KSlice) (b : Nat) (l : List Nat) : KSlice :=
  match b with
  | 0 => { k with q0 := l }
  | 1 => { k with q1 := l }
  | 2 => { k with q2 := l }
  | _ => { k with q3 := l }

def State.wearLimit (s : State) : Nat := s.f KILN_CFG_WEAR_LIMIT

/-! ## Mount (R302) -/

/-- Insert a row behind those of no greater WEAR. -/
def State.byWear (s : State) (r : Nat) : List Nat → List Nat
  | [] => [r]
  | q :: t => if (s.krow r).wear < (s.krow q).wear then r :: q :: t else q :: s.byWear r t

/-- Of a list of rows, the one whose SET is newest; of rows of one SET the one later in the list, which in a slice's rows in use is the one
written later (notes/assumptions/133.md). -/
def State.newest (s : State) (l : List Nat) : Option Nat :=
  l.foldl (fun b r => match b with
    | none => some r
    | some q => if newer (s.krow q).set (s.krow r).set then some q else some r) none

/-- The authoritative copy of a logical row among the rows in use, for sealed set `g` (R296). -/
def State.authRow (s : State) (used : List Nat) (l g : Nat) : Option Nat :=
  s.newest (used.filter fun r => (s.krow r).lrow == l && !newer (s.krow r).set g)

/-- Mount one slice. -/
def State.mountSlice (s : State) (c : Nat) : State :=
  let rows := s.sliceRows c
  let ok := rows.filter fun r => (s.krow r).good && (s.krow r).slice == c
  let top := s.newest (ok.filter fun r => (s.krow r).lrow == 0)
  let g := (top.map fun r => (s.krow r).set).getD 0
  let used := if top.isSome then
      let old := ok.filter fun r => !newer (s.krow r).set g
      old.filter fun r => s.authRow old (s.krow r).lrow g == some r
    else []
  let rest := rows.filter fun r => !used.contains r
  let worn := rest.filter fun r => decide (s.wearLimit ≤ (s.krow r).wear)
  let free := rest.filter fun r => decide ((s.krow r).wear < s.wearLimit)
  let q := fun b => (free.filter fun r => r % 4 == b).foldl (fun l r => s.byWear r l) []
  let s := s.modKslice c fun _ => { hasSet := top.isSome, used := used, q0 := q 0, q1 := q 1, q2 := q 2, q3 := q 3 }
  let s := ((s.setF (KILN_SEAL_SET c) g).setF (KILN_FREE_FREE c) free.length).add KILN_RETIRED_COUNT worn.length
  s.setF (KILN_FREE_BUDGET c) (bn (decide (rows ≠ []) && free.isEmpty))

/-- The mount. -/
def State.kilnMount (s : State) : State :=
  let s := ({ s with kslices := [], kring := 15 }).setF KILN_RETIRED_COUNT 0
  let s := (List.range 16).foldl (fun s c => s.mountSlice c) s
  let s := s.setF KILN_WEAR_MAX_WEAR (s.krows.foldl (fun m p => max m p.2.wear) 0)
  (s.setF KILN_STAT_MOUNTED 1).setF (PAGE_EN .kiln 0) 1

/-- EN going from 0 to 1 (R302). -/
def State.kilnEnable (s : State) : State := if s.en .kiln 0 then s else s.kilnMount

/-- KILN_MOUNT (R302). -/
def execKilnMount (s : State) : Out := .next (if s.domOn dKILN then s.kilnEnable else s)

/-- EN = 0 (R314): row writes are complete; no new descriptor starts. -/
def State.kilnDisable (s : State) : State := (s.setF (PAGE_EN .kiln 0) 0).setF (PAGE_DRAINING .kiln 0) 0

/-- KILN_DISABLE (R314). -/
def execKilnDisable (s : State) : Out := .next (if s.domOn dKILN then s.kilnDisable else s)

/-! ## Rings (R295) -/

/-- Descriptors of cluster `c`'s ring: 16 to 1,024. -/
def State.ringN (s : State) (c : Nat) : Nat := 2 ^ (max 4 (min 10 (s.f (KILN_RING_CFG_LOG2N c))))

/-- Shared-memory offset of descriptor `i`. -/
def State.ringAt (s : State) (c i : Nat) : Nat := (s.f (KILN_RING_CFG_BASE c) * 16 + 16 * (i % s.ringN c)) % 0x400000

/-- Descriptors waiting in a ring. -/
def State.ringCount (s : State) (c : Nat) : Nat := (s.f (KILN_RING_PTR_TAIL c) + 65536 - s.f (KILN_RING_PTR_HEAD c)) % 65536

/-- A producer advances TAIL (R295). -/
def State.ringTail (s : State) (c v : Nat) : State := s.setF (KILN_RING_PTR_TAIL c) v

/-- KILN_RING_TAIL_WRITE (R295). -/
def execKilnRingTailWrite (c : BitVec 4) (v : BitVec 16) (s : State) : Out :=
  .next (if s.domOn dKILN then s.ringTail c.toNat v.toNat else s)

/-- A descriptor (R295). -/
structure KDesc where
  op : Nat
  lrow : Nat
  set : Nat
  addr : Nat

/-- A descriptor's 16 bytes as fields. -/
def KDesc.ofNat (v : Nat) : KDesc := { op := bits v 7 0, lrow := bits v 31 8, set := bits v 47 32, addr := bits v 111 64 }

/-- The descriptor at a ring's head. One that fails its parity has no OP, so that it completes with BAD_DESC (notes/assumptions/129.md). -/
def State.ringHead (s : State) (c : Nat) : State × KDesc :=
  match s.shmLoad c (s.ringAt c (s.f (KILN_RING_PTR_HEAD c))) 16 pMORTAR with
  | (s, some v) => (s, KDesc.ofNat v)
  | (s, none) => (s, KDesc.ofNat 0)

/-- STATUS codes (R295). -/
def ksOK : Nat := 0
def ksNOCOPY : Nat := 1
def ksCHECK : Nat := 2
def ksBUDGET : Nat := 3
def ksBAD : Nat := 4
def ksSOURCE : Nat := 5
def ksABANDONED : Nat := 6

/-- Write the head descriptor's STATUS and advance HEAD. -/
def State.ringDone (s : State) (c code : Nat) : State :=
  let s := s.shmStore c (s.ringAt c (s.f (KILN_RING_PTR_HEAD c)) + 6) 2 (0x8000 + code)
  let s := s.setF (KILN_RING_PTR_HEAD c) (s.f (KILN_RING_PTR_HEAD c) + 1)
  if code = ksBAD then s.raise .kiln 0 3 else s

/-- A ring the controller serves: enabled, not empty, its memory powered. -/
def State.ringReady (s : State) (c : Nat) : Bool :=
  s.b (KILN_RING_CFG_EN c) && s.ringCount c != 0 && s.domOn (dCLU c)

/-- The ring whose turn it is (R295): the first ready one after the ring served last. -/
def State.ringTurn (s : State) : Option Nat :=
  if s.domOn dKILN && s.actv .kiln 0 && s.b KILN_STAT_MOUNTED && !s.b FOOT_STAT_ACTIVE then
    ((List.range 16).map fun i => (s.kring + 1 + i) % 16).find? fun c => s.ringReady c
  else none

/-! ## Descriptors (R296, R299, R300) -/

/-- A row becomes free: it joins its bank's queue, or is retired once its WEAR has reached the limit (R299). -/
def State.freeRow (s : State) (c r : Nat) : State :=
  let s := s.modKslice c fun k => { k with used := k.used.filter (· != r) }
  if s.wearLimit ≤ (s.krow r).wear then (s.inc KILN_RETIRED_COUNT).raise .kiln 0 1
  else
    (s.modKslice c fun k => k.setQueue (r % 4) (k.queue (r % 4) ++ [r])).setF (KILN_FREE_FREE c) (s.f (KILN_FREE_FREE c) + 1)

/-- A WRITE or SEAL of another set abandons the open one (R296). -/
def State.openSet (s : State) (c set : Nat) : State :=
  match (s.kslice c).opened with
  | some g =>
    if g = set then s
    else
      (((s.kslice c).used.filter fun r => (s.krow r).set == g).foldl (fun s r => s.freeRow c r) s).modKslice c fun k => { k with opened := some set }
  | none => s.modKslice c fun k => { k with opened := some set }

/-- The bank queue that the next write takes (R299). -/
def KSlice.turn (k : KSlice) : Option Nat := ((List.range 4).map fun i => (k.next + i) % 4).find? fun b => !(k.queue b).isEmpty

/-- Place a copy of `data` beside the older ones (R296, R299); none: every queue is empty. -/
def State.placeRow (s : State) (c lrow set : Nat) (data : BitVec 512) : Option State :=
  let k := s.kslice c
  k.turn.bind fun b =>
    match k.queue b with
    | [] => none
    | r :: rest =>
      let wear := min 0xFFFFF ((s.krow r).wear + 1)
      let tag : BitVec 64 := BitVec.ofNat 64 (packBits [(wear, 20), (c, 4), (lrow, 18), (set, 16), (0, 6)])
      let s := { s with krows := Map.set {} s.krows r { data := data, tag := tag, crc := kCrc data tag } }
      let s := s.modKslice c fun k => { (k.setQueue b rest) with next := (b + 1) % 4, used := k.used ++ [r] }
      some (((s.setF (KILN_FREE_FREE c) (s.f (KILN_FREE_FREE c) - 1)).incRec KILN_WRITES 0x20).setF KILN_WEAR_MAX_WEAR
        (max (s.f KILN_WEAR_MAX_WEAR) wear))

/-- The checks a WRITE or SEAL must pass: its SET is newer than the sealed set (R295). -/
def State.setOk (s : State) (c set : Nat) : Bool := !(s.kslice c).hasSet || newer set (s.f (KILN_SEAL_SET c))

/-- The slice has the logical row: a WRITE names one from 1 on, a READ the seal row too (R301). -/
def State.lrowOk (s : State) (c first l : Nat) : Bool := decide (first ≤ l) && decide (l < 16 * s.f (KILN_SLICE_SIZE16 c))

/-- A WRITE or SEAL writes its row: the status code (R296, R300); none: its data waits for a held word. -/
def State.kilnPut (s : State) (c lrow set addr : Nat) : State × Option Nat :=
  let s := s.openSet c set
  if s.b (KILN_FREE_BUDGET c) then (s, some ksBUDGET)
  else
    match s.engRead iENGINE (addr / 64 * 64) 64 with
    | .done s .ok bs =>
      match s.placeRow c lrow set (lineOfBytes bs) with
      | some s => (s, some ksOK)
      | none => ((s.setF (KILN_FREE_BUDGET c) 1).raise .kiln 0 0, some ksBUDGET)
    | .done s .. => (s, some ksSOURCE)
    | .wait s => (s, none)

/-- SET becomes the sealed set; every copy that is authoritative no more becomes free (R296). -/
def State.kilnSealed (s : State) (c set : Nat) : State :=
  let used := (s.kslice c).used
  let gone := used.filter fun r => s.authRow used (s.krow r).lrow set != some r
  let s := gone.foldl (fun s r => s.freeRow c r) s
  (s.modKslice c fun k => { k with hasSet := true, opened := none }).setF (KILN_SEAL_SET c) set

/-- The authoritative copy of a logical row of slice `c` (R296). -/
def State.kilnCopy (s : State) (c lrow : Nat) : Option Nat :=
  if (s.kslice c).hasSet then s.authRow (s.kslice c).used lrow (s.f (KILN_SEAL_SET c)) else none

/-- A row is read and its CRC checked; a failed check is counted and raised (R295, R315). -/
def State.rowRead (s : State) (r : Nat) : State × Option (List Nat) :=
  let s := s.inc KILN_READS
  if (s.krow r).good then (s, some (lineBytes (s.krow r).data)) else ((s.inc KILN_RDFAIL).raise .kiln 0 2, none)

/-- A READ: the authoritative copy, its CRC checked, goes to ADDR (R296). -/
def State.kilnGet (s : State) (c lrow addr : Nat) : State × Option Nat :=
  match s.kilnCopy c lrow with
  | none => (s, some ksNOCOPY)
  | some r =>
    match s.rowRead r with
    | (s, none) => (s, some ksCHECK)
    | (s1, some bs) =>
      match s1.engWrite iENGINE (addr / 64 * 64) bs with
      | .done s .ok _ => (s, some ksOK)
      | .done s .. => (s, some ksSOURCE)
      | .wait _ => (s, none)

/-! ## Write-back by the cluster firmware (R297, R298) -/

/-- Staging bytes of a cluster: base offset and capacity in blocks (R313). -/
def State.staging (s : State) (c : Nat) : Nat × Nat :=
  (s.f (CLU_KILN_CFG_SBASE c) * 0x10000, max 1 (s.f (CLU_KILN_CFG_SSIZE c)) * 1024)

/-- Shared-memory offset of staging slot `i`. -/
def State.stageAt (s : State) (c i : Nat) : Nat := ((s.staging c).1 + 64 * i) % 0x400000

/-- Address of the plastic block at place `p` = tile · 1,024 + block (R288, R294). -/
def State.blockAt (s : State) (p : Nat) : Nat := synBase (p / 1024) + 8 * s.plBase (p / 1024) + 64 * (p % 1024)

/-- Global address of a local one of this chip (R20). -/
def State.mine (s : State) (a : Nat) : Nat := s.chipId * 2 ^ 38 + a

/-- Append a descriptor to the cluster's ring: its source or destination is at shared-memory offset `off`. -/
def State.ringPut (s : State) (c op lrow set off : Nat) : State :=
  let t := s.f (KILN_RING_PTR_TAIL c)
  let v := ofLE ([op] ++ bytesLE 3 lrow ++ bytesLE 2 set ++ [0, 0] ++ bytesLE 8 (s.mine (shmBase c + off)))
  (s.shmStore c (s.ringAt c t) 16 v).setF (KILN_RING_PTR_TAIL c) (t + 1)

/-- The control core of cluster `c` runs. -/
def State.cluRuns (s : State) (c : Nat) : Bool := s.coreState (3 + c) == cRUN

/-- The set being written is abandoned: its blocks are dirty again (R298). -/
def State.setAbandon (s : State) (c : Nat) (blocks : List Nat) : State :=
  (s.modCluster c fun x => { x with kset := none, cdirty := blocks ++ x.cdirty.filter fun r => !blocks.contains r }).add
    (CLU_KILN_STAT_ABANDONED c) 1

/-- Queue what the ring has room for of the set being written: its WRITEs, and its SEAL once every WRITE has ended OK (R297, R298). -/
def State.setPump : Nat → Nat → State → State
  | 0, _, s => s
  | n + 1, c, s =>
    match (s.cluster c).kset with
    | none => s
    | some k =>
      if s.ringN c ≤ s.ringCount c then s
      else
        match k.blocks[k.queued]? with
        | some l =>
          State.setPump n c
            ((s.ringPut c 1 l k.set (s.stageAt c k.queued)).modCluster c fun x => { x with kset := some { k with queued := k.queued + 1 } })
        | none =>
          if k.sealing || s.ringCount c != 0 then s
          else if k.failed then s.setAbandon c k.blocks
          else
            let i := s.stageAt c ((s.staging c).2 - 1)
            let s := s.shmStore c i 64 (ofLE (bytesLE 8 k.lift ++ bytesLE 32 (s.cluster c).kdigest.toNat))
            (s.ringPut c 3 0 k.set i).modCluster c fun x => { x with kset := some { k with sealing := true } }

/-- A descriptor of the cluster's set has completed (R298). -/
def State.setResult (s : State) (c op code : Nat) : State :=
  match (s.cluster c).kset with
  | none => s
  | some k =>
    if !s.cluRuns c then s
    else if k.sealing ∧ op = 3 then
      if code = ksOK then (s.modCluster c fun x => { x with kset := none, lifts := 0 }).add (CLU_KILN_STAT_SEALED c) 1
      else s.setAbandon c k.blocks
    else
      State.setPump 1025 c (if code ≠ ksOK ∧ op ≠ 2 then s.modCluster c fun x => { x with kset := some { k with failed := true } } else s)

/-- The controller completes the head descriptor of ring `c`; without a code its data waits, and the descriptor stays at the head. -/
def State.ringFinish (c op : Nat) (r : State × Option Nat) : State :=
  match r with
  | (s, none) => s
  | (s, some code) => (State.ringDone { s with kring := c } c code).setResult c op code

/-- KILN_WRITE (R296): the ring whose turn it is has a WRITE at its head. A reserved OP or a bad field completes with BAD_DESC. -/
def execKilnWrite (s : State) : Out :=
  .next (
    match s.ringTurn with
    | none => s
    | some c =>
      let (s1, d) := s.ringHead c
      if d.op = 2 ∨ d.op = 3 then s
      else if d.op ≠ 1 ∨ !s1.lrowOk c 1 d.lrow ∨ !s1.setOk c d.set then State.ringFinish c d.op (s1, some ksBAD)
      else State.ringFinish c 1 (s1.kilnPut c d.lrow d.set d.addr))

/-- KILN_READ (R296). -/
def execKilnRead (s : State) : Out :=
  .next (
    match s.ringTurn with
    | none => s
    | some c =>
      let (s1, d) := s.ringHead c
      if d.op ≠ 2 then s
      else if !s1.lrowOk c 0 d.lrow then State.ringFinish c 2 (s1, some ksBAD)
      else State.ringFinish c 2 (s1.kilnGet c d.lrow d.addr))

/-- KILN_SEAL (R296). -/
def execKilnSeal (s : State) : Out :=
  .next (
    match s.ringTurn with
    | none => s
    | some c =>
      let (s1, d) := s.ringHead c
      if d.op ≠ 3 then s
      else if !s1.setOk c d.set ∨ s1.f (KILN_SLICE_SIZE16 c) = 0 then State.ringFinish c 3 (s1, some ksBAD)
      else
        let r := s1.kilnPut c 0 d.set d.addr
        State.ringFinish c 3 (if r.2 = some ksOK then (r.1.kilnSealed c d.set, r.2) else r))

/-- The descriptors not yet started complete with ABANDONED (R305, R314). -/
def State.ringAbandon : Nat → Nat → State → State
  | 0, _, s => s
  | n + 1, c, s =>
    let (s, d) := s.ringHead c
    State.ringAbandon n c ((s.ringDone c ksABANDONED).setResult c d.op ksABANDONED)

def State.kilnAbandon (s : State) (count : Bool) : State :=
  (List.range 16).foldl (fun s c =>
    if s.ringReady c then
      let n := s.ringCount c
      let s := State.ringAbandon n c s
      if count then s.add (DISCARD_COUNT .kiln 0) n else s
    else s) s

/-- The oldest lift end from step `done` on that every tile of the cluster has left COMMIT of, or passed (R156, R298). -/
def State.liftDue (s : State) (c done : Nat) : Option Nat :=
  let ts := (clusterTiles c).filter fun t => s.tileUp t
  ((ts.filterMap fun t => (s.tile t).lastLift).filter fun l => decide (done ≤ l)).min?.bind fun l =>
    if ts.any fun t =>
        ((s.tile t).liftEnd && decide ((s.tile t).step.toNat ≤ l + 1)) || (s.en .tile t && decide ((s.tile t).step.toNat ≤ l)) then none
    else some l

/-- Tiles that have reached a lift end after step `l`. -/
def State.liftPast (s : State) (c l : Nat) : Bool :=
  (clusterTiles c).any fun t => s.tileUp t &&
    (((s.tile t).lastLift.any fun x => decide (l < x)) || ((s.tile t).liftEnd && decide (l + 1 < (s.tile t).step.toNat)))

/-- The rows of the firmware's map whose blocks the tiles' dirty maps name. -/
def State.dirtyRows (s : State) (c : Nat) : List Nat :=
  ((s.cluster c).kmap.filter fun p => s.tileUp (p.2 / 1024) && (s.tile (p.2 / 1024)).dirty.getLsbD (p.2 % 1024)).map Prod.fst

/-- Gather the dirty maps of the cluster's tiles, clearing them (R298). -/
def State.gatherDirty (s : State) (c : Nat) : State :=
  let l := s.dirtyRows c
  let s := (clusterTiles c).foldl (fun s t => if s.tileUp t then s.modTile t fun x => { x with dirty := 0 } else s) s
  s.modCluster c fun x =>
    { x with cdirty := x.cdirty ++ (l.filter fun r => !x.cdirty.contains r), lifts := x.lifts + 1, liftCount := x.liftCount + 1 }

/-- Copy dirty rows from their tiles into staging slots from `i` on: the rows copied. One whose read fails is left out, and stays dirty
(notes/assumptions/129.md); none: a read waits. -/
def State.stageRows (c : Nat) : List Nat → Nat → State → State × Option (List Nat)
  | [], _, s => (s, some [])
  | l :: ls, i, s =>
    match s.engRead (iCLU c) (s.mine (s.blockAt (Map.get 0 (s.cluster c).kmap l))) 64 (centreRouter c 0) with
    | .wait s => (s, none)
    | .done s .ok bs =>
      let (s, r) := State.stageRows c ls (i + 1) (s.shmStore c (s.stageAt c i) 64 (ofLE bs))
      (s, r.map (l :: ·))
    | .done s .. => State.stageRows c ls i s

/-- The write-back of the lift end at step `l` (R298). -/
def State.writeBack (s : State) (c l : Nat) : State :=
  let x := s.cluster c
  let all := x.cdirty ++ (s.dirtyRows c).filter fun r => !x.cdirty.contains r
  let done := fun (s : State) => (s.gatherDirty c).modCluster c fun x => { x with liftDone := l + 1 }
  if s.b (CLU_KILN_CFG_WB_EN c) && decide (max 1 (s.f (CLU_KILN_CFG_K c)) ≤ x.lifts + 1) && x.kset.isNone &&
      !s.b (KILN_FREE_BUDGET c) then
    match State.stageRows c (all.take ((s.staging c).2 - 1)) 0 s with
    | (s, none) => s
    | (s, some bl) =>
      let s := done s
      if s.liftPast c l then s.add (CLU_KILN_STAT_ABANDONED c) 1
      else
        State.setPump 1025 c (s.modCluster c fun x =>
          { x with cdirty := x.cdirty.filter fun r => !bl.contains r,
                   kset := some { set := (s.f (KILN_SEAL_SET c) + 1) % 65536, lift := x.liftCount, blocks := bl } })
  else done s

/-- LIFT_END_WRITEBACK (R298). -/
def execLiftEndWriteback (c : BitVec 4) (s : State) : Out :=
  .next (
    if !s.cluRuns c.toNat || !s.domOn (dCLU c.toNat) then s
    else
      match s.liftDue c.toNat (s.cluster c.toNat).liftDone with
      | none => s
      | some l => s.writeBack c.toNat l)

/-! ## Promotion by the cluster firmware (R150–R156) -/

/-- Firmware's write of a descriptor's COLD and ADDR fields in the word it has read (R154, R156). -/
def State.setDesc (s : State) (t e w : Nat) (cold : Bool) (addr : Nat) : State :=
  s.setSynW t e (putBits (putBits w 58 58 (bn cold)) 22 0 addr)

/-- The control core reads a synapse word; none: the read does not answer OK, or waits. -/
def State.coreWord (s : State) (c t w : Nat) : State × Option Nat :=
  match s.engRead (iCLU c) (s.mine (synBase t + 8 * w)) 8 (centreRouter c 0) with
  | .done s .ok bs => (s, some (ofLE bs))
  | .done s .. => (s, none)
  | .wait s => (s, none)

/-- Hit counter of slot `k` of a tile's pool (R153). -/
def State.slotHits (s : State) (t k : Nat) : Nat := s.f (TILE_PROMO_HIT t (k / 4)) / 2 ^ (8 * (k % 4)) % 256

/-- A slot freed at step `s0` may be written again: TILE_STEP has shown a later S with PHASE = OPEN (R155). -/
def State.slotPast (s : State) (t s0 : Nat) : Bool :=
  decide ((s.tile t).step.toNat ≠ s0) && (s.phase t == 0 || decide (s0 + 1 < (s.tile t).step.toNat))

/-- Demote the quiet rows of a tile; slots freed at an earlier lift end become free under R155 (R155, R156). -/
def State.demote (s : State) (c t : Nat) : State :=
  let h := (List.range 16).map fun k => s.slotHits t k
  let s := (List.range 4).foldl (fun s k => s.setF (TILE_PROMO_HIT t k) 0) s
  (List.range 16).foldl (fun s k =>
    match (s.cluster c).promo.find? fun p => p.1 == t * 16 + k with
    | none => s
    | some (_, r) =>
      match r.freed with
      | some s0 =>
        if s.slotPast t s0 then s.modCluster c fun x => { x with promo := x.promo.filter fun p => p.1 != t * 16 + k } else s
      | none =>
        if h.getD k 0 ≤ s.f (CLU_PROMO_CFG_DEMOTE_MAX c) then
          match s.coreWord c t r.entry with
          | (s, none) => s
          | (s, some w) =>
            let s := s.setDesc t r.entry w true r.cold
            (s.modCluster c fun x => { x with promo := x.promo.map fun p =>
              if p.1 = t * 16 + k then (p.1, { r with freed := some (s.tile t).step.toNat }) else p }).add (CLU_PROMO_STAT_DEMOTED c) 1
        else s) s

/-- Local external address of a cold row of a cluster (R144). -/
def State.coldLocal (s : State) (c cold : Nat) : Nat := s.f (CLU_COLD_BASE_BASE c) * 128 + cold * 128

/-- Promote one candidate: hit-table entry `h` for the descriptor at place `p` = tile · 32,768 + entry. Which free slot it takes is a
DESIGN CHOICE: the lowest (notes/assumptions/132.md). -/
def State.promote (s : State) (c h p : Nat) : State :=
  let t := p / 32768
  let e := p % 32768
  if !s.b (TILE_PROMO_CFG_EN t) then s
  else
    match s.coreWord c t e, (List.range 16).find? fun k => !((s.cluster c).promo.any fun q => q.1 == t * 16 + k) with
    | (s, some dw), some k =>
      let d := Desc.ofWord dw
      if !d.cold || s.slotSize t < d.len || 32768 < s.poolBase t + (k + 1) * s.slotSize t then s
      else
        let u := ceilDiv d.len 16
        match s.engRead (iCLU c) (s.mine (s.coldLocal c d.addr)) (u * 128) (centreRouter c 0) with
        | .done s .ok bs =>
          let w := s.poolBase t + k * s.slotSize t
          let s := (List.range (16 * u)).foldl (fun s i => s.setSynW t (w + i) (ofLE (slice bs (8 * i) 8))) s
          let s := (s.setDesc t e dw false w).shmStore c (s.hitOff c h) 2 0
          (s.modCluster c fun x => { x with promo := x.promo ++ [(t * 16 + k, { entry := e, cold := d.addr, hit := h })] }).add
            (CLU_PROMO_STAT_PROMOTED c) 1
        | .done s .. => s
        | .wait s => s
    | (s, _), _ => s

/-- Insert a candidate behind those of no smaller count: of equal counts the one earlier in the directory goes first, a DESIGN CHOICE
(notes/assumptions/132.md). -/
def byCount (x : Nat × Nat × Nat) : List (Nat × Nat × Nat) → List (Nat × Nat × Nat)
  | [] => [x]
  | y :: t => if y.1 < x.1 then x :: y :: t else y :: byCount x t

/-- A row's count in the hit table, as the control core reads it; one that fails its parity is no candidate. -/
def State.hitCounts (c : Nat) : List (Nat × Nat) → State → State × List (Nat × Nat × Nat)
  | [], s => (s, [])
  | (h, p) :: r, s =>
    let (s, v) := s.shmLoad c (s.hitOff c h) 2 pCORE
    let (s, l) := State.hitCounts c r s
    (s, match v with | some n => (n, h, p) :: l | none => l)

/-- The promotion of a lift end (R156). -/
def State.promotion (s : State) (c : Nat) : State :=
  let s := ((clusterTiles c).filter fun t => s.tileUp t && s.b (TILE_PROMO_CFG_EN t)).foldl (fun s t => s.demote c t) s
  let (s, l) := State.hitCounts c (s.cluster c).cdir s
  let cand := (l.filter fun x => decide (s.f (CLU_PROMO_CFG_PROMOTE_MIN c) ≤ x.1)).foldl (fun l x => byCount x l) []
  (cand.foldl (fun s x => s.promote c x.2.1 x.2.2) s).coldAge c

/-- LIFT_END_PROMOTION (R156). -/
def execLiftEndPromotion (c : BitVec 4) (s : State) : Out :=
  .next (
    if !s.cluRuns c.toNat || !s.domOn (dCLU c.toNat) then s
    else
      match s.liftDue c.toNat (s.cluster c.toNat).promoDone with
      | none => s
      | some l =>
        (if s.b (CLU_PROMO_CFG_EN c.toNat) then s.promotion c.toNat else s).modCluster c.toNat fun x => { x with promoDone := l + 1 })

/-! ## Correction of held words by the cluster firmware (R304, R384) -/

/-- The kiln controller serves descriptors. -/
def State.kilnServes (s : State) : Bool := s.domOn dKILN && s.actv .kiln 0 && s.b KILN_STAT_MOUNTED && !s.b FOOT_STAT_ACTIVE

/-- The deltas of block `v` of a tile's plastic area are cleared. -/
def State.clearDeltas (s : State) (t v : Nat) : State :=
  (List.range 8).foldl (fun s i => (List.range (s.plW t)).foldl (fun s j => s.setDelta t (s.deltaAt t (8 * v + i) j) 0) s) s

/-- The held plastic word's block takes its authoritative kiln copy, and its deltas are cleared (R304). True: it has. -/
def State.plasticCopy (s : State) (t w : Nat) : State × Bool :=
  let c := clusterOf t
  let v := (w - s.plBase t) / 8
  match (s.cluster c).kmap.find? fun p => p.2 == t * 1024 + v with
  | some (l, p) =>
    if s.kilnServes then
      match s.kilnGet c l (s.mine (s.blockAt p)) with
      | (s, some 0) => (s.clearDeltas t v, true)
      | (s, _) => (s, false)
    else (s, false)
  | none => (s, false)

/-- The held pool word's slot takes its row's cold copy (R384). True: it has. -/
def State.poolCopy (s : State) (t w : Nat) : State × Bool :=
  let c := clusterOf t
  let k := (w - s.poolBase t) / s.slotSize t
  match (s.cluster c).promo.find? fun p => p.1 == t * 16 + k with
  | some (_, r) =>
    let o := (w - s.poolBase t) % s.slotSize t
    match s.engRead (iCLU c) (s.mine (s.coldLocal c r.cold + 8 * o)) 8 (centreRouter c 0) with
    | .done s .ok bs => (s.setSynW t w (ofLE bs), true)
    | .done s .. => (s, false)
    | .wait s => (s, false)
  | none => (s, false)

/-- The cluster firmware corrects the word its tile holds for it and writes PEND.DONE, or PEND.FAIL where it has no copy (R304, R384). -/
def State.firmwareFix (s : State) (t : Nat) : State :=
  match s.holdOf t true with
  | none => s
  | some h =>
    if s.badMask t h.mem h.word = 0 || !s.cluRuns (clusterOf t) then s.pendDone t
    else
      let (s, ok) := if s.inPlastic t h.word then s.plasticCopy t h.word else s.poolCopy t h.word
      if ok then s.pendDone t else s.pendFail t

/-- PAR_PEND_DONE (R384). -/
def execParPendDone (t : BitVec 10) (s : State) : Out := .next (if s.tileUp t.toNat then s.firmwareFix t.toNat else s)

end Sys2Proof.Machine
end

