-- ==== Sys2Proof/Machine/Ties.lean ====
section
/-! DEFINITION. Tie ports: training, enumeration, arriving frames, the spanning tree (spec/09_ties_and_multichip.md R317–R319,
R327–R341, R343). -/

namespace Sys2Proof.Machine
open Sys2Proof

/-! ## Position (R327, R339) -/

/-- Chip ID of the neighbour through port `p` of chip `c` on a torus of `w` × `h` chips (R327). -/
def neighbour (w h c p : Nat) : Nat :=
  let x := c % 32
  let y := c / 32
  match p with
  | 0 => (y + h - 1) % h * 32 + x
  | 1 => (y + 1) % h * 32 + x
  | 2 => y * 32 + (x + w - 1) % w
  | _ => y * 32 + (x + 1) % w

/-- Parent port of chip `c` (R339): 7 at the manager's position. -/
def treeParentPort (w h c : Nat) : Nat :=
  let x := c % 32
  let y := c / 32
  if y ≠ 0 then if y ≤ h - y then 0 else 1
  else if x ≠ 0 then if x ≤ w - x then 2 else 3
  else 7

/-- Child ports of chip `c` as a mask (R339). -/
def treeChildPorts (w h c : Nat) : Nat :=
  ((List.range 4).filter fun p => neighbour w h c p ≠ c ∧ treeParentPort w h (neighbour w h c p) = tieOpp p).foldl (fun a p => a + 2 ^ p) 0

/-- Depth of chip `c` (R339). -/
def treeDepth (w h c : Nat) : Nat := min (c / 32) (h - c / 32) + min (c % 32) (w - c % 32)

/-- The chip computes its place in the spanning tree (R339). -/
def State.computeTree (s : State) : State :=
  let w := s.torusW
  let h := s.torusH
  let c := s.chipId
  ((s.setF (TIE_TREE_PARENT 0) (treeParentPort w h c)).setF (TIE_TREE_CHILD 0) (treeChildPorts w h c)).setF (TIE_ENUM_DEPTH 0)
    (treeDepth w h c)

/-! ## Enumeration (R335, R336) -/

/-- A link-local enumeration packet (R335). -/
def enumPacket (eop origin pos sender wm1 hm1 : Nat) : Packet :=
  .mgmt 2 (BitVec.ofNat 10 (if eop = 0 then pos else 0)) (BitVec.ofNat 10 (if eop = 0 then sender else 0)) 0
    [flit [(eop, 4), (origin, 10), (pos, 10), (sender, 10), (wm1, 5), (hm1, 5), (0, 20)]]

/-- Send a link-local packet. -/
def State.enumSend (s : State) (p : Nat) (pk : Packet) : State :=
  if s.tieUp p then (s.modTie p fun x => { x with linkq := x.linkq ++ [pk] }).tiePump p else s

/-- Send ASSIGN for the chip through port `p` (R336). -/
def State.sendAssign (s : State) (p : Nat) : State :=
  s.enumSend p (enumPacket 0 0 (neighbour s.torusW s.torusH s.chipId p) s.chipId (s.torusW - 1) (s.torusH - 1))

/-- Send a token on a port (R318, R343): a port in DOWN moves to LISTEN first. -/
def State.sendToken (s : State) (p : Nat) : State :=
  let s := if s.f (TIE_STAT_STATE p) = 5 then s.setF (TIE_STAT_STATE p) 1 else s
  if s.f (TIE_STAT_STATE p) = 1 then s.modTie p fun x => { x with token := true } else s

/-- TIE_TOKEN (R343). -/
def execTieToken (p : BitVec 2) (s : State) : Out :=
  .next (if s.domOn dTIE && s.actv .tie p.toNat then s.sendToken p.toNat else s)

/-- TIE_TOKEN_DETECT (R318): a token on lane 0 of a port that listens. A worker wakes, powers its ties and trains; a manager trains
only where it has sent a token itself. The answer of a worker is its own token. -/
def execTieTokenDetect (p : BitVec 2) (s : State) : Out :=
  .next (
    let p := p.toNat
    if s.f (TIE_STAT_STATE p) ≠ 1 then s
    else if s.isManager then
      if (s.tieAt p).token then (s.modTie p fun x => { x with got := true }).setF (TIE_STAT_STATE p) 2 else s
    else
      let s := (s.wake 6 p).modTie p fun x => { x with token := true, got := true }
      if s.domOn dTIE then s.setF (TIE_STAT_STATE p) 2 else s)

/-- Lanes of a width code. -/
def widthLanes (w : Nat) : Nat := match w with | 1 => 1 | 2 => 3 | _ => 15

/-- START of every tie is what the boot record holds for it (R319, R344). -/
def State.tieStarts (s : State) : State :=
  if s.domOn dTIE then
    [0, 1, 2, 3].foldl (fun s p => s.setF (TIE_STAT_START p) (bits (s.recWord 22) (2 * p + 1) (2 * p))) s
  else s

/-- A training result goes into the boot record, and the port's next start begins there (R319). -/
def State.tieResult (s : State) (p width : Nat) : State :=
  (s.recPut 22 (2 * p + 1) (2 * p) width).setF (TIE_STAT_START p) width

/-- TIE_TRAIN_ATTEMPT (R319): an attempt at the present width, which begins at the narrower of both ends' start widths (`w`: the
partner's). It passes with every lane locked, deskewed and free of errors; it fails to the next narrower width, and at x1 the port goes
DOWN. Every result goes into the boot record. -/
def State.trainAttempt (s : State) (p w : Nat) (pass : Bool) (lock err : Nat) : State :=
  let st := s.f (TIE_STAT_STATE p)
  if !(st = 2 ∨ (st = 1 ∧ (s.tieAt p).got ∧ (!s.isManager ∨ (s.tieAt p).token))) then s
  else
    let code := fun n => if n = 0 then 3 else n
    let width := if (s.tieAt p).width = 0 then min (code (s.f (TIE_STAT_START p))) (code w) else (s.tieAt p).width
    let s := (((s.setF (TIE_STAT_STATE p) 2).setF (TIE_LANES_LOCK p) lock).setF (TIE_LANES_ERRSEEN p) err).inc (TIE_LANES_ATTEMPTS p)
    if pass && lock &&& widthLanes width == widthLanes width && err &&& widthLanes width == 0 then
      let s := ((s.setF (TIE_STAT_STATE p) 3).setF (TIE_STAT_WIDTH p) width).modTie p fun x => { x with width := 0, token := false, got := false }
      let s := (s.tieResult p width).recSample 0x1F width p
      if width < 3 then s.raise .tie p 2 else s
    else if width = 1 then (s.tieResult p 0).tieDown p 1
    else s.modTie p fun x => { x with width := width - 1 }

def execTieTrainAttempt (p w : BitVec 2) (pass : Bool) (lock err : BitVec 4) (s : State) : Out :=
  .next (if s.domOn dTIE then s.trainAttempt p.toNat w.toNat pass lock.toNat err.toNat else s)

/-- A trained port goes UP (R322, R336): frames are numbered from 0, and an assigned end sends ASSIGN. -/
def State.tieGoesUp (s : State) (p : Nat) : State :=
  if s.f (TIE_STAT_STATE p) ≠ 3 then s
  else
    let s := (s.setF (TIE_STAT_STATE p) 4).raise .tie p 1
    let s := s.modTie p fun x =>
      { x with retry := [], txSeq := 0, rxSeq := 0, since := 0, nak := false, skip := false, sent := [], credit := [], freed := [] }
    let s := s.orphanSync
    let s := if s.b SYS_CHIP_ID_ASSIGNED then s.sendAssign p else s
    s.linkState p

/-- TIE_UP (R336). -/
def execTieUp (p : BitVec 2) (s : State) : Out := .next (if s.domOn dTIE then s.tieGoesUp p.toNat else s)

/-- This end sends CONFLICT, and the port goes DOWN once it has left (R336). -/
def State.conflict (s : State) (p : Nat) : State :=
  if (s.tieAt p).ending then s
  else (s.modTie p fun x => { x with ending := true }).enumSend p (enumPacket 2 0 0 s.chipId (s.torusW - 1) (s.torusH - 1))

/-- ASSIGN arrives (R336). -/
def State.assign (s : State) (p pos sender wm1 hm1 : Nat) : State :=
  if !s.tieUp p then s
  else
    let s := s.setF (TIE_STAT_NBR p) sender
    if s.isManager then s.conflict p
    else if s.b SYS_CHIP_ID_ASSIGNED then if pos = s.chipId then s else s.conflict p
    else
      let s := (s.setF SYS_CHIP_ID_CHIP_ID pos).setF SYS_CHIP_ID_ASSIGNED 1
      let s := { s with torusW := wm1 + 1, torusH := hm1 + 1 }
      let s := (((s.setF (TIE_TORUS_WM1 0) wm1).setF (TIE_TORUS_HM1 0) hm1).setF (TIE_TORUS_SET 0) 1).setF (TIE_STAT_UPSTREAM p) 1
      let s := s.computeTree.orphanSync.enumSend p (enumPacket 1 pos 0 pos wm1 hm1)
      ([0, 1, 2, 3].filter fun q => q ≠ p ∧ s.f (TIE_STAT_STATE q) = 1).foldl (fun s q => s.sendToken q) s

/-- ASSIGN (R336). -/
def execAssign (p : BitVec 2) (pos sender : BitVec 10) (wm1 hm1 : BitVec 5) (s : State) : Out :=
  .next (s.assign p.toNat pos.toNat sender.toNat wm1.toNat hm1.toNat)

/-- ACCEPT arrives (R336): the manager counts it; a worker passes it on towards the manager. The partner is the neighbour by R327, or the
SENDER of the packet. -/
def State.accept (s : State) (p origin sender : Nat) : State :=
  if !s.tieUp p then s
  else
  let s := s.setF (TIE_STAT_NBR p) sender
  if s.isManager then s.add (TIE_ENUM_CHIPS 0) 1
  else
    let up := (List.range 4).find? fun q => s.b (TIE_STAT_UPSTREAM q)
    let q := match s.parentTie with
      | some q => if s.tieUp q then some q else up
      | none => up
    match q with
    | some q => s.enumSend q (enumPacket 1 origin 0 s.chipId (s.torusW - 1) (s.torusH - 1))
    | none => s

/-- ACCEPT (R336). -/
def execAccept (p : BitVec 2) (origin : BitVec 10) (s : State) : Out :=
  .next (s.accept p.toNat origin.toNat (neighbour s.torusW s.torusH s.chipId p.toNat))

/-- CONFLICT arrives (R336): this end sends it too, and goes DOWN. -/
def State.conflictIn (s : State) (p : Nat) : State := if s.tieUp p then s.conflict p else s

def execConflict (p : BitVec 2) (s : State) : Out := .next (s.conflictIn p.toNat)

/-- A link-local packet arrives. -/
def State.enumTake (s : State) (p : Nat) (w : Nat) : State :=
  match bits w 63 60 with
  | 0 => s.assign p (bits w 49 40) (bits w 39 30) (bits w 29 25) (bits w 24 20)
  | 1 => s.accept p (bits w 59 50) (bits w 39 30)
  | 2 => (s.setF (TIE_STAT_NBR p) (bits w 39 30)).conflictIn p
  | _ => s

/-! ## Arriving packets (R332, R333) -/

/-- Key of a reply (R332). -/
def rspKey : Packet → Option (Nat × Bool × Nat)
  | .readRsp h _ => some (h.dtile.toNat, h.dgw, h.tag.toNat)
  | .writeAck h => some (h.dtile.toNat, h.dgw, h.tag.toNat)
  | _ => none

/-- A reply for this chip frees the entry of the outstanding tables that it matches (R332); none: it matches none. -/
def State.freeOut (s : State) (pk : Packet) : Option State :=
  match rspKey pk with
  | none => none
  | some k =>
    ((List.range 4).findSome? fun q => ((s.tieAt q).out.find? fun o => rspKey o == some k).map fun o => (q, o)).map fun x =>
      s.modTie x.1 fun t => { t with out := t.out.erase x.2 }

/-- The packet answers one of this chip's requests. -/
def State.replyHere (s : State) (pk : Packet) : Bool := (rspKey pk).isSome && pk.dchip? == some s.chipId

/-- A request that enters this chip over a tie is checked again as REMOTE; one that is refused or names no place is answered here
(R23, R453, R454). What goes on into the mortar. -/
def State.arrivalCheck (s : State) (pk : Packet) : State × Packet :=
  let go := fun (h : ReqHead) (write : Bool) =>
    if h.dchip.toNat ≠ s.chipId then (s, pk)
    else
      let rsp := fun st => if write then Packet.writeAck (rspOf h st) else Packet.readRsp (rspOf h st) []
      if s.place h.addr.toNat = .unmapped then (s, rsp .unmapped)
      else if !s.fwAllows iREMOTE h.addr.toNat write then (s.fwRefuse iREMOTE h.addr.toNat write, rsp .denied)
      else (s, pk)
  match pk with
  | .readReq h => go h false
  | .writeReq h _ => go h true
  | _ => (s, pk)

/-- A packet from a tie enters the mortar at the tie's gateway (R249, R265, R333). None: it waits. -/
def State.tieEnter (s : State) (p : Nat) (dvc : Bool) (pk : Packet) : Option State :=
  let arr := some (p, dvc)
  if s.b MTR_INJ_HOLD_TIES && drainClass pk.cls then none
  else if !s.routerOn (tieRouter p) then none
  else
    let (s, pk) := s.arrivalCheck pk
    let ok := match pk.dchip? with
      | some d => d == s.chipId || (let r := s.tieRoute d arr; !s.tieUp r.tie || s.egressRoom r.tie r.dvc pk)
      | none => true
    if ok then (s.enter (tieRouter p) .gw pk (s.laneFor pk arr) arr false).map fun s' => s'.crcGateway (tieRouter p) false pk else none

/-- Move ingress packets into the mortar, oldest first in each buffer; `held` lists the buffers whose oldest packet waits. -/
def State.tieMoveIn (p : Nat) : List (Bool × Packet) → List Nat → State → State
  | [], _, s => s
  | e :: r, held, s =>
    let b := bufOf e.1 e.2
    if held.contains b then State.tieMoveIn p r held s
    else
      match s.tieEnter p e.1 e.2 with
      | some s' => State.tieMoveIn p r held ((s'.modTie p fun x => { x with ingress := x.ingress.erase e }).tieFree p b e.2.flits.length)
      | none => State.tieMoveIn p r (b :: held) s

/-- Packets of port `p` that can move, move. -/
def State.tieMove (s : State) (p : Nat) : State := (State.tieMoveIn p (s.tieAt p).ingress [] s).tiePump p

/-- One packet of a DATA frame (R321, R332, R336). -/
def State.tieTake (s : State) (p : Nat) (dvc : Bool) (pk : Packet) : State :=
  let free := fun (s : State) => s.tieFree p (bufOf dvc pk) pk.flits.length
  match pk with
  | .mgmt 2 _ _ _ d => (free s).enumTake p (d.headD 0).toNat
  | _ =>
    if s.replyHere pk then
      match s.freeOut pk with
      | some s' => s'.modTie p fun x => { x with ingress := x.ingress ++ [(dvc, pk)] }
      | none => (free s).inc (TIE_LATE_RSP p)
    else s.modTie p fun x => { x with ingress := x.ingress ++ [(dvc, pk)] }

/-- TIE_DATA_FRAME (R320–R324); an accepted frame is a message of the CRC units with its SEQ as its number (R365, R369). -/
def execTieDataFrame (p : BitVec 2) (hdr crc : BitVec 32) (data : List (BitVec 64)) (s : State) : Out :=
  .next (
    let p := p.toNat
    if !s.tieUp p then s
    else
      let seq := (s.tieAt p).rxSeq
      let (s, ok) := s.frameIn p 1 hdr.toNat crc.toNat data
      if !ok then s
      else
        let s := (s.crcSource (0x20 + p) seq (data.flatMap fun d => bytesLE 8 d.toNat)).1
        let (ps, cut) := Packet.split 8 data
        let s := if cut then s.inc (TIE_CRC_ERR p) else s
        (ps.foldl (fun s pk => s.tieTake p (bitAt hdr.toNat 24) pk) s).tieMove p)

/-- A step-protocol packet from a tie (R340). -/
def State.treeTake (s : State) (p : Nat) (pk : Packet) : State :=
  let down := s.parentTie = some p
  match pk with
  | .start v => if down then s.workerStart v else s
  | .seal st => if down then s.workerSeal st else s
  | .close st sh ex => if down then s.workerClose st sh ex else s
  | .poll st r => if down then s.pollArrives sysRouter st r else s
  | .count st r m ne np i c =>
    let s := s.missingCount m
    if (s.tieAt p).childDue then
      let b := s.countBuf (tieRouter p)
      if b.valid && b.step == st && b.round == r then
        (s.modTie p fun x => { x with childDue := false }).countInto (tieRouter p) st r m ne.toNat np.toNat i c
      else s
    else s
  | _ => s

/-- TIE_TREE_FRAME (R320, R340). -/
def execTieTreeFrame (p : BitVec 2) (hdr crc : BitVec 32) (data : List (BitVec 64)) (s : State) : Out :=
  .next (
    let p := p.toNat
    if !s.tieUp p then s
    else
      let (s, ok) := s.frameIn p 2 hdr.toNat crc.toNat data
      if ok then ((s.tieFree p 10 data.length).treeTake p (Packet.ofFlits data)).tieMove p else s)

/-- TIE_REPLY_MATCH (R332): a reply for this chip arrives from tie `p`. -/
def execTieReplyMatch (p : BitVec 2) (pkt : Packet) (s : State) : Out :=
  .next (
    let p := p.toNat
    if !s.domOn dTIE || !s.replyHere pkt then s
    else
      match s.freeOut pkt with
      | some s' => (s'.tieEnter p false pkt).getD s
      | none => s.inc (TIE_LATE_RSP p))

/-! ## Leaving through a tie, disabling (R331, R333, R343) -/

/-- A packet of the mortar reaches the gateway of its egress tie (R326, R331, R333, R343). None: it waits. -/
def State.tieEgress (s : State) (p : Nat) (arr : Option (Nat × Bool)) (pk : Packet) : Option State :=
  if !s.tieUp p then s.unroutable p pk
  else if s.draining .tie p then none
  else
    let dvc := (s.tieRoute (pk.dchip?.getD 0) arr).dvc
    if (if arr.isSome then s.egressFits p dvc pk else s.egressRoom p dvc pk) then some ((s.modTie p fun x => { x with egress := x.egress ++ [(dvc, pk)] }).tiePump p) else none

/-- Nothing is left to send and every frame is acknowledged (R343, R344). -/
def State.tieIdle (s : State) (p : Nat) : Bool :=
  (s.tieAt p).egress.isEmpty && (s.tieAt p).retry.isEmpty && (s.tieAt p).linkq.isEmpty && (s.tieAt p).relay.isEmpty &&
    (s.tieAt p).tree.isEmpty

/-- DRAINED (R344): no EV or CL packet in the egress buffers, every frame acknowledged. -/
def State.tieDrained (s : State) (p : Nat) : Bool :=
  !((s.tieAt p).egress.any fun e => drainClass e.2.cls) && (s.tieAt p).retry.isEmpty

/-- The drain of a port ends: DOWN with cause DISABLED (R343). -/
def State.tieOff (s : State) (p : Nat) : State := ((s.setF (PAGE_EN .tie p) 0).setF (PAGE_DRAINING .tie p) 0).tieDown p 5

/-- EN = 0 (R343). -/
def State.tieDisable (s : State) (p : Nat) : State :=
  if !s.en .tie p then s
  else if s.tieUp p && !s.tieIdle p then s.setF (PAGE_DRAINING .tie p) 1
  else s.tieOff p

/-- TIE_DISABLE (R343). -/
def execTieDisable (p : BitVec 2) (s : State) : Out := .next (if s.domOn dTIE then s.tieDisable p.toNat else s)

/-- FORCE or the expiry of DRAIN_TIMEOUT (R343): what remains is unroutable and counted. -/
def State.tieForce (s : State) (p : Nat) : State :=
  let n := (s.tieAt p).egress.length + ((s.tieAt p).retry.filter fun f => !f.tree).length
  (s.add (DISCARD_COUNT .tie p) n).tieOff p

end Sys2Proof.Machine
end

