-- ==== Sys2Proof/Machine/Power.lean ====
section
/-! DEFINITION. Power domains, votes, performance levels, the governor, the thermal monitor and clocks
(spec/16_power_clocks_timers.md R511–R527, R535, R536; spec/07_mortar_fabric.md R269; spec/15_start_recovery_footing.md R477). -/

namespace Sys2Proof.Machine
open Sys2Proof

/-! ## Votes and holders (R512, R513, R517) -/

/-- PWR_VSETd: client bits are set unless votes are frozen. -/
def State.vset (s : State) (d v : Nat) : State := if s.frozen || decide (30 ≤ d) then s else s.vote d (v % 65536)

/-- PWR_VCLRd. -/
def State.vclr (s : State) (d v : Nat) : State := if s.frozen || decide (30 ≤ d) then s else s.unvote d v

def execPwrVset (d : BitVec 5) (v : BitVec 16) (s : State) : Out := .next (s.vset d.toNat v.toNat)
def execPwrVclr (d : BitVec 5) (v : BitVec 16) (s : State) : Out := .next (s.vclr d.toNat v.toNat)

/-- A page with EN = 1 or DRAINING = 1. -/
def State.busyPage (s : State) (b : Block) (i : Nat) : Bool := s.en b i || s.draining b i

/-- An awake cluster of a wythe (R34). -/
def State.wytheAwake (s : State) (east : Bool) : Bool := (List.range 16).any fun c => clusterEast c == east && s.domOn (dCLU c)

/-- A firmware core runs or restarts. -/
def State.coreLive (s : State) : Bool := (List.range 19).any fun k => s.coreState k == cRUN || s.coreState k == cRESTARTING

/-- A gateway block of the wythe with EN = 1 (R18, R269). -/
def State.gatewayOn (s : State) (east : Bool) : Bool :=
  let csi := fun (l : List Nat) => s.domOn dCSI && (l.any (fun k => s.en .csi k) || s.en .aer 0)
  let mem := fun (l : List Nat) => l.any fun n => s.domOn (memDom n) && s.en .mem n
  let tie := fun (p : Nat) => s.domOn dTIE && s.en .tie p
  if east then csi [2, 3] || mem (wytheChans true) || (List.range 4).any fun p => isEast (tieRouter p) && tie p
  else
    csi [0, 1] || mem (wytheChans false) || (s.domOn dHOST && s.en .host 0) ||
      (s.domOn dT1S && (List.range 4).any fun p => s.en .t1s p) || (List.range 4).any fun p => !isEast (tieRouter p) && tie p

/-- The power firmware's vote for a wythe's mortar: an awake cluster of the other wythe has its MTR_XROUTE bit set (R269). -/
def State.xrouteHeld (s : State) (east : Bool) : Bool :=
  (List.range 16).any fun c => clusterEast c != east && s.domOn (dCLU c) && bitAt (s.f MTR_XROUTE_CLUSTER) c

/-- An implicit holder of a domain exists (R512). -/
def State.implicit (s : State) (d : Nat) : Bool :=
  if d = dAON then true
  else if d = dSEC then s.coreState 0 != cOFF
  else if d = dFW then s.coreState 2 != cOFF
  else if d = dPLL then (List.range 30).any fun e => e != dAON && e != dPLL && s.domOn e
  else if d = dMTW then s.wytheAwake false || s.gatewayOn false || s.xrouteHeld false || s.bound || s.coreLive
  else if d = dMTE then s.wytheAwake true || s.gatewayOn true || s.xrouteHeld true
  else if d = dMEMW ∨ d = dMEME then
    (s.domOn d && (wytheChans (d == dMEME)).any fun n => s.busyPage .mem n) ||
      (List.range 16).any fun c => s.domOn (dCLU c) && s.en .clu c
  else if d = dHOST then s.domOn d && s.busyPage .host 0
  else if d = dCSI then s.domOn d && ((List.range 4).any (fun k => s.busyPage .csi k) || s.busyPage .aer 0)
  else if d = dT1S then s.domOn d && ((List.range 4).any (fun p => s.busyPage .t1s p) || s.busyPage .gpio 0)
  else if d = dTIE then s.domOn d && (List.range 4).any fun p => s.busyPage .tie p
  else if d = dKILN then s.domOn d && s.busyPage .kiln 0
  else if d = dREC then s.domOn d && s.busyPage .recd 0
  else
    let c := d - 14
    s.domOn d && ((clusterTiles c).any (fun t => s.busyPage .tile t) || s.busyPage .clu c) && decide (d < 30)

/-- The domain is held (R512). -/
def State.heldDom (s : State) (d : Nat) : Bool := s.f (PWR_VOTE_CLIENTS d) != 0 || s.implicit d

/-! ## Losing a domain (R206, R269, R377, R515) -/

def State.resetPage (s : State) (b : Block) (i : Nat) : State := s.resetRegs (b.base i) (b.base i + 0xFFF)

/-- Registers of a cluster page return to reset, the secure window's (R394) kept. -/
def State.resetClu (s : State) (c : Nat) : State :=
  let v := s.rd (CLU_SEC_WIN 0).addr
  let s := s.resetPage .clu c
  if c = 0 then s.wr (CLU_SEC_WIN 0).addr v else s

/-- Banks of shared memory that hold a part of the secure window. -/
def State.winBank (s : State) (c b : Nat) : Bool :=
  c == 0 && decide (s.secWin.1 < s.secWin.2) && decide (s.secWin.1 / 0x40000 ≤ b) && decide (b ≤ (s.secWin.2 - 1) / 0x40000)

/-- The shared-memory banks selected off lose their contents (R375, R394). `all`: every bank (R502). -/
def State.dropShm (s : State) (c : Nat) (all : Bool) : State :=
  let off := fun b => all || s.winBank c b || !bitAt (s.f (PWR_RET_SHM c)) b
  ((List.range 16).filter off).foldl
    (fun s b =>
      (s.zeroMem (shmBase c + b * 0x40000) (shmBase c + b * 0x40000 + 0x3FFFF)).modCluster c fun x =>
        { x with bad := x.bad.filter fun p => p.1 / 32768 != b }) s

/-- A tile's state at the drop of its cluster: its banks take their selections, everything else is lost. -/
def State.dropTile (s : State) (t : Nat) (all : Bool) : State :=
  let s := s.foldTile t
  let s := if all then s.zeroMem (winBase t) (winBase t + 0x7FFFF) else (s.dropBanks t).dropBad t
  let bad := if all then [] else (s.tile t).bad
  (s.tileReset t).modTile t fun x => { x with bad := bad }

/-- Units of cold rows outstanding. -/
def Cluster.unitsOut (x : Cluster) : Nat := (x.fetches.map fun g => (g.reqs.map ColdReq.unit).eraseDups.length).sum

/-- A core goes off with its domain; the times of its crashes are kept outside it (R459). -/
def State.coreOff (s : State) (k : Nat) : State := (s.setCoreState k cOFF).modCore k fun c => c.fresh 0

/-- The cluster domain drops (R377, R468, R515): parity counts fold into the routers, which begin to sink. A retired tile loses what it
holds as the others do. Units of cold rows whose reads are on their way stay outstanding as stale (R147; notes/assumptions/136.md). -/
def State.dropCluster (s : State) (c : Nat) (all : Bool) : State :=
  let s := ((clusterTiles c).filter fun t => s.tileGood t).foldl (fun s t =>
    let s := s.dropTile t all
    { s with sinkStep := Map.set 0 s.sinkStep t s.ctl.step }) s
  let s := s.dropShm c all
  let x := s.cluster c
  let sent := { x with fetches := x.fetches.map fun (g : ColdFetch) => { g with reqs := g.reqs.filter fun q => q.issued } }
  let x := { bad := x.bad, nextId := x.nextId, fetches := (sent.staleFetches fun _ => true).fetches : Cluster }
  let s := ((s.setCluster c x).resetClu c).setF (CLU_COLD_OUT_UNITS c) x.unitsOut
  s.coreOff (3 + c)

/-- Both parity counts of a reporter go into a router's sink counts (R206). -/
def State.foldInto (s : State) (r : Nat) (inj con : Nat → Nat) : State :=
  [0, 1].foldl (fun s p => (s.addWrap (rtInj r p) (inj p)).addWrap (rtCon r p) (con p)) s

/-- A sensor domain drops. -/
def State.dropPorts (s : State) (ports : List Nat) : State :=
  let s := ports.foldl (fun s p => s.foldInto (portRouter p) (fun q => (s.sport p).inj q) (fun _ => 0)) s
  { s with sports := s.sports.filter fun p => !ports.contains p.1 }

def State.resetPages (s : State) (b : Block) : State := (List.range b.info.pages).foldl (fun s i => s.resetPage b i) s

/-- Bytes of a range are lost. -/
def State.dropMem (s : State) (lo n : Nat) : State := s.zeroMem lo (lo + n - 1)

/-- A wythe's mortar drops (R269): its routers' sink counts fold into the collar counts, the bridges of the other side sink. -/
def State.dropMortar (s : State) (east : Bool) : State :=
  let rs := (List.range 1024).filter fun r => isEast r == east
  let s := [0, 1].foldl (fun s p =>
    (s.addWrap (collarInj p) ((rs.map fun r => s.f (rtInj r p)).sum)).addWrap (collarCon p) ((rs.map fun r => s.f (rtCon r p)).sum)) s
  let s := { s with
    regs := s.regs.filter fun p => !(decide (0x500000 ≤ p.1) && decide (p.1 < 0x900000) && isEast ((p.1 - 0x500000) / 4096) == east),
    flights := s.flights.filter (fun f => isEast f.at_ != east), psums := s.psums.filter (fun b => isEast b.at_ != east),
    counts := s.counts.filter (fun p => isEast p.1 != east), sinkStep := s.sinkStep.filter (fun p => isEast p.1 != east),
    collarStep := s.ctl.step }
  s.setF (if east then MTR_COLLAR_W_SINK else MTR_COLLAR_E_SINK) 1

/-- Registers of the recorder page return to reset, the counts kept in PD_AON (R477, R556) as they are. -/
def State.resetRecd (s : State) : State :=
  let (m, c) := (s.rd REC_MINUTES.addr, s.rd REC_CYCLES.addr)
  ((s.resetPage .recd 0).wr REC_MINUTES.addr m).wr REC_CYCLES.addr c

/-- The state of domain `d` is lost. `all`: a cluster loses every bank. -/
def State.dropDomain (s : State) (d : Nat) (all : Bool := false) : State :=
  let s := match d with
    | 1 => { (s.dropMem 0x300000000 0x54000).coreOff 0 with secure := { s.secure with jobs := [] } }
    | 2 => { (s.dropMem 0x301000000 0x1080000).coreOff 2 with secure := { s.secure with jobs := s.secure.jobs.filter not } }
    | 3 => s.setF CLK_STAT_PLL 0
    | 4 => s.dropMortar false
    | 5 => s.dropMortar true
    | 6 => (wytheChans false).foldl (fun (s : State) n => s.resetPage .mem n) { s.fillsStop 0 23 with memq := s.memq.filter fun q => 24 ≤ q.chan }
    | 7 => (wytheChans true).foldl (fun (s : State) n => s.resetPage .mem n) { s.fillsStop 24 47 with memq := s.memq.filter fun q => q.chan < 24 }
    | 8 =>
      let s := s.foldInto 0x000 (fun p => s.f (hostInj p)) (fun p => s.f (hostCon p))
      { s.resetPage .host 0 with host := {} }
    | 9 => ((s.dropPorts [0, 1, 2, 3, 4, 5]).resetPages .csi).resetPage .aer 0
    | 10 => ((s.dropPorts [6, 7, 8, 9]).resetPages .t1s).resetPage .gpio 0
    | 11 =>
      let s := (List.range 4).foldl (fun (s : State) p => s.foldInto (tieRouter p) (fun _ => 0) (fun q => s.f (tieCon p q))) s
      { s.resetPages .tie with ties := [] }
    | 12 => { s.resetPage .kiln 0 with kslices := [], kring := 15 }
    | 13 => { s.resetRecd with recs := [], recWin := [] }
    | _ => if 14 ≤ d ∧ d < 30 then s.dropCluster (d - 14) all else s
  (s.setF PWR_ON (s.f PWR_ON &&& (2 ^ 30 - 1 - 2 ^ d))).refSync.drainSync

/-- What has to hold before a mortar drops (R269): drained, the bridges empty, and no cluster of the other wythe routes through it. -/
def State.mortarQuiet (s : State) (east : Bool) : Bool :=
  !(s.flights.any fun f => isEast f.at_ == east || f.bridge) && !(s.psums.any fun b => isEast b.at_ == east) &&
    !s.xrouteHeld east

/-- DOMAIN_HOLD_EXPIRE (R512, R515): the domain has not been held for HOLD and drops. -/
def State.holdExpire (s : State) (d : Nat) : State :=
  if d = 0 ∨ 30 ≤ d ∨ !s.domOn d ∨ s.heldDom d ∨ s.frozen ∨ !s.en .pwr 0 then s
  else if (d = 4 ∧ !s.mortarQuiet false) ∨ (d = 5 ∧ !s.mortarQuiet true) then s
  else s.dropDomain d

def execDomainHoldExpire (d : BitVec 5) (s : State) : Out := .next (s.holdExpire d.toNat)

/-! ## Rising (R514) -/

/-- The recorder takes up the newer valid persistent copy (R558); a power-on reset adds a power cycle after it (R556). -/
def State.loadRecs (s : State) : State :=
  let k := s.kparts
  let pick : Option RecCopy := match k.copyA, k.copyB with
    | some a, some b => if newer b.seq a.seq then some b else some a
    | some a, none => some a
    | none, b => b
  let s := match pick with
    | some c =>
      let s := { s with recs := c.recs, recWin := [] }
      if s.boot.pon then (s.setF REC_MINUTES c.minutes).setF REC_CYCLES c.cycles else s
    | none => { s.setF REC_STAT_FRESH 1 with recs := [], recWin := [] }
  if s.boot.pon then s.add REC_CYCLES 1 else s

/-- RATE and RETIRE of a channel as the record directs them (R372, R481). -/
def State.chanFromRecord (s : State) (n : Nat) : State :=
  let c := bits (s.recWord (16 + n / 8)) (4 * (n % 8) + 3) (4 * (n % 8))
  (s.setF (MEM_CFG_RATE n) (bn (c == 1))).setF (MEM_CFG_RETIRE n) (bn (c == 2))

/-- What a domain's blocks are as it becomes on. Reporters and stopped tiles take their open step from the chip's counter (R116, R205). -/
def State.riseEffects (s : State) (d : Nat) : State :=
  match d with
  | 2 => if s.f (BOOT_LOG_RESULT 8) = 1 then s.coreStart 2 else s
  | 3 => s.setF CLK_STAT_PLL 0x7F
  | 4 =>
    let st := ((List.range 1024).filter fun r => !isEast r).foldl (fun m r => Map.set 0 m r s.ctl.step) s.sinkStep
    { s.setF MTR_COLLAR_E_SINK 0 with sinkStep := st }
  | 5 =>
    let st := ((List.range 1024).filter fun r => isEast r).foldl (fun m r => Map.set 0 m r s.ctl.step) s.sinkStep
    { s.setF MTR_COLLAR_W_SINK 0 with sinkStep := st }
  | 8 =>
    let s := (s.setF HOST_MAC_LO (s.fuse.mac % 2 ^ 32)).setF HOST_MAC_HI_MAC (s.fuse.mac / 2 ^ 32)
    let s := { s with host := { s.host with step := s.ctl.step } }
    if s.boot.spi then s else s.hostEnable
  | 9 => (List.range 6).foldl (fun s p => s.modSport p fun x => { x with step := s.ctl.step }) s
  | 10 => ([6, 7, 8, 9].foldl (fun s p => s.modSport p fun x => { x with step := s.ctl.step }) s).gpioSync
  | 6 => ((wytheChans false).foldl (fun s n => s.chanFromRecord n) s).showList false
  | 7 => ((wytheChans true).foldl (fun s n => s.chanFromRecord n) s).showList true
  | 11 =>
    ((List.range 4).foldl (fun s p => s.modTie p fun x => { x with step := s.ctl.step }) s).tieStarts.setF (TIE_ENUM_CHIPS 0) (bn s.isManager)
  | 12 => (List.range 16).foldl (fun s c => s.wr (KILN_SLICE c).addr (BitVec.ofNat 32 (s.recWord (32 + c)))) s
  | 13 => s.loadRecs
  | d =>
    if 14 ≤ d ∧ d < 30 then
      (((clusterTiles (d - 14)).filter fun t => s.tileUp t).foldl (fun s t => s.modTile t fun x => { x with step := s.ctl.step }) s).setCoreState
        (3 + (d - 14)) cLOAD
    else s

/-- The domain is on: counted, its bit set. -/
def State.riseDomain (s : State) (d : Nat) : State :=
  if s.domOn d then s else (((s.setF PWR_ON (s.f PWR_ON ||| 2 ^ d)).inc (PWR_RISES d)).riseEffects d).drainSync

/-- DOMAIN_RISE (R512, R514): a held domain becomes on. A retired cluster's domain stays off (R483). PD_PLL rises only once CK_REF runs
(R521). -/
def State.rise (s : State) (d : Nat) : State :=
  if 30 ≤ d ∨ s.domOn d ∨ !s.heldDom d ∨ !s.en .pwr 0 then s
  else if d = dPLL ∧ !s.b CLK_STAT_REF_OK then s.refRestart
  else if 14 ≤ d ∧ bitAt (s.f (BOOT_REC 23)) (d - 14) then s
  else s.riseDomain d

def execDomainRise (d : BitVec 5) (s : State) : Out := .next (s.rise d.toNat)

/-! ## Wake (R519) -/

/-- WAKE: a source fires. -/
def execWake (src unit : BitVec 4) (s : State) : Out := .next (s.wakeIf src.toNat unit.toNat)

/-! ## Levels (R523–R525) -/

/-- The slowest of the levels that apply to a wythe. -/
def State.levelTarget (s : State) (east : Bool) : Nat :=
  let req := if east then s.f PWR_LEVEL_REQ_E else s.f PWR_LEVEL_REQ_W
  let cap := if east then s.f PWR_GOV_CAP_E else s.f PWR_GOV_CAP_W
  let l := max req (max cap (s.f PWR_GOV_TCAP))
  if s.b PWR_LEVEL_CLAMP || s.b FOOT_STAT_ACTIVE then 3 else l

def levelApp (east : Bool) : Loc := if east then PWR_LEVEL_APP_E else PWR_LEVEL_APP_W
def levelBusy (east : Bool) : Loc := if east then PWR_LEVEL_BUSY_E else PWR_LEVEL_BUSY_W

def Power.to (p : Power) (east : Bool) : Option Nat := if east then p.toE else p.toW
def Power.setTo (p : Power) (east : Bool) (v : Option Nat) : Power := if east then { p with toE := v } else { p with toW := v }

/-- A change towards the target begins, one per wythe at a time. -/
def State.levelBegin (s : State) (east : Bool) : State :=
  if (s.power.to east).isSome || s.levelTarget east == s.f (levelApp east) then s
  else { s.setF (levelBusy east) 1 with power := s.power.setTo east (some (s.levelTarget east)) }

def execLevelChange (east : Bool) (s : State) : Out := .next (s.levelBegin east)

/-- The change ends; a target that arose meanwhile is taken up. -/
def State.levelEnd (s : State) (east : Bool) : State :=
  match s.power.to east with
  | none => s
  | some l =>
    let s := { (s.setF (levelApp east) l).setF (levelBusy east) 0 with power := s.power.setTo east none }
    (s.raise .pwr 0 1).levelBegin east

def execLevelChangeDone (east : Bool) (s : State) : Out := .next (s.levelEnd east)

/-- A write of PWR_LEVEL: the requests; CLAMP clears once the power-management core runs again (R459). -/
def State.levelWrite (s : State) (v : Nat) : State :=
  let s := (s.setF PWR_LEVEL_REQ_E (bits v 3 2)).setF PWR_LEVEL_REQ_W (bits v 1 0)
  if s.coreState 1 = cRUN then s.setF PWR_LEVEL_CLAMP 0 else s

/-! ## The governor and the thermal monitor (R526, R527) -/

/-- LIMIT in 1/8 W within its range. -/
def State.powerLimit (s : State) : Nat := max 16 (min 288 (s.f PWR_LIMIT_LIMIT))

/-- GOVERNOR_WINDOW: the end of a window that averaged `avg`; `eastMore`: the east wythe drew more. -/
def State.governor (s : State) (avg : Nat) (eastMore : Bool) : State :=
  let s := s.setF PWR_GOV_AVG avg
  let w := s.f PWR_GOV_CAP_W
  let e := s.f PWR_GOV_CAP_E
  let quiet := fun (s : State) (n : Nat) => { s with power := { s.power with quiet := n } }
  if s.powerLimit < avg then
    let s := quiet s 0
    if w < 3 ∨ e < 3 then
      (if eastMore then s.setF PWR_GOV_CAP_E (min 3 (e + 1)) else s.setF PWR_GOV_CAP_W (min 3 (w + 1))).raise .pwr 0 2
    else (s.setF PWR_GOV_PSTRETCH (min 16 (s.f PWR_GOV_PSTRETCH + 1))).raise .pwr 0 2
  else if avg * 16 ≤ s.powerLimit * 15 then
    let n := s.power.quiet + 1
    if n < 10 then quiet s n
    else
      let s := quiet s 0
      if 0 < s.f PWR_GOV_PSTRETCH then (s.setF PWR_GOV_PSTRETCH (s.f PWR_GOV_PSTRETCH - 1)).raise .pwr 0 2
      else if w = 0 ∧ e = 0 then s
      else (if w < e then s.setF PWR_GOV_CAP_E (e - 1) else s.setF PWR_GOV_CAP_W (w - 1)).raise .pwr 0 2
  else quiet s 0

def execGovernorWindow (avg : BitVec 9) (eastMore : Bool) (s : State) : Out := .next (s.governor avg.toNat eastMore)

/-- The thermal cap at TJ (in 1/16 °C), with the cap in force before it (R527). -/
def State.thermalCap (s : State) (tj : Int) : Nat :=
  let on := fun (thr : Nat) (held : Bool) => decide ((thr : Int) * 16 ≤ tj) || (held && decide (((thr : Int) - 5) * 16 < tj))
  let old := s.f PWR_GOV_TCAP
  if on (s.f PWR_THERM_CFG_THR_P3) (decide (old = 3)) then 3
  else if on (s.f PWR_THERM_CFG_THR_P2) (decide (2 ≤ old)) then 2 else 0

/-- THERMAL_SAMPLE. -/
def State.thermal (s : State) (tj : BitVec 16) : State :=
  let cap := s.thermalCap tj.toInt
  let old := s.f PWR_GOV_TCAP
  let s := s.setF PWR_THERM_TJ tj.toNat
  let s := if sgn 16 (s.f PWR_THERM_TJ_MAX) < tj.toInt then s.setF PWR_THERM_TJ_MAX tj.toNat else s
  let s := s.setF PWR_GOV_TCAP cap
  if old < cap then s.raise .pwr 0 3 else s

def execThermalSample (tj : BitVec 16) (s : State) : Out := .next (s.thermal tj)

/-! ## Clocks (R520, R522) -/

/-- PLL_LOSS: PLL `k` (0 west, 1 east, 2 FW, 3 MEM, 4 HOST, 5 SNS, 6 TIE) loses lock. -/
def State.pllLoss (s : State) (k : Nat) : State :=
  if s.domOn dPLL && decide (k < 7) && bitAt (s.f CLK_STAT_PLL) k then
    (s.setF CLK_STAT_PLL (putBits (s.f CLK_STAT_PLL) k k 0)).raise .clk 0 0
  else s

def execPllLoss (k : BitVec 3) (s : State) : Out := .next (s.pllLoss k.toNat)

/-- The PLL that clocks a domain's blocks. -/
def domPll (d : Nat) : Option Nat :=
  if d = 1 ∨ d = 2 then some 2
  else if d = 4 then some 0
  else if d = 5 then some 1
  else if d = 6 ∨ d = 7 then some 3
  else if d = 8 then some 4
  else if d = 9 ∨ d = 10 then some 5
  else if d = 11 then some 6
  else if 14 ≤ d ∧ d < 30 then some (if clusterEast (d - 14) then 1 else 0)
  else none

/-- Accesses to the domain's blocks are served: it is on, and its PLL has not lost lock. -/
def State.domServes (s : State) (d : Nat) : Bool :=
  s.domOn d &&
    match domPll d with
    | some k => !s.domOn dPLL || bitAt (s.f CLK_STAT_PLL) k
    | none => true

end Sys2Proof.Machine
end

