-- ==== Sys2Proof/Machine/BootCtl.lean ====
section
/-! DEFINITION. The bring-up sequencer, the boot record's writes and mirror, footing triggers, pins and status
(spec/15_start_recovery_footing.md R478–R484, R500–R508, R510). -/

namespace Sys2Proof.Machine
open Sys2Proof

/-! ## The record (R481–R484) -/

/-- RESULT values. -/
def rOK : Nat := 1
def rALT : Nat := 2
def rPARTIAL : Nat := 3
def rFAILED : Nat := 4
def rSKIPPED : Nat := 5

/-- METHOD values. -/
def mPRIMARY : Nat := 1
def mSTORED : Nat := 2
def mALT : Nat := 3
def mSKIP : Nat := 4

/-- ERR values (R510). -/
def eORDER : Nat := 1
def eBUSY : Nat := 2
def eMETHOD : Nat := 3
def eTIMEOUT : Nat := 4
def eHW : Nat := 5
def eAUTH : Nat := 6
def eNOFW : Nat := 7
def eMOUNT : Nat := 8
def eLOAD : Nat := 9
def eFOOTING : Nat := 10

/-- The record's words as they stand. -/
def State.recWords (s : State) : List (BitVec 32) := (List.range 64).map fun w => s.rd (BOOT_REC w).addr

/-- Word 63 holds the CRC of the others. -/
def State.recValid (s : State) : Bool := s.recWord 63 % 65536 == s.recCrc

/-- Words 0 to 62 read 0 (R484). -/
def State.recZero (s : State) : State := ((List.range 63).foldl (fun s w => s.wr (BOOT_REC w).addr 0) s).recSeal

/-- A mirror copy is written (R482). -/
def State.mirrorPut (s : State) (b : Bool) : State :=
  if b then { s with kparts := { s.kparts with mirrorB := some s.recWords } }
  else { s with kparts := { s.kparts with mirrorA := some s.recWords } }

/-- BOOT_RECORD_MIRROR (R482): a write that is due, to the copies alternately. -/
def State.mirror (s : State) : State :=
  if s.boot.mirror && s.domOn dKILN then
    let s := s.mirrorPut s.kparts.mirrorNext
    { s with kparts := { s.kparts with mirrorNext := !s.kparts.mirrorNext }, boot := { s.boot with mirror := false } }
  else s

def execBootRecordMirror (s : State) : Out := .next s.mirror

/-- A host write of the record calls for a mirror write once the current step has ended. -/
def State.hostWrote (s : State) : State :=
  if s.boot.run.isSome then { s with boot := { s.boot with hostw := true } } else { s with boot := { s.boot with mirror := true } }

/-- BOOT_REC_WRITE (R481, R482, R484): as given and unchecked; word 63 is read-only. -/
def State.recWrite (s : State) (w : Nat) (v : BitVec 32) : State :=
  if 63 ≤ w then s
  else
    let s := ((s.wr (BOOT_REC w).addr v).recSeal).hostWrote
    if w = 22 then s.tieStarts else s

def execBootRecWrite (w : BitVec 6) (v : BitVec 32) (s : State) : Out := .next (s.recWrite w.toNat v)

/-- BOOT_FW_BASE, BOOT_IMG_BASE, BOOT_CKPT_BASE or BOOT_STAGE_BASE (k = 0..3) is written: the record follows (R510). -/
def State.baseWrite (s : State) (k v : Nat) : State :=
  let l := [BOOT_FW_BASE_BASE, BOOT_IMG_BASE_BASE, BOOT_CKPT_BASE_BASE, BOOT_STAGE_BASE_BASE].getD k BOOT_FW_BASE_BASE
  (s.setF l v).recWrite (25 + k) (BitVec.ofNat 32 (v % 2 ^ 22))

/-- BOOT_REC_CLEAR (R484): the right KEY and CLEAR; both mirror copies are written, later if PD_KILN is off. -/
def State.recClear (s : State) (v : Nat) : State :=
  if bits v 31 16 = 0xB0C1 ∧ bitAt v 0 then
    let s := s.recZero.tieStarts
    if s.domOn dKILN then (s.mirrorPut false).mirrorPut true else s.hostWrote
  else s

def execBootRecClear (v : BitVec 32) (s : State) : Out := .next (s.recClear v.toNat)

/-- The register reset values that the record holds (R481). -/
def State.recBases (s : State) : State :=
  (((s.setF BOOT_FW_BASE_BASE (s.recWord 25)).setF BOOT_IMG_BASE_BASE (s.recWord 26)).setF BOOT_CKPT_BASE_BASE (s.recWord 27)).setF
    BOOT_STAGE_BASE_BASE (s.recWord 28)

/-! ## Steps and runs (R478, R479, R483) -/

/-- The methods a step permits (R483). -/
def permitted (n m : Nat) : Bool :=
  m == 1 || (match n with
    | 4 => m == 2
    | 6 => m == 2
    | 7 => m == 2 || m == 4
    | 9 => m == 3
    | 10 => m == 4
    | 11 => m == 3 || m == 4
    | _ => false)

/-- The method the record directs for step `n`; a value that the step does not permit acts as PRIMARY. -/
def State.recMethod (s : State) (n : Nat) : Nat :=
  let m := bits (s.recWord n) 15 12
  if permitted n m then m else mPRIMARY

/-- Local address of a base register's region. -/
def baseAddr (b : Nat) : Nat := b * 65536

/-- A checkpoint header is valid at BOOT_CKPT_BASE: its magic, version and kind (R487). -/
def State.ckptValid (s : State) : Bool :=
  match s.memRead (baseAddr (s.f BOOT_CKPT_BASE_BASE)) 8 with
  | .done _ .ok bs => ofLE (bs.take 4) == 0x55454C47 && bs.getD 4 0 == 1 && ofLE (slice bs 6 2) == 4
  | _ => false

/-- NEXT that the outcome of step `n` writes (R483). -/
def State.nextMethod (s : State) (n m result old : Nat) : Nat :=
  match n with
  | 4 => mSTORED
  | 6 => mSTORED
  | 7 => if result = rOK ∨ result = rALT ∨ result = rPARTIAL then mSTORED else old
  | 11 =>
    if result = rOK ∨ result = rALT then mPRIMARY
    else if result = rFAILED ∧ m = mPRIMARY then (if s.ckptValid then mALT else mSKIP)
    else old
  | _ => mPRIMARY

/-- The entry of step `n` in the record (R481). Step 0 counts the start. -/
def State.recEntry (s : State) (n m result : Nat) : State :=
  let w := s.recWord n
  let next := s.nextMethod n m result (bits w 15 12)
  let v := min 255 (bits w 31 24 + 1) * 2 ^ 24 + result * 2 ^ 20 + m * 2 ^ 16 + next * 2 ^ 12
  let due := s.boot.mirror || s.boot.hostw || result == rFAILED || next != bits w 15 12 || n == 12
  let s := s.wr (BOOT_REC n).addr (BitVec.ofNat 32 v)
  let s := if n = 0 then s.wr (BOOT_REC 62).addr (s.rd (BOOT_REC 62).addr + 1) else s
  { s.recSeal with boot := { s.boot with mirror := due, hostw := false } }

/-- W and H as TIE_TORUS gives them are sampled, and the manager computes its place in the spanning tree (R339, R347). -/
def State.torusBegin (s : State) : State :=
  if s.isManager then State.computeTree { s with torusW := s.f (TIE_TORUS_WM1 0) + 1, torusH := s.f (TIE_TORUS_HM1 0) + 1 } else s

/-- What step 7 does on a manager as it begins (R319, R334, R483): a token on every port in LISTEN, to train from x4 or from the recorded
widths. -/
def State.tiesBegin (s : State) (m : Nat) : State :=
  if m = mSKIP || !s.isManager then s
  else
    (List.range 4).foldl (fun s p =>
      if s.f (TIE_STAT_STATE p) = 1 then
        (s.setF (TIE_STAT_START p) (if m = mSTORED then bits (s.recWord 22) (2 * p + 1) (2 * p) else 3)).sendToken p
      else s) s

/-- Step `n` begins by method `m`. -/
def State.stepBegin (s : State) (n m : Nat) : State :=
  let s := { s.setF BOOT_STATUS_BUSY 1 with boot := { s.boot with run := some n, method := m, start := s.tb.toNat } }
  if n = 7 then s.torusBegin.tiesBegin m else if n = 6 then s.memTraining else s

/-- The run ends. -/
def State.bootRunEnd (s : State) : State := { s.setF BOOT_STATUS_BUSY 0 with boot := { s.boot with run := none } }

/-- Step `n` may not run: footing has been entered or waits (R501). -/
def State.footRefuses (s : State) (n : Nat) : Bool := decide (11 ≤ n) && s.b FOOT_STAT_ACTIVE

/-- What a finished step shows in BOOT_STATUS and BOOT_LOGn (R510). -/
def State.stepLog (s : State) (n m result err : Nat) : State :=
  let s := (((s.setF (BOOT_LOG_ERR n) err).setF (BOOT_LOG_RESULT n) result).setF (BOOT_LOG_METHOD n) m).setF
    (BOOT_LOG_DURATION n) (min 65535 ((s.tb.toNat - s.boot.start) / 10000))
  let s := (((s.setF BOOT_STATUS_RESULT result).setF BOOT_STATUS_METHOD m).setF BOOT_STATUS_STEP n).setF BOOT_STATUS_ERR err
  if result = rFAILED then (s.setF BOOT_STATUS_NEXT n).raise .boot 0 1
  else
    let s := (s.setF BOOT_STATUS_NEXT (n + 1)).raise .boot 0 0
    if n = 12 then { s.setF BOOT_STATUS_DONE 1 with ready := true } else s

/-- The run goes on with the next step, or ends (R478). -/
def State.bootRunNext (s : State) (n result : Nat) : State :=
  if result = rFAILED ∨ s.boot.last ≤ n then s.bootRunEnd
  else if s.footRefuses (n + 1) then (s.setF BOOT_STATUS_ERR eFOOTING).bootRunEnd
  else s.stepBegin (n + 1) (s.recMethod (n + 1))

/-- The step in progress ends with a result and an error. `enter`: its entry goes into the record now (at step 0 it has to wait where
the record is not valid, R482). -/
def State.stepEnd (s : State) (n result err : Nat) (enter : Bool := true) : State :=
  let m := s.boot.method
  let s := s.stepLog n m result err
  let s := if enter then s.recEntry n m result else s
  s.bootRunNext n result

/-- The step in progress is `n`. -/
def State.stepIs (s : State) (n : Nat) : Bool := s.boot.run == some n

/-- The result of a completion without units lost, by the method used (R481). -/
def doneBy (m : Nat) : Nat := if m = mPRIMARY then rOK else rALT

/-- BOOT_CMD (R478). -/
def State.bootCmd (s : State) (v : Nat) : State :=
  let n := bits v 3 0
  let m := bits v 11 8
  if s.b BOOT_STATUS_BUSY then s.setF BOOT_STATUS_ERR eBUSY
  else if 13 ≤ n ∨ !(n == s.f BOOT_STATUS_NEXT || (s.f BOOT_STATUS_RESULT == rFAILED && n == s.f BOOT_STATUS_STEP)) then
    s.setF BOOT_STATUS_ERR eORDER
  else if m ≠ 0 ∧ !permitted n m then s.setF BOOT_STATUS_ERR eMETHOD
  else if s.footRefuses n then s.setF BOOT_STATUS_ERR eFOOTING
  else
    let s := (s.setF BOOT_STATUS_ERR 0).stepBegin n (if m = 0 then s.recMethod n else m)
    { s with boot := { s.boot with last := min 12 (max n (bits v 15 12)) } }

def execBootCmd (v : BitVec 32) (s : State) : Out := .next (s.bootCmd v.toNat)

/-- The end of step 7 (R334, R479, R483): every chip counted, or the time limit. -/
def State.bootStep7 (s : State) : State :=
  let n := s.f (TIE_ENUM_CHIPS 0)
  if s.boot.method = mSKIP then (s.setF (TIE_ENUM_CHIPS 0) 1).stepEnd 7 rSKIPPED 0
  else if s.torusW * s.torusH ≤ n then s.stepEnd 7 (doneBy s.boot.method) 0
  else if n = 0 then s.stepEnd 7 rFAILED eTIMEOUT
  else s.stepEnd 7 rPARTIAL 0

/-- BOOT_STEP7_TIES (R334, R479). -/
def execBootStep7Ties (s : State) : Out := .next (if s.stepIs 7 then s.bootStep7 else s)

/-- BOOT_STEP_TIMEOUT (R479): the step in progress exceeds its limit; step 7 ends there by its own rule. -/
def execBootStepTimeout (s : State) : Out :=
  .next (match s.boot.run with
    | some n => if n = 7 then s.bootStep7 else s.stepEnd n rFAILED eTIMEOUT
    | none => s)

/-- A domain that the sequencer switches on (R513). -/
def State.bootOn (s : State) (d : Nat) : State := (s.vote d 1).riseDomain d

/-- BOOT_STEP0_AON (R479): the record is checked, and the boot responder starts with BOOT_IF = Ethernet. -/
def State.bootStep0 (s : State) : State :=
  let ok := s.recValid
  let s := s.setF BOOT_REC_CTRL_VALID (bn ok)
  let s := if ok then s.recBases else s
  let s := if s.boot.spi then s else s.riseDomain dHOST
  s.stepEnd 0 rOK 0 ok

def execBootStep0Aon (s : State) : Out := .next (if s.stepIs 0 then s.bootStep0 else s)

/-- The fuse shadow is loaded (R30, R33, R426, R539). -/
def State.loadFuses (s : State) : State :=
  let u := s.fuse
  let s := (List.range 32).foldl (fun s k => s.setF (SYS_TILEMAP k) (u.tiles.toNat / 2 ^ (32 * k))) s
  let s := (s.setF SYS_GRADE_GRADE u.grade).setF SYS_GRADE_GOOD_TILES (popcount 1024 u.tiles.toNat)
  let s := (s.setF SEC_LC_STATE u.lc).setF SEC_LC_DEBUG (bn (u.lc != 3 && u.lc != 5))
  let s := (s.setF SEC_LC_PAIRED (bn u.pair.isSome)).setF SEC_LC_IKEY (bn u.ikey.isSome)
  (s.setF SEC_UID_LO u.uid).setF SEC_UID_HI (u.uid / 2 ^ 32)

/-- SEQ and validity of a mirror copy. -/
def mirrorSeq (l : List (BitVec 32)) : Nat := (l.getD 63 0).toNat / 65536

def mirrorGood (l : List (BitVec 32)) : Bool :=
  (l.getD 63 0).toNat % 65536 == crcMsb 16 0x1021 0xFFFF ((l.take 63).flatMap fun w => bytesLE 4 w.toNat)

/-- The mirror copy that step 1 takes (R482). -/
def State.mirrorPick (s : State) : Option (List (BitVec 32)) :=
  match s.kparts.mirrorA.filter mirrorGood, s.kparts.mirrorB.filter mirrorGood with
  | some a, some b => if newer (mirrorSeq b) (mirrorSeq a) then some b else some a
  | some a, none => some a
  | none, b => b

/-- The record is restored from its mirror, or cleared. -/
def State.recRestore (s : State) : State :=
  match s.mirrorPick with
  | some l =>
    let s := l.zipIdx.foldl (fun s p => s.wr (BOOT_REC p.2).addr p.1) s
    (s.setF BOOT_REC_CTRL_FROM_KILN 1).setF BOOT_REC_CTRL_VALID 1
  | none => s.recZero

/-- BOOT_STEP1_FUSES (R479, R482). -/
def State.bootStep1 (s : State) : State :=
  let s := (s.bootOn dREC).loadFuses
  let s := { s with boot := { s.boot with pon := false } }
  let s := (s.bootOn dSEC).setCoreState 0 cHELD
  let valid := s.b BOOT_REC_CTRL_VALID
  let s := if valid then s else s.recRestore.recBases
  let s := s.bootOn dKILN
  let s := if valid then s else s.recEntry 0 mPRIMARY rOK
  s.stepEnd 1 rOK 0

def execBootStep1Fuses (s : State) : Out := .next (if s.stepIs 1 then s.bootStep1 else s)

/-- BOOT_STEP2_PLL (R479): `lock`: every PLL locked. -/
def State.bootStep2 (s : State) (lock : Bool) : State :=
  let s := (s.bootOn dPLL).bootOn dTIE
  if lock then s.stepEnd 2 rOK 0 else s.stepEnd 2 rFAILED eHW

def execBootStep2Pll (lock : Bool) (s : State) : Out := .next (if s.stepIs 2 then s.bootStep2 lock else s)

/-- Clusters that the record does not retire. -/
def State.keptClusters (s : State) : List Nat := (List.range 16).filter fun c => !bitAt (s.recWord 23) c

/-- BOOT_STEP3_POWER (R479, R595): `w`, `e`: the regulators answered and the rails came up. -/
def State.bootStep3 (s : State) (w e : Bool) : State :=
  if !(w && e) then s.stepEnd 3 rFAILED eHW
  else
    let s := [dMTW, dMTE, dMEMW, dMEME, dFW].foldl (fun s d => s.bootOn d) s
    let s := s.keptClusters.foldl (fun s c => s.bootOn (dCLU c)) s
    s.stepEnd 3 rOK 0

def execBootStep3Power (w e : Bool) (s : State) : Out := .next (if s.stepIs 3 then s.bootStep3 w e else s)

/-- A cluster is retired in the record: its domain stays off and its routers sink (R483). -/
def State.retireCluster (s : State) (c : Nat) : State :=
  let s := s.recPut 23 c c 1
  let s := s.setF (PWR_VOTE_CLIENTS (dCLU c)) 0
  if s.domOn (dCLU c) then s.dropDomain (dCLU c) true else s

/-- A tile found beyond repair is retired, and kept in the training and repair partition (R393). -/
def State.keepTile (s : State) (t : Nat) : State :=
  let c := clusterOf t
  let (hi, b) := (localIdx t / 32, localIdx t % 32)
  let old := if hi = 0 then s.f (CLU_RETIRE_T0 c) else s.f (CLU_RETIRE_T1 c)
  if s.domOn (dCLU c) then s.retireTile c hi (old ||| 2 ^ b) else s

/-- A retirement register takes the value kept for it (R393). -/
def State.reRetire (s : State) (a v : Nat) : State :=
  let o := a % 0x1000
  match pageOf a with
  | some (.clu, c) =>
    if !s.domOn (dCLU c) then s
    else if o = 0x31C then s.retireShm c v
    else s.retireTile c (if o = 0x320 then 0 else 1) v
  | some (.tile, t) => if !s.tileUp t then s else if o = 0x368 then s.retireSyn t v else s.retireRegion t ((o - 0x328) / 4) v
  | _ => s

/-- BOOT_STEP4_BIST (R479, R483, R393). `verify`: clusters whose stored repair fails its March C− pass; `bad`: clusters with a fault beyond
repair in bank 0 or the control core; `tiles`: tiles found beyond repair. -/
def State.bootStep4 (s : State) (verify bad : Nat) (tiles : List Nat) : State :=
  let full := fun c => s.boot.method == mPRIMARY || !bitAt (s.recWord 23) (16 + c) || bitAt verify c
  let tested := s.keptClusters.filter full
  let lost := tested.filter fun c => bitAt bad c
  let s := lost.foldl (fun s c => s.retireCluster c) s
  let s := s.keptClusters.foldl (fun s c => s.recPut 23 (16 + c) (16 + c) 1) s
  let found := (tiles.filter fun t => tested.contains (clusterOf t) && !lost.contains (clusterOf t))
  let s := s.kparts.retired.foldl (fun s p => s.reRetire p.1 p.2.toNat) s
  let s := found.foldl (fun s t => s.keepTile t) s
  if s.keptClusters.isEmpty then s.stepEnd 4 rFAILED eHW
  else s.stepEnd 4 (if lost.isEmpty && found.isEmpty then doneBy s.boot.method else rPARTIAL) 0

def execBootStep4Bist (verify bad : BitVec 16) (tiles : List (BitVec 10)) (s : State) : Out :=
  .next (if s.stepIs 4 then s.bootStep4 verify.toNat bad.toNat (tiles.map BitVec.toNat) else s)

/-! ## Footing (R500–R508) -/

/-- FOOTING_TRIGGER (R500–R502, R507). -/
def execFootingTrigger (code : BitVec 4) (s : State) : Out :=
  .next (if 1 ≤ code.toNat ∧ code.toNat ≤ 6 then s.footTrigger code.toNat else s)

/-- THERMAL_FOOTING (R500). -/
def execThermalFooting (s : State) : Out := .next (s.footTrigger 3)

/-- FOOT_N_FOOTING (R500). -/
def execFootNFooting (s : State) : Out := .next (s.footTrigger 5)

/-- SUPPLY_BAND_FOOTING (R594): of the west or the east rail. -/
def execSupplyBandFooting (_east : Bool) (s : State) : Out := .next (s.footTrigger 4)

/-- FOOT_CTRL.ENTER (R510): the cause that CMD_CAUSE selects. -/
def State.footEnter (s : State) : State := s.footTrigger (if s.b FOOT_STAT_CMD_CAUSE then 1 else 6)

def execFootCtrlEnter (s : State) : Out := .next s.footEnter

/-- FOOT_CTRL.EXIT (R508, steps 1 and 2): the footing network stops, the pins return to GPIO and votes are free again. -/
def State.footLeave (s : State) : State :=
  if !s.b FOOT_STAT_ACTIVE then s
  else
    let s := s.runStop
    let s := ((clusterTiles s.footCluster).filter fun t => s.tileUp t).foldl (fun s t => s.tileForce t) s
    let s := ((s.setF FOOT_STAT_ACTIVE 0).setF FOOT_STAT_UNAVAIL 0).setF FOOT_STAT_PINS 0
    let s := s.setF TMR_STEP_STAT_RELAY (bn (!s.isManager))
    let s := (List.range 30).foldl (fun s d => s.unvote d 128) s
    { s with foot := {} }.gpioSync

def execFootCtrlExit (s : State) : Out := .next s.footLeave

/-- FOOT_PIN_UPDATE (R504): at a CLOSE while the footing network runs. -/
def State.footUpdate (s : State) (par : Nat) : State :=
  let hits := if par = 0 then s.foot.hits0 else s.foot.hits1
  let s := (s.setF FOOT_STAT_PINS ((hits ^^^ s.f FOOT_CFG_INV) &&& s.footPins)).gpioSync
  if par = 0 then { s with foot := { s.foot with hits0 := 0 } } else { s with foot := { s.foot with hits1 := 0 } }

def State.footRuns (s : State) : Bool := s.b FOOT_STAT_ACTIVE && !s.b FOOT_STAT_UNAVAIL && !s.foot.entering

def execFootPinUpdate (step : BitVec 8) (s : State) : Out :=
  .next (if s.footRuns then s.footUpdate (step.toNat % 2) else s)

/-- FOOT_STATUS (R505): at a CLOSE, or every 10 ms while footing is unavailable. Then no step closes, and what the spec leaves
unstated (STEP, SHORT, EXH, the spikes of the step) is free; so is the frame's SEQ (R429). -/
def State.footStatus (s : State) (step : Nat) (short exh : Bool) : State :=
  if !s.b FOOT_STAT_ACTIVE || (s.foot.entering && !s.b FOOT_STAT_UNAVAIL) then s
  else
    let un := s.b FOOT_STAT_UNAVAIL
    let (q, s) := s.drawFree
    let (f1, s1) := s.drawFree
    let (f2, s2) := s1.drawFree
    let par := step % 2
    let spikes := if par = 0 then s.foot.spikes0 else s.foot.spikes1
    let s := if un then s2 else s
    let u := if un then f1.toNat else closedStep s.host.step step
    let fl := if un then f2.toNat % 4 else bn short + 2 * bn exh
    let n := if un then f2.toNat / 4 % 2 ^ 32 else spikes
    let body := bytesBE 8 u ++ [s.f FOOT_STAT_TRIGGER, if un then 2 else 1, s.f FOOT_STAT_PINS, fl] ++
      bytesBE 4 ((s.tb.toNat - s.foot.since) / 100000) ++ bytesBE 2 (s.f PWR_THERM_TJ) ++ [0, 0] ++ bytesBE 4 n
    let s := if un then s
      else if par = 0 then { s with foot := { s.foot with spikes0 := 0 } } else { s with foot := { s.foot with spikes1 := 0 } }
    s.txFrame (if s.bound then s.peer else 0xFFFFFFFFFFFF) 8 (q.toNat % 65536) s.chipId body

def execFootStatus (step : BitVec 8) (short exh : Bool) (s : State) : Out := .next (s.footStatus step.toNat short exh)

/-! ## Pins (R480) -/

/-- FAULT_N: low while the last step run has ended FAILED, and while footing mode is unavailable. -/
def State.faultN (s : State) : Bool := !(s.f BOOT_STATUS_RESULT == rFAILED || s.b FOOT_STAT_UNAVAIL)

end Sys2Proof.Machine
end

