-- ==== Sys2Proof/Machine/Combine.lean ====
section
/-! DEFINITION. PSUMs held in a router's combine buffers: how they leave, and the router's disable, which releases them
(spec/07_mortar_fabric.md R257, R258, R270). -/

namespace Sys2Proof.Machine
open Sys2Proof

/-- A held PSUM that is to leave enters its next lane, or is delivered, where there is room (R257). -/
def State.psumGo (s : State) (b : PsumBuf) : State :=
  let f : Flight := { pkt := b.packet, at_ := b.at_, inp := b.inp, lane := b.lane, escape := true, arr := b.arr }
  let s0 := s.dropPsum b.at_ b.buf
  match s0.hop f with
  | .wait => s
  | .moved s' => s'
  | .deliver s' _ =>
    if b.dchip.toNat = s.chipId then s'.psumTo b.at_ b.neuron.toNat b.step.toNat b.ccount.toNat b.sum.toInt
    else
      match tieOfRouter b.at_ with
      | some p => ((s'.crcGateway b.at_ true f.pkt).tieEgress p b.arr f.pkt).getD s
      | none => s'

/-- The PSUMs of router `r` that are to leave and can. -/
def State.psumPump (s : State) (r : Nat) : State :=
  (s.psums.filter fun b => b.at_ == r && b.due).foldl (fun s b => s.psumGo b) s

/-- The window of buffer `n` of router `r` has ended. -/
def State.psumLeave (s : State) (r n : Nat) : State :=
  if !s.routerOn r then s else ((s.drainSync.modPsum r n fun b => { b with due := true }).psumPump r).drainSync

/-- PSUM_WINDOW_EXPIRE (R257): buffer `k`, of 1 to 31, of router `r`. -/
def execPsumWindowExpire (r : BitVec 10) (k : BitVec 5) (s : State) : Out := .next (s.psumLeave r.toNat k.toNat)

/-- Every held PSUM of the router leaves at once: CMB_EN or CTRL.EN has been cleared (R257). -/
def State.psumRelease (s : State) (r : Nat) : State :=
  ({ s.drainSync with psums := s.psums.map fun (b : PsumBuf) => if b.at_ = r then { b with due := true } else b }.psumPump r).drainSync

/-- An adaptive channel or a PSUM buffer of the router is occupied (R270). -/
def State.rtBusy (s : State) (r : Nat) : Bool :=
  (s.flights.any fun f => [Port.loc, .gw, .north, .south, .east, .west].any fun p => f.occupies r p false) ||
    (s.psums.any fun b => b.at_ == r)

/-- RT CTRL.EN = 0 (R270): the held PSUMs leave; DRAINING while an adaptive channel or a PSUM buffer of the router is occupied. -/
def State.rtDisable (s : State) (r : Nat) : State :=
  if !s.en .rt r then s
  else
    let s := (s.setF (PAGE_DRAINING .rt r) 1).psumRelease r
    if s.rtBusy r then s else (s.setF (PAGE_EN .rt r) 0).setF (PAGE_DRAINING .rt r) 0

/-- RT_DISABLE (R270). -/
def execRtDisable (t : BitVec 10) (s : State) : Out := .next (if s.routerOn t.toNat then s.rtDisable t.toNat else s)

end Sys2Proof.Machine
end

