-- ==== Sys2Proof/Machine/Reset.lean ====
section
/-! DEFINITION. Whole-chip reset (spec/15_start_recovery_footing.md R476, R477; spec/01_architecture.md R32;
spec/17_security_and_recorder.md R554; spec/19_pins_electrical_package.md R590, R593, R597). -/

namespace Sys2Proof.Machine
open Sys2Proof

/-- Registers that a reset other than a power-on reset keeps whole (R477): the record, BOOT_RESET_SRC, SEC_TAMPER and the two counts
of PD_AON that the REC page shows. -/
def keptReg (a : Nat) : Bool :=
  (decide ((BOOT_REC 0).addr ≤ a) && decide (a ≤ (BOOT_REC 63).addr)) || a == BOOT_RESET_SRC.addr || a == SEC_TAMPER.addr ||
    a == REC_MINUTES.addr || a == REC_CYCLES.addr

/-- The power-management core memory (R450). -/
def keptMem (a : Nat) : Bool := decide (0x303000000 ≤ a) && decide (a < 0x303020000)

/-- What the straps last sampled set (R22, R31, R196, R590): a manager is chip 0x000 and assigned; a worker has no chip ID and relays. -/
def State.strapped (s : State) : State :=
  let m := s.boot.manager
  let s := ((s.setF SYS_CHIP_ID_MANAGER (bn m)).setF SYS_CHIP_ID_ASSIGNED (bn m)).setF SYS_CHIP_ID_CHIP_ID (if m then 0 else 0x3FF)
  let s := (s.setF TMR_STEP_STAT_RELAY (bn (!m))).setF FOOT_STAT_SEL (bn s.boot.sel)
  s.setF (PAGE_EN .spi 0) (bn s.boot.spi)

/-- The state after a reset. The kiln, the fuses, the queue of commands and what the outside drives stay; external memory stays while its devices are powered
(R364); what R477 names stays unless power was lost. -/
def State.afterReset (s : State) (power : Bool) : State :=
  let s := s.fillsStop 0 47
  let n : State := { krows := s.krows, kparts := s.kparts, fuse := s.fuse, pending := s.pending, free := s.free, pins := s.pins }
  if power then n
  else
    let boot : Boot := { manager := s.boot.manager, spi := s.boot.spi, sel := s.boot.sel, pon := s.boot.pon }
    let n := { n with regs := s.regs.filter fun p => keptReg p.1, mem := s.mem.filter fun p => keptMem p.1, ext := s.ext, tb := s.tb,
                      boot := boot }
    (n.setF FOOT_STAT_ENTRIES (s.f FOOT_STAT_ENTRIES)).strapped

/-- A reset with its source and supply recorded (R476, R510). -/
def State.resetBy (s : State) (src mon : Nat) : State :=
  let s := s.afterReset false
  ((s.setF BOOT_RESET_SRC_SRC src).setF BOOT_RESET_SRC_MON mon).inc BOOT_RESET_SRC_RESETS

/-- Step 0 begins by itself. -/
def State.step0Begin (s : State) : State := { s with boot := { s.boot with last := 0 } }.stepBegin 0 mPRIMARY

/-- PORST_N_ASSERT (R476): with `power`, supplies were lost, and everything in PD_AON with them. -/
def execPorstNAssert (power : Bool) (s : State) : Out := .next (if power then s.afterReset true else s.resetBy 1 0)

/-- PORST_N_RELEASE (R478, R590): the straps are sampled and step 0 begins. -/
def execPorstNRelease (manager spi foot15 : Bool) (s : State) : Out :=
  .next (if s.boot.run.isSome || s.f BOOT_STATUS_NEXT != 1 || s.f (BOOT_LOG_RESULT 0) != 0 then s
    else ({ s with boot := { s.boot with manager := manager, spi := spi, sel := foot15 } }).strapped.step0Begin)

/-- SUPPLY_MONITOR_RESET (R593, R510): `mon` names the supply. -/
def execSupplyMonitorReset (mon : BitVec 4) (s : State) : Out :=
  .next (if 1 ≤ mon.toNat ∧ mon.toNat ≤ 6 then (s.resetBy 8 mon.toNat).step0Begin else s)

/-- A write of SYS_RESET (R32). -/
def State.sysReset (s : State) (v : Nat) : State :=
  if bits v 31 16 = 0xC4A7 ∧ bitAt v 0 then (s.resetBy 2 0).step0Begin else s

def execSysReset (v : BitVec 32) (s : State) : Out := .next (s.sysReset v.toNat)

/-- SECURITY_WATCHDOG_EXPIRE (R554): while it is enabled and the security core runs. -/
def execSecurityWatchdogExpire (s : State) : Out :=
  .next (if s.b SEC_WDOG_EN && s.secRuns then (s.resetBy 4 0).step0Begin else s)

end Sys2Proof.Machine
end

