-- ==== Sys2Proof/Machine/Security.lean ====
section
/-! DEFINITION. Firewall masks by lifecycle state, the hash engine, measurements, tamper and wipe, the security watchdog's kick, and the
recorder's windows, persistence and clear (spec/17_security_and_recorder.md R542, R546, R547, R551–R556, R558, R559). -/

namespace Sys2Proof.Machine
open Sys2Proof

/-! ## Masks (R542) -/

/-- Pages reached over the ring bus other than SEC and FWC, and the CLU, TILE and RT pages. -/
def maskPages : List Nat :=
  (Block.all.filter fun b => b != .sec && b != .fwc).flatMap fun b => (List.range b.info.pages).map fun i => b.base i / 0x1000

/-- The masks of the state in force are written and the firewall is locked. -/
def State.securityMasks (s : State) : State :=
  let end_ := !s.debugOk
  let s := s.setFwMask (Block.fwc.base 0 / 0x1000) (if end_ then 0x000007 else 0x000027)
  let no := fun (n : Nat) => n - bits n 5 5 * 32
  let s := if end_ then
      let s := maskPages.foldl (fun s p => s.setFwMask p (BitVec.ofNat 24 (no (fwResetAt p).toNat))) s
      let s := s.setF FWC_FWP_BUFMASK_WMASK (no 0xFFFF6F)
      (List.range 20).foldl (fun s w =>
        let r := regReset (FWC_FWW_RMASK_RMASK w).addr
        let wm := regReset (FWC_FWW_WMASK_WMASK w).addr
        (s.setF (FWC_FWW_RMASK_RMASK w) (no r.toNat)).setF (FWC_FWW_WMASK_WMASK w) (no wm.toNat)) s
    else s
  let s := ((List.range 12).map (· + 20)).foldl (fun s w => s.setF (FWC_FWW_SIZE_SIZE w) 0) s
  s.fwLock

/-- SECURITY_MASKS (R542). -/
def execSecurityMasks (s : State) : Out := .next (if s.secRuns && !s.b FWC_FW_LOCK_LOCK then s.securityMasks else s)

/-! ## The hash engine and the measurements (R546, R547) -/

/-- First address of a job area. -/
def jobArea (fw : Bool) : Nat := if fw then 0x3010FFFC0 else 0x30004FFC0

/-- The domain of a job area. -/
def jobDom (fw : Bool) : Nat := if fw then dFW else dSEC

/-- GO of an area is written. -/
def State.hashStart (s : State) (fw : Bool) (go : Nat) : State :=
  let s := State.stN 4 s (jobArea fw) go
  if go % 2 ^ 32 = 0 ∨ s.secure.jobs.contains fw then s else { s with secure := { s.secure with jobs := s.secure.jobs ++ [fw] } }

/-- HASH_JOB (R546). -/
def execHashJob (fw : Bool) (go : BitVec 32) (s : State) : Out :=
  .next (if s.domOn dSEC && s.domOn (jobDom fw) then s.hashStart fw go.toNat else s)

/-- A write of bytes at `a` may start a job: GO of an area that it covers holds a non-zero value. -/
def State.goWritten (s : State) (a n : Nat) : State :=
  [false, true].foldl (fun s fw =>
    if a < jobArea fw + 4 ∧ jobArea fw < a + n ∧ s.domOn dSEC then s.hashStart fw (s.ldN 4 (jobArea fw)) else s) s

/-- Bytes of measurement `m`. -/
def State.meas (s : State) (m : Nat) : List Nat := (List.range 8).flatMap fun w => bytesLE 4 (s.rd (SEC_MEAS m w).addr).toNat

/-- Digest of bytes, as bytes. -/
def digest (l : List Nat) : List Nat := bytesLE 32 (Config.shake256 l).toNat

/-- EXTEND of measurement `m` by a digest (R546). -/
def State.extend (s : State) (m : Nat) (d : List Nat) : State :=
  let v := Config.shake256 (s.meas m ++ d)
  (List.range 8).foldl (fun s w => s.wr (SEC_MEAS m w).addr (BitVec.ofNat 32 (v.toNat / 2 ^ (32 * w)))) s

/-- A measurement extended with the hash of bytes (R547). -/
def State.measure (s : State) (m : Nat) (l : List Nat) : State := s.extend m (digest l)

/-- A job completes: DIGEST and STATUS are written, GO is cleared, the job counted. One whose data waits for a held word goes on later. -/
def State.hashDone (s : State) (fw : Bool) : State :=
  let a := jobArea fw
  let addr := s.ldN 6 (a + 8)
  let len := s.ldN 8 (a + 16)
  let fl := s.ldN 4 (a + 24)
  let fin := fun (s : State) (st : Nat) =>
    (State.stN 4 (State.stN 4 { s with secure := { s.secure with jobs := s.secure.jobs.filter (· != fw) } } (a + 4) st) a 0).inc SEC_HASH_JOBS
  if bitAt fl 4 && fw then fin s 3
  else
    match s.engRead iENGINE addr len with
    | .done s .ok bs =>
      let d := digest bs
      let s := s.stBytes (a + 32) d
      let s := if bitAt fl 4 then s.extend (fl % 4) d else s
      fin s 1
    | .done s .. => fin s 2
    | .wait s => s

/-- HASH_JOB_DONE (R546): the areas are served in rotation, so either may be the one served. -/
def execHashJobDone (fw : Bool) (s : State) : Out := .next (if s.secure.jobs.contains fw then s.hashDone fw else s)

/-! ## Tamper (R551–R553) -/

/-- The wipe of the secure part (R395, R551, R553): the window, the security core memory, the key vault with its associations. -/
def State.secureWipe (s : State) : State :=
  let s := s.wipeWindow
  let s := (s.zeroMem 0x300010000 0x30004FFFF).zeroMem 0x300050000 0x300053FFF
  { s with secure := { s.secure with vault := none, jobs := s.secure.jobs.filter id },
           host := { s.host with rx := [], txa := [], txOn := false } }

/-- What every tamper event does (R553): its source latched and counted, the secure part wiped, TAMPER raised on the FWC page. -/
def State.tamperWipe (s : State) (src : Nat) : State :=
  let s := (s.setF SEC_TAMPER_SRC (s.f SEC_TAMPER_SRC ||| 2 ^ src)).setF SEC_TAMPER_SEEN 1
  ((s.inc SEC_TAMPER_WIPES).secureWipe).raise .fwc 0 1

/-- A tamper event other than a lifecycle transition: the security core stays held until the next whole reset. -/
def State.tamper (s : State) (src : Nat) : State :=
  let s := s.tamperWipe src
  let s := { s with secure := { s.secure with stuck := true } }
  if s.domOn dSEC then s.setCoreState 0 cHELD else s

/-- TAMPER_EVENT (R552, R553). TAMPER_N counts while PIN_EN = 1; a transition's event is part of step 8. -/
def execTamperEvent (src : BitVec 3) (s : State) : Out :=
  .next (if 4 ≤ src.toNat ∨ (src.toNat = 0 ∧ !s.b SEC_TAMPER_CFG_PIN_EN) then s else s.tamper src.toNat)

/-! ## The security watchdog (R554) -/

def State.secKick (s : State) : State := { s with secure := { s.secure with kick := s.tb.toNat } }

/-- SEC_WDOG_KICK (R554). -/
def execSecWdogKick (s : State) : Out := .next (if s.domOn dSEC then s.secKick else s)

/-! ## The recorder (R555, R556, R558, R559) -/

/-- The window records. -/
def windowIds : List Nat := [0x02, 0x03, 0x04, 0x05, 0x06] ++ (List.range 16).map (· + 8) ++ [0x1B, 0x1C, 0x1D, 0x1E, 0x20]

/-- Sample of a window record: the events of the window, of spikes per millisecond. -/
def State.windowSample (s : State) (id : Nat) : Nat :=
  let n := Map.get 0 s.recWin id
  if 8 ≤ id ∧ id < 0x18 then n / max 1 (s.f REC_CFG_WINDOW) else n

/-- RECORDER_WINDOW_END (R555). -/
def State.windowEnd (s : State) : State :=
  let s := windowIds.foldl (fun s id => s.recSample id (s.windowSample id)) s
  { s with recWin := [] }

def execRecorderWindowEnd (s : State) : Out := .next (if s.recActive then s.windowEnd else s)

/-- The older persistent copy is written whole, or the write fails (R558). -/
def State.persist (s : State) (ok : Bool) : State :=
  if !ok || !s.domOn dKILN then (s.inc REC_STAT_PFAIL).raise .recd 0 4
  else
    let k := s.kparts
    let seqOf := fun (c : Option RecCopy) => (c.map RecCopy.seq).getD 0
    let toB := match k.copyA, k.copyB with
      | some a, some b => newer a.seq b.seq
      | some _, none => true
      | none, _ => false
    let seq := ((if toB then seqOf k.copyA else seqOf k.copyB) + 1) % 65536
    let c : RecCopy := { seq := seq, minutes := (s.rd REC_MINUTES.addr).toNat, cycles := (s.rd REC_CYCLES.addr).toNat, recs := s.recs }
    let s := s.setF REC_STAT_COPY (bn toB)
    if toB then { s with kparts := { k with copyB := some c } } else { s with kparts := { k with copyA := some c } }

/-- RECORDER_PERSIST (R558): `ok`: every row write completed OK. -/
def execRecorderPersist (ok : Bool) (s : State) : Out :=
  .next (if s.domOn dREC && s.en .recd 0 && s.f REC_CFG_PERSIST != 0 then s.persist ok else s)

/-- OPERATING_MINUTE (R556). -/
def execOperatingMinute (s : State) : Out := .next (s.wr REC_MINUTES.addr (s.rd REC_MINUTES.addr + 1))

/-- REC_CLR (R559): the right KEY and GO. -/
def State.recorderClear (s : State) (v : Nat) : State :=
  if bits v 31 16 = 0xC1EA ∧ bitAt v 0 then
    { s with recs := [], recWin := [], kparts := { s.kparts with copyA := none, copyB := none } }
  else s

def execRecClr (v : BitVec 32) (s : State) : Out := .next (if s.domOn dREC then s.recorderClear v.toNat else s)

end Sys2Proof.Machine
end

