-- ==== Sys2Proof/Machine/RegRead.lean ====
section
/-! DEFINITION. Reads of register pages (R9, R10, R530, R564–R568): which registers are views of other state, and what a read changes. -/

namespace Sys2Proof.Machine
open Sys2Proof

/-- The power domain of a page (R562). -/
def pageDom (b : Block) (i : Nat) : Nat :=
  match b with
  | .sec => dSEC
  | .recd => dREC
  | .host => dHOST
  | .csi => dCSI
  | .aer => dCSI
  | .t1s => dT1S
  | .gpio => dT1S
  | .kiln => dKILN
  | .tie => dTIE
  | .mem => memDom i
  | .clu => dCLU i
  | .tile => dCLU (clusterOf i)
  | .rt => mortarDom i
  | _ => dAON

/-- An access to the page is served: its domain reads ON and its clock runs, and a TILE page belongs to a tile that is there and not
retired (R575). -/
def State.pageServes (s : State) (b : Block) (i : Nat) : Bool :=
  s.domServes (pageDom b i) && (b != .tile || s.tileUp i)

/-- A wythe's routers are initialised (R275): its mortar is on and step 5 has ended in success. -/
def State.mortarReady (s : State) (east : Bool) : Bool :=
  s.domOn (if east then dMTE else dMTW) && (s.f (BOOT_LOG_RESULT 5) == rOK || s.f (BOOT_LOG_RESULT 5) == rALT)

/-- Packets of a class in a router (R273), at most 255. -/
def State.inflight (s : State) (r : Nat) (c : Class) : Nat :=
  min 255 (s.flights.filter fun f => f.at_ == r && !f.bridge && f.pkt.cls == some c).length

/-- TILE registers that are views (R120–R132, R233, R312). -/
def State.tileView (s : State) (t o cur : Nat) : Nat :=
  match o with
  | 0x040 => t + clusterOf t * 2 ^ 14 + bn (isEast t) * 2 ^ 18
  | 0x044 => putBits cur 7 0 (s.tile t).step.toNat
  | 0x050 =>
    let p := s.curParity t
    putBits (putBits (putBits cur 19 16 (s.coldOut t)) 15 8 ((s.tile t).half (p + 1)).length) 7 0 ((s.tile t).half p).length
  | 0x210 => putBits cur 28 28 (bn (s.tilePassive t))
  | 0x2C4 => putBits cur 31 31 (bn (s.tile t).plOk)
  | _ => cur

/-- RT registers that are views (R271, R273). -/
def State.rtView (s : State) (r o cur : Nat) : Nat :=
  match o with
  | 0x040 => r + clusterOf r * 2 ^ 14 + bn (isEast r) * 2 ^ 18 + gwCode r * 2 ^ 24
  | 0x04C => s.cmbUsed r + s.sinkReason r * 2 ^ 29 + bn (s.sinkReason r != 0) * 2 ^ 31
  | 0x050 => s.inflight r .ev + s.inflight r .rq * 2 ^ 8 + s.inflight r .rp * 2 ^ 16 + s.inflight r .cl * 2 ^ 24
  | 0x054 => s.inflight r .mg
  | _ => cur

/-- CLU registers that are views (R475): a wait-set position whose slot is not open reads as not valid (R465). -/
def State.cluView (s : State) (c o cur : Nat) : Nat :=
  match o with
  | 0x414 => s.hodDbgStat c
  | 0x418 => s.hodDbgHead c
  | 0x41C => ((s.cluster c).slot (s.f (CLU_HOD_DBG_IDX_SLOT c))).gen
  | 0x430 => s.hodFree c
  | o =>
    if o = 0x440 ∨ o = 0x450 ∨ o = 0x460 ∨ o = 0x470 then putBits cur 0 0 (bn (!(s.wsetReady c ((o - 0x440) / 16)).isEmpty))
    else if 0x440 ≤ o ∧ o < 0x480 ∧ (o % 16 = 4 ∨ o % 16 = 8) then
      (List.range 4).foldl (fun v i => if ((s.cluster c).slot (bits v (8 * i + 6) (8 * i))).opened then v else putBits v (8 * i + 7) (8 * i + 7) 0)
        cur
    else cur

/-- PWR registers that are views (R517, R535). -/
def State.pwrView (s : State) (o cur : Nat) : Nat :=
  if o = 0x048 then putBits cur 30 30 (bn s.frozen)
  else if 0x100 ≤ o ∧ o < 0x2E0 ∧ o % 16 = 0 then
    let d := (o - 0x100) / 16
    putBits (putBits cur 31 31 (bn (s.domOn d))) 30 30 (bn (s.implicit d))
  else cur

/-- CLK_CLUc as it reads (R522, R536): RUN while the domain is on and its PLL is locked, APPLIED the slower of the wythe's applied level and LEVEL. -/
def State.clkView (s : State) (o cur : Nat) : Nat :=
  if 0x080 ≤ o ∧ o < 0x0C0 then
    let c := (o - 0x080) / 4
    putBits (putBits cur 31 31 (bn (s.domServes (dCLU c)))) 9 8 (max (s.f (levelApp (clusterEast c))) (s.f (CLK_CLU_LEVEL c)))
  else cur

/-- The value a register shows at decoded offset `o`: its stored fields, WO and WP fields as 0, with what the register derives from
other state. -/
def State.regView (s : State) (ini : Nat) (b : Block) (i o : Nat) : Nat :=
  let cur := (s.rd (b.base i + o)).toNat
  let cur := (b.fieldsAt o).foldl (fun a f => if f.acc = .wo ∨ f.acc = .wp then putBits a f.hi f.lo 0 else a) cur
  if o = 0x000 then b.info.type * 65536 + i % 256 * 256 + 1
  else if o = 0x00C then
    bn (s.actv b i) + 2 * bn (s.draining b i) + 4 * bn (!s.en b i) + 8 * bn (s.b (PAGE_FAULT b i))
  else if o < 0x040 then cur
  else
    match b with
    | .tile => s.tileView i o cur
    | .rt => s.rtView i o cur
    | .clu => if o = 0x328 ∧ i ≠ 0 then 0 else s.cluView i o cur
    | .mtr =>
      if o = 0x040 then
        bn (s.wytheDrained false) + 2 * bn (s.wytheDrained true) + 4 * bn (s.mortarReady false) + 8 * bn (s.mortarReady true)
      else cur
    | .tmr =>
      match o with
      | 0x040 => s.tb.toNat % 2 ^ 32
      | 0x044 => s.tb.toNat / 2 ^ 32
      | 0x048 => (Map.get (0 : BitVec 32) s.snaps ini).toNat
      | 0x410 => s.ctl.step.toNat % 2 ^ 32
      | _ => cur
    | .pwr => s.pwrView o cur
    | .clk => s.clkView o cur
    | .fwc =>
      if o = 0x050 then (s.fwMask (s.f FWC_FWP_IDX_PAGE)).toNat
      else if o = 0x05C then putBits cur 3 0 s.host.msgs.length
      else cur
    | .recd => if 0x400 ≤ o ∧ o < 0x600 then s.recWindow (o - 0x400) else cur
    | .tie =>
      if 0x100 ≤ o ∧ i ≠ 0 then 0
      else if o = 0x040 then putBits cur 18 18 (bn (s.tieDrained i))
      else if o = 0x074 then (s.tieAt i).out.length
      else cur
    | .csi =>
      if o = 0x05C then (s.mapEntry i).toNat
      else if o = 0x06C then min (2 ^ 24 - 1) (s.sport i).spilled
      else cur
    | .aer => if o = 0x054 ∨ o = 0x0D4 then (s.mapEntry (4 + o / 0xC0)).toNat else cur
    | _ => cur

/-- RC fields of a register return to their reset values (R9). -/
def State.clearRc (s : State) (b : Block) (i o : Nat) : State :=
  (b.fieldsAt o).foldl (fun (s : State) f => if f.acc = .rc then s.setF ⟨b.base i + o, f.hi, f.lo⟩ f.rst else s) s

/-- What a read of a TILE register does besides RC (R61, R288, R311, R391): its value and the state. -/
def State.tileReadHook (s : State) (t o v : Nat) : Nat × State :=
  if o = 0x2B8 then let r := s.dirRead t; (r.1.toNat, r.2)
  else if o = 0x2C0 then let r := s.dirtyRead t; (r.1.toNat, r.2)
  else if o = 0x310 then let r := s.parLogRead t; (r.1.toNat, r.2)
  else if o = 0x0A0 then let r := s.drawFree; (r.1.toNat % 2 ^ 32, r.2)
  else if 0x500 ≤ o ∧ o < 0x580 ∧ o % 8 = 0 then (v, s.convRead t ((o - 0x500) / 8))
  else (v, s)

/-- CSI_LINK (R419): a disabled port shows no lane. What the sensor's lanes do is no command, so the fields are free while enabled. -/
def State.csiLink (s : State) (k : Nat) : Nat × State :=
  if s.en .csi k then let r := s.drawFree; (r.1.toNat &&& 0xC000000F, r.2) else (0, s)

/-- T1S_STAT (R413, R422): a coordinator that transmits keeps PLCA cycles running; whether another node's run is the bus's matter. -/
def State.plcaUp (s : State) (p : Nat) : Nat × State :=
  if !s.portUp (6 + p) || !s.b (T1S_CFG_PLCA_EN p) then (0, s)
  else if s.f (T1S_CFG_NODE_ID p) = 0 ∧ s.b (T1S_CFG_TX_EN p) then (2 ^ 31, s)
  else let r := s.drawFree; (r.1.toNat &&& 0x80000000, r.2)

/-- HOST_PHY (R425, R447): the PHY's signal quality is told by no command, so SQI is free while the link is up. -/
def State.hostPhy (s : State) (v : Nat) : Nat × State :=
  if s.b HOST_PHY_LINK then let r := s.drawFree; (putBits v 2 0 (r.1.toNat % 8), r.2) else (v, s)

/-- A read of the register at decoded offset `o` of a page that is served: the word and the state after. -/
def State.regRead (s : State) (ini : Nat) (b : Block) (i o : Nat) : BitVec 32 × State :=
  let v := s.regView ini b i o
  let r : Nat × State :=
    match b with
    | .tile => s.tileReadHook i o v
    | .clu =>
      if 0x600 ≤ o ∧ o < 0x680 ∧ o % 32 = 4 then
        let s := s.mseSumLo i ((o - 0x604) / 32)
        ((s.rd (CLU_MSE_SUM_LO i ((o - 0x604) / 32)).addr).toNat, s)
      else if 0x440 ≤ o ∧ o < 0x480 ∧ o % 16 = 12 then let r := s.wsetSel i ((o - 0x440) / 16); (r.2, r.1)
      else (v, s)
    | .tmr =>
      if o = 0x040 then (v, s.tbLoRead ini)
      else if o = 0x410 then (v, s.stepLoRead)
      else if 0x100 ≤ o ∧ o < 0x300 ∧ o % 32 = 0x10 then (v, s.tmrCapRead ((o - 0x100) / 32))
      else (v, s)
    | .csi => if o = 0x05C then (v, s.mapStep i) else if o = 0x060 then s.csiLink i else (v, s)
    | .t1s => if o = 0x054 then s.plcaUp i else (v, s)
    | .host => if o = 0x044 then s.hostPhy v else (v, s)
    | .aer => if o = 0x054 then (v, s.mapStep 4) else if o = 0x0D4 then (v, s.mapStep 5) else (v, s)
    | _ => (v, s)
  (BitVec.ofNat 32 r.1, r.2.clearRc b i o)

end Sys2Proof.Machine
end

