-- ==== Sys2Proof/Machine/RegAccess.lean ====
section
/-! DEFINITION. Writes of register pages (R9, R10, R407, R564–R572), disabling and enabling a block, and the whole access to a
register page (R27, R453, R566–R568, R575). -/

namespace Sys2Proof.Machine
open Sys2Proof

/-! ## Disable, force, enable (R571, R572) -/

/-- Requests that a memory channel holds. -/
def State.memHeld (s : State) (n : Nat) : List MemReq := s.memq.filter fun q => q.chan == n

/-- The reply to a request of a memory channel leaves by its gateway; none where it finds no room. -/
def State.memReply (s : State) (n : Nat) (q : MemReq) (st : Status) (d : List (BitVec 64)) : Option State :=
  s.inject (mgwRouter (n / 6)) .gw
    (match q.data with
     | some _ => .writeAck (rspOf q.head st)
     | none => .readRsp (rspOf q.head st) d)

/-- The requests a channel still holds are answered DOMAIN_OFF and counted (R371); the replies that find no room leave later. -/
def State.memRefuse (s : State) (n : Nat) : State :=
  let k := ((s.memHeld n).filter fun q => q.res.isNone).length
  let s := (s.add (DISCARD_COUNT .mem n) k)
  let s := { s with memq := s.memq.map fun (q : MemReq) => if q.chan = n ∧ q.res.isNone then { q with res := some (.domainOff, []) } else q }
  (s.memHeld n).foldl (fun s q =>
    match s.memReply n q (q.res.getD (.domainOff, [])).1 (q.res.getD (.domainOff, [])).2 with
    | some s' => { s' with memq := s'.memq.erase q }
    | none => s) s

/-- The work that a draining CLU page waits for is done (R578): no cold unit outstanding and every tile at EN = 0. -/
def State.cluIdle (s : State) (c : Nat) : Bool :=
  s.f (CLU_COLD_OUT_UNITS c) == 0 && (clusterTiles c).all fun t => !s.en .tile t

/-- EN reads 0 and DRAINING clears. -/
def State.blockOff_ (s : State) (b : Block) (i : Nat) : State := (s.setF (PAGE_EN b i) 0).setF (PAGE_DRAINING b i) 0

/-- A draining block completes where the work its chapter names is done (R571). -/
def State.blockCheck (s : State) (b : Block) (i : Nat) : State :=
  if !s.draining b i then s
  else
    match b with
    | .tile => s.tileDrainCheck i
    | .tie => if s.tieIdle i then s.tieOff i else s
    | .host => s.hostCheck
    | .mem => if (s.memHeld i).isEmpty then s.blockOff_ .mem i else s
    | .clu => if s.cluIdle i then s.blockOff_ .clu i else s
    | .rt => if s.rtBusy i then s else s.blockOff_ .rt i
    | .spi => if s.spi.queue.isEmpty then s.blockOff_ .spi i else s
    | .csi => s.portCheck b i
    | .aer => s.portCheck b i
    | .t1s => s.portCheck b i
    | _ => s.blockOff_ b i

/-- EN = 0 written to an active block (R571, step 1). -/
def State.blockDisable (s : State) (b : Block) (i : Nat) : State :=
  if !s.actv b i then s
  else
    match b with
    | .tile => s.tileDisable i
    | .tie => s.tieDisable i
    | .rt => s.rtDisable i
    | .host => s.hostDisable
    | .kiln => s.kilnDisable
    | .csi => s.portDisable b i
    | .aer => s.portDisable b i
    | .t1s => s.portDisable b i
    | .mem => (s.setF (PAGE_DRAINING .mem i) 1).blockCheck .mem i
    | .clu => (s.setF (PAGE_DRAINING .clu i) 1).blockCheck .clu i
    | .spi => (s.setF (PAGE_DRAINING .spi i) 1).blockCheck .spi i
    | .gpio => (s.blockOff_ .gpio i).gpioSync
    | _ => s.blockOff_ b i

/-- The forced path (R571, steps 2 and 3): the remaining work is discarded, DRAIN_FORCED set and the disable completed. -/
def State.blockForce (s : State) (b : Block) (i : Nat) : State :=
  let s := s.raise b i 30
  match b with
  | .tile => s.tileForce i
  | .tie => s.tieForce i
  | .host => s.hostForce
  | .kiln => (s.kilnAbandon true).kilnDisable
  | .csi => s.portForce b i
  | .aer => s.portForce b i
  | .t1s => s.portForce b i
  | .mem => (s.memRefuse i).blockOff_ .mem i
  | .clu =>
    let ts := (clusterTiles i).filter fun t => s.en .tile t
    let s := ts.foldl (fun s t => (s.raise .tile t 30).tileForce t) s
    (s.add (DISCARD_COUNT .clu i) ts.length).blockOff_ .clu i
  | .spi =>
    let n := s.spi.queue.length
    ((({ s with spi := { s.spi with queue := [], await := none, readLeft := 0 } }).setF SPI_STAT_BUSY 0).add (DISCARD_COUNT .spi i) n).blockOff_ .spi i
  | _ => s.blockOff_ b i

/-- EN = 1 written to an idle block (R572), with the checks of its chapter. -/
def State.blockEnable (s : State) (b : Block) (i : Nat) : State :=
  if s.en b i then s
  else
    match b with
    | .tile => s.tileEnable i
    | .host => s.hostEnable
    | .kiln => s.kilnEnable
    | .crc => s.crcEnable i
    | .csi => s.portEnable b i
    | .aer => s.portEnable b i
    | .t1s => s.portEnable b i
    | .gpio => (s.setF (PAGE_EN .gpio i) 1).gpioSync
    | _ => s.setF (PAGE_EN b i) 1

/-- A write of CTRL (R571, R572 and the header statements of the blocks). -/
def State.ctrlWrite (s : State) (b : Block) (i v : Nat) : State :=
  let (en, force) := (bitAt v 0, bitAt v 1 && b.info.force)
  if b.info.enFixed then s
  else
    let s :=
      if s.draining b i then (if force then s.blockForce b i else s)
      else if s.en b i then (if force then s.blockForce b i else if en then s else s.blockDisable b i)
      else if en then s.blockEnable b i else s
    if b = .tie ∧ bitAt v 2 ∧ s.en .tie i then s.sendToken i
    else s

/-- The interrupt bits of a page: ORPHAN lies on TIE0 and WIPED on CLU0 alone (R343, R401). -/
def pageInts (b : Block) (i : Nat) : Nat :=
  match b with
  | .tie => if i = 0 then b.info.ints else b.info.ints &&& 0xFFFFFFBF
  | .clu => if i = 0 then b.info.ints else b.info.ints &&& 0xFFFFDFFF
  | _ => b.info.ints

/-! ## Plain writes (R9, R10, R569) -/

/-- A write of a register with no meaning of its own: each field by its access code. RWD fields take it only where `fields` says
that configuration is open, and a rejected write is reported. -/
def State.plainWriteIf (s : State) (b : Block) (i o v : Nat) (cfg : Bool) : State :=
  let a := b.base i + o
  let cur := (s.rd a).toNat
  let fs := b.fieldsAt o
  let new := fs.foldl (fun n (f : FieldRow) =>
    match f.acc with
    | .rw => putBits n f.hi f.lo (bits v f.hi f.lo)
    | .rwd => if cfg then putBits n f.hi f.lo (bits v f.hi f.lo) else n
    | .w1c => putBits n f.hi f.lo (bits cur f.hi f.lo - (bits cur f.hi f.lo &&& bits v f.hi f.lo))
    | _ => n) cur
  let s' := s.wr a (BitVec.ofNat 32 new)
  if !cfg && fs.any fun f => f.acc == .rwd && bits v f.hi f.lo != bits cur f.hi f.lo then s'.cfgReject b i o else s'

/-- The same by the page's EN (R569). -/
def State.plainWrite (s : State) (b : Block) (i o v : Nat) : State := s.plainWriteIf b i o v (!s.en b i)

/-- A register of a routing table (R407): written only while EN = 0 or the gateway is held; any other write is ignored, and
reported as an RWD rejection where it would change the value (R569). -/
def State.tableWrite (s : State) (b : Block) (i o v : Nat) (open_ : Bool) : State :=
  let s' := s.plainWriteIf b i o v true
  if open_ then s' else if s'.rd (b.base i + o) = s.rd (b.base i + o) then s else s.cfgReject b i o

/-- Add each 16-bit half of `v` to a pair of counters that the firmware counts by writes (R169, R313). -/
def State.countWrite (s : State) (hi lo : Loc) (v : Nat) : State := (s.add hi (v / 65536)).add lo (v % 65536)

/-! ## Registers with a meaning of their own -/

/-- BOOT registers (R478–R483, R509). -/
def State.bootWrite (s : State) (o v : Nat) : State :=
  match o with
  | 0x040 => s.bootCmd v
  | 0x04C => s.recClear v
  | 0x050 => s.baseWrite 0 v
  | 0x054 => s.baseWrite 1 v
  | 0x058 => s.baseWrite 2 v
  | 0x05C => s.baseWrite 3 v
  | 0x068 =>
    let s := if bitAt v 0 then s.footEnter else s
    if bitAt v 1 then s.footLeave else s
  | o => if 0x100 ≤ o then s.recWrite ((o - 0x100) / 4) (BitVec.ofNat 32 v) else s.plainWrite .boot 0 o v

/-- TMR registers (R199, R227, R230, R529–R533): a write to channel 0 is ignored while the step controller owns it. -/
def State.tmrWrite (s : State) (o v : Nat) : State :=
  if 0x100 ≤ o ∧ o < 0x120 ∧ s.stepOwns 0 then s
  else
  match o with
  | 0x054 => s.tbOffset (BitVec.ofNat 32 v)
  | 0x05C => s.tmrArmMulti (v % 65536)
  | 0x400 => s.stepCtrl v
  | 0x41C => s.startHi v
  | o =>
    let s := s.plainWrite .tmr 0 o v
    if 0x100 ≤ o ∧ o < 0x300 ∧ o % 32 = 0 then
      let k := (o - 0x100) / 32
      let s := if bitAt v 1 then s.tmrStop k else s
      if bitAt v 0 then s.tmrArm k else s
    else s

/-- SEC registers (R552, R554). -/
def State.secWrite (s : State) (o v : Nat) : State :=
  match o with
  | 0x048 => s.plainWrite .sec 0 o (if s.fuse.lc = 1 ∨ s.fuse.lc = 4 then v else v ||| 1)
  | 0x04C =>
    s.plainWrite .sec 0 o (if (s.fuse.lc = 3 ∨ s.fuse.lc = 5) ∧ s.b SEC_WDOG_EN then v % 2 ^ 31 + 2 ^ 31 else v)
  | 0x050 => if bitAt v 0 then s.secKick else s
  | o => s.plainWrite .sec 0 o v

/-- FWC registers (R454–R459, R472, R474). -/
def State.fwcWrite (s : State) (o v : Nat) : State :=
  let locked := s.b FWC_FW_LOCK_LOCK
  if o = 0x048 then (if bitAt v 0 then s.fwLock else s)
  else if o = 0x050 then
    (if locked ∨ pageOf (s.f FWC_FWP_IDX_PAGE * 0x1000) = none then s else s.setFwMask (s.f FWC_FWP_IDX_PAGE) (BitVec.ofNat 24 v))
  else if o = 0x060 ∨ (0x400 ≤ o ∧ o < 0x600) then (if locked then s else s.plainWrite .fwc 0 o v)
  else if 0x100 ≤ o ∧ o < 0x14C then (if bitAt v 0 then s.coreRelease ((o - 0x100) / 4) else s)
  else if 0x200 ≤ o ∧ o < 0x24C then
    let k := (o - 0x200) / 4
    let s := if bitAt v 0 then s.kick k else s
    if bitAt v 1 then s.crashBegin k 3 else s
  else s.plainWrite .fwc 0 o v

/-- CLU registers (R62, R169, R195, R313, R392–R394, R461, R465). -/
def State.cluWrite (s : State) (c o v : Nat) : State :=
  let cfg := !s.en .clu c
  let rwd := fun (cur : Nat) (g : State → State) =>
    if cfg then g s else if cur = v then s else s.cfgReject .clu c o
  match o with
  | 0x20C => if bitAt v 0 then s.coldAge c else s
  | 0x234 => s.countWrite (CLU_PROMO_STAT_DEMOTED c) (CLU_PROMO_STAT_PROMOTED c) v
  | 0x280 => if bitAt v 31 then s.wr (CLU_THR_FAULT c).addr (regReset (CLU_THR_FAULT c).addr) else s
  | 0x2A8 => s.countWrite (CLU_KILN_STAT_ABANDONED c) (CLU_KILN_STAT_SEALED c) v
  | 0x31C =>
    let cur := (s.rd (CLU_RETIRE_BANK c).addr).toNat
    if cfg then s.retireShm c (v % 65536) else if cur % 65536 = v % 65536 then s else s.cfgReject .clu c o
  | 0x320 => rwd (s.rd (CLU_RETIRE_T0 c).addr).toNat fun s => if s.retireOk c 0 v then s.retireTile c 0 v else s
  | 0x324 => rwd (s.rd (CLU_RETIRE_T1 c).addr).toNat fun s => if s.retireOk c 1 v then s.retireTile c 1 v else s
  | 0x328 => if c = 0 then s.secWinWrite v else s
  | 0x408 => s.hodCmd c v
  | o =>
    if 0x440 ≤ o ∧ o < 0x480 then s.readyEdge (s.plainWrite .clu c o v) c
    else if 0x600 ≤ o ∧ o < 0x680 ∧ o % 32 = 0 then s.mseWrite c ((o - 0x600) / 32) v
    else s.plainWrite .clu c o v

/-- TILE registers (R50, R60, R311, R384, R392, R400). -/
def State.tileRegWrite (s : State) (t o v : Nat) : State :=
  let cfg := !s.en .tile t
  if o = 0x484 then s.lfsrWrite t v
  else if o = 0x490 then s.statClr t (v % 65536)
  else if o = 0x2B8 then s.dirWrite t (BitVec.ofNat 32 v)
  else if o = 0x30C then
    let s := if bitAt v 30 then s.pendDone t else s
    if bitAt v 29 then s.pendFail t else s
  else if o = 0x368 ∧ cfg then s.retireSyn t (v % 256)
  else if 0x328 ≤ o ∧ o < 0x348 ∧ cfg then s.retireRegion t ((o - 0x328) / 4) v
  else s.plainWrite .tile t o v

/-- T1S registers (R407, R416). -/
def State.t1sWrite (s : State) (p o v : Nat) : State :=
  if (0x100 ≤ o ∧ o < 0x180) ∨ (0x200 ≤ o ∧ o < 0x300) then s.tableWrite .t1s p o v (s.tableOpen (6 + p))
  else
    let s := s.plainWrite .t1s p o v
    if 0x800 ≤ o ∧ o % 256 = 8 ∧ bitAt v 15 then s.actSend p ((o - 0x800) / 256) else s

/-- TIE registers (R347): the chip-wide ones lie on TIE0 alone, and a worker's torus is read-only. -/
def State.tieWrite (s : State) (p o v : Nat) : State :=
  if 0x100 ≤ o ∧ p ≠ 0 then s
  else if o = 0x100 then
    (if s.isManager then (s.plainWrite .tie 0 o v).setF (TIE_TORUS_SET 0) 1 else s)
  else
    let s := s.plainWrite .tie p o v
    if o = 0x104 then s.orphanSync else s

/-- RT registers: clearing CMB_EN releases the PSUMs the router holds (R257). -/
def State.rtWrite (s : State) (r o v : Nat) : State :=
  let s' := s.plainWrite .rt r o v
  if s.b (RT_CFG_CMB_EN r) && !s'.b (RT_CFG_CMB_EN r) then s'.psumRelease r else s'

/-- A write of the word `v` to the register at decoded offset `o` of a page that is served. -/
def State.regWrite (s : State) (b : Block) (i o v : Nat) : State :=
  if o = 0x008 then s.ctrlWrite b i v
  else if o = 0x010 then s.withLine b i fun s => s.plainWrite b i o v
  else if o = 0x014 then s.withLine b i fun s => s.plainWrite b i o (v &&& pageInts b i)
  else if o = 0x018 then s.withLine b i fun s => s.setF (INT_STATUS b i) (s.f (INT_STATUS b i) ||| (v &&& pageInts b i))
  else if o < 0x040 then s.plainWrite b i o v
  else
    match b with
    | .sys => if o = 0x04C then s.sysReset v else s.plainWrite .sys i o v
    | .boot => s.bootWrite o v
    | .pwr =>
      if o = 0x048 then s.levelWrite v
      else if 0x100 ≤ o ∧ o < 0x2E0 ∧ o % 16 = 4 then s.vset ((o - 0x104) / 16) v
      else if 0x100 ≤ o ∧ o < 0x2E0 ∧ o % 16 = 8 then s.vclr ((o - 0x108) / 16) v
      else
        let s := s.plainWrite .pwr i o v
        if o = 0x040 then s.refSync else s
    | .tmr => s.tmrWrite o v
    | .sec => s.secWrite o v
    | .recd => if o = 0x054 then s.recorderClear v else s.plainWrite .recd i o v
    | .host =>
      if o = 0x050 then (if bitAt v 16 then s.unbind else s)
      else if o = 0x05C then s.plainWrite .host i o (if s.b HOST_SEC_REQUIRE then v % 2 ^ 31 + 2 ^ 31 else v)
      else s.plainWrite .host i o v
    | .csi => if o = 0x05C then s.mapPut i (BitVec.ofNat 32 v) else s.plainWrite .csi i o v
    | .aer =>
      if o = 0x054 then s.mapPut 4 (BitVec.ofNat 32 v)
      else if o = 0x0D4 then s.mapPut 5 (BitVec.ofNat 32 v)
      else s.plainWrite .aer i o v
    | .t1s => s.t1sWrite i o v
    | .gpio =>
      if o = 0x048 then s.gpioSet (v % 65536) else if o = 0x04C then s.gpioClr (v % 65536)
      else (s.plainWrite .gpio i o v).gpioSync
    | .kiln =>
      if 0x100 ≤ o ∧ o < 0x180 ∧ o % 8 = 4 then s.ringTail ((o - 0x104) / 8) (v % 65536) else s.plainWrite .kiln i o v
    | .tie => s.tieWrite i o v
    | .fwc => s.fwcWrite o v
    | .mem => if o = 0x06C then s.fillGo i v else s.plainWrite .mem i o v
    | .clu => s.cluWrite i o v
    | .mtr => if o = 0x044 then s.injHold v else s.plainWrite .mtr i o v
    | .tile => s.tileRegWrite i o v
    | .rt => s.rtWrite i o v
    | _ => s.plainWrite b i o v

/-! ## The access (R27, R453, R566, R568, R575) -/

/-- A 4-byte read of local address `a` in a register page, at its target: the word, the outcome. The low two address bits are ignored. -/
def State.pageRead (s : State) (ini a : Nat) : State × Status × BitVec 32 :=
  match pageOf a with
  | none => (s, .unmapped, 0)
  | some (b, i) =>
    if s.pageServes b i then let r := s.regRead ini b i (b.decodeOff (a % 0x1000)); (r.2, .ok, r.1) else (s, .domainOff, 0)

/-- A 4-byte write. -/
def State.pageWrite (s : State) (a : Nat) (v : BitVec 32) : State × Status :=
  match pageOf a with
  | none => (s, .unmapped)
  | some (b, i) => if s.pageServes b i then (s.regWrite b i (b.decodeOff (a % 0x1000)) v.toNat, .ok) else (s, .domainOff)

/-- The router at which an initiator's accesses enter the mortar: a control core's at its cluster's centre, else the SYS gateway's. -/
def iniRouter (ini : Nat) : Nat := if iCLU 0 ≤ ini ∧ ini ≤ iCLU 15 then centreRouter (ini - iCLU 0) 0 else sysRouter

/-- The way of an initiator's access to a register page is closed (R19, R27, R269). -/
def State.pageShut (s : State) (ini a : Nat) : Option State := s.pathRefuses (iniRouter ini) (s.place a)

/-- A 4-byte read by an initiator, checked by the firewall where it is made. -/
def State.pageReadBy (s : State) (ini a : Nat) : State × Status × BitVec 32 :=
  if pageOf a = none then (s, .unmapped, 0)
  else if !s.fwAllows ini a false then (s.fwRefuse ini a false, .denied, 0)
  else
    match s.pageShut ini a with
    | some s => (s, .domainOff, 0)
    | none => s.pageRead ini a

/-- A 4-byte write by an initiator. -/
def State.pageWriteBy (s : State) (ini a : Nat) (v : BitVec 32) : State × Status :=
  if pageOf a = none then (s, .unmapped)
  else if !s.fwAllows ini a true then (s.fwRefuse ini a true, .denied)
  else
    match s.pageShut ini a with
    | some s => (s, .domainOff)
    | none => s.pageWrite a v

/-- REGISTER_WRITE (R569). -/
def execRegisterWrite (ini : BitVec 5) (addr : BitVec 26) (v : BitVec 32) (s : State) : Out :=
  .next (s.pageWriteBy ini.toNat addr.toNat v).1

/-- RC_READ (R9): a read of a register; its RC fields clear. -/
def execRcRead (ini : BitVec 5) (addr : BitVec 26) (s : State) : Out := .next (s.pageReadBy ini.toNat addr.toNat).1

/-- W1C_WRITE (R9): a write of ones to W1C bits. -/
def execW1cWrite (ini : BitVec 5) (addr : BitVec 26) (v : BitVec 32) (s : State) : Out :=
  .next (s.pageWriteBy ini.toNat addr.toNat v).1

/-- A page number of the table of R562 and what a command on its header does there, where the page is served. -/
def State.onPage (s : State) (page : Nat) (g : Block → Nat → State → State) : State :=
  match pageOf (page * 0x1000) with
  | some (b, i) => if s.pageServes b i then g b i s else s
  | none => s

/-- INT_SET (R564). -/
def execIntSet (page : BitVec 14) (v : BitVec 32) (s : State) : Out :=
  .next (s.onPage page.toNat fun b i s => s.regWrite b i 0x018 v.toNat)

/-- INT_ENABLE_WRITE (R574). -/
def execIntEnableWrite (page : BitVec 14) (v : BitVec 32) (s : State) : Out :=
  .next (s.onPage page.toNat fun b i s => s.regWrite b i 0x014 v.toNat)

/-- BLOCK_DISABLE (R571): EN = 0 written to the page's CTRL. -/
def execBlockDisable (page : BitVec 14) (s : State) : Out :=
  .next (s.onPage page.toNat fun b i s => if b.info.enFixed then s else s.blockDisable b i)

/-- BLOCK_DRAIN_DONE (R571). -/
def execBlockDrainDone (page : BitVec 14) (s : State) : Out := .next (s.onPage page.toNat fun b i s => s.blockCheck b i)

/-- DRAIN_TIMEOUT_EXPIRE (R571): a limit of 0 never expires. -/
def execDrainTimeoutExpire (page : BitVec 14) (s : State) : Out :=
  .next (s.onPage page.toNat fun b i s =>
    if s.draining b i && b.info.force && s.f (DRAIN_TIMEOUT b i) != 0 then s.blockForce b i else s)

/-- FORCE (R571): without effect while IDLE, and on pages that have no FORCE. -/
def execForce (page : BitVec 14) (s : State) : Out :=
  .next (s.onPage page.toNat fun b i s => if b.info.force && s.en b i then s.blockForce b i else s)

/-- BLOCK_ENABLE (R572). -/
def execBlockEnable (page : BitVec 14) (s : State) : Out :=
  .next (s.onPage page.toNat fun b i s => if s.draining b i || b.info.enFixed then s else s.blockEnable b i)

/-- The register is one of the retirement registers (R392). -/
def retirementReg (a : Nat) : Bool :=
  match pageOf a with
  | some (.tile, _) => let o := Block.tile.decodeOff (a % 0x1000); (decide (0x328 ≤ o) && decide (o < 0x348)) || o == 0x368
  | some (.clu, _) => let o := Block.clu.decodeOff (a % 0x1000); o == 0x31C || o == 0x320 || o == 0x324
  | _ => false

/-- RETIREMENT_WRITE (R392). -/
def execRetirementWrite (ini : BitVec 5) (addr : BitVec 26) (v : BitVec 32) (s : State) : Out :=
  .next (if retirementReg addr.toNat then (s.pageWriteBy ini.toNat addr.toNat v).1 else s)

/-- The register reaches a routing table of R407. -/
def tableReg (a : Nat) : Bool :=
  match pageOf a with
  | some (.csi, _) => Block.csi.decodeOff (a % 0x1000) == 0x05C
  | some (.aer, _) => Block.aer.decodeOff (a % 0x1000) == 0x054 || Block.aer.decodeOff (a % 0x1000) == 0x0D4
  | some (.t1s, _) =>
    let o := Block.t1s.decodeOff (a % 0x1000)
    (decide (0x100 ≤ o) && decide (o < 0x180)) || (decide (0x200 ≤ o) && decide (o < 0x300))
  | _ => false

/-- MAP_TABLE_WRITE (R407). -/
def execMapTableWrite (ini : BitVec 5) (addr : BitVec 26) (v : BitVec 32) (s : State) : Out :=
  .next (if tableReg addr.toNat then (s.pageWriteBy ini.toNat addr.toNat v).1 else s)

/-- MAP_DATA_ACCESS (R403): a read (`v` = none) or a write of the map entry IDX of port `p`, a CSI port (0 to 3) or an AER port (4, 5). -/
def execMapDataAccess (ini : BitVec 5) (p : BitVec 4) (v : Option (BitVec 32)) (s : State) : Out :=
  .next (
    let p := p.toNat
    if 6 ≤ p then s
    else
      match v with
      | none => (s.pageReadBy ini.toNat (mapData p).addr).1
      | some v => (s.pageWriteBy ini.toNat (mapData p).addr v).1)

end Sys2Proof.Machine
end

