-- ==== Sys2Proof/Machine/Delivery.lean ====
section
/-! DEFINITION. Requests at their targets, replies at their requesters, memory channels at work, broadcast loads and held PSUMs
(spec/07_mortar_fabric.md R239–R242, R248, R257; spec/10_external_memory.md R357–R359, R371; spec/14_firmware_and_hods.md R451). -/

namespace Sys2Proof.Machine
open Sys2Proof

/-- The initiator a request on its way within the chip carries (R453), told by where it came from: over a tie, from a thread (its tags
are 0 to 15), from a core's hod port, from a tile's refetch or the cold-fetch engine (the other tags of a local port), else from the
responder. -/
def reqIni (h : ReqHead) (tie : Bool) : Nat :=
  if tie then iREMOTE
  else if h.tag.toNat < 16 ∧ !h.sgw then iTHREAD
  else if 0x60 ≤ h.tag.toNat % 128 ∧ h.tag.toNat % 128 < 0x73 then coreIni (h.tag.toNat % 128 - 0x60)
  else if !h.sgw then iENGINE
  else iHOST

/-- What a request at its target comes to: answered with a reply, held by a memory channel, or waiting on a held word. -/
inductive Target
  | answer (s : State) (st : Status) (d : List (BitVec 64))
  | held (s : State)
  | wait (s : State)

/-- A read performed at its target (R242, R357, R375, R568). -/
def State.targetRead (s : State) (ini : Nat) (h : ReqHead) : Target :=
  let (a, n) := (reqAt h, sizeBytes h.size)
  match s.place a with
  | .page .. =>
    if h.size ≠ 0 then .answer s .unmapped []
    else let r := s.pageRead ini a; .answer r.1 r.2.1 [r.2.2.setWidth 64]
  | .ext c l _ =>
    if s.memUp c then .held { s with memq := s.memq ++ [{ chan := c, line := l, head := h }] } else .answer s .domainOff []
  | _ =>
    match s.memRead a n with
    | .done s st bs => .answer s st (byteFlits n bs)
    | .wait s => .wait s

/-- A write performed at its target. -/
def State.targetWrite (s : State) (h : ReqHead) (d : List (BitVec 64)) : Target :=
  let (a, n) := (reqAt h, sizeBytes h.size)
  match s.place a with
  | .page .. =>
    if h.size ≠ 0 then .answer s .unmapped []
    else let r := s.pageWrite a (BitVec.ofNat 32 (d.getD 0 0).toNat); .answer r.1 r.2 []
  | .ext c l _ =>
    if s.memUp c then .held { s with memq := s.memq ++ [{ chan := c, line := l, head := h, data := some d }] }
    else .answer s .domainOff []
  | .fw _ =>
    match s.memWrite a (flitBytes n d) with
    | .done s .ok _ => .answer (s.goWritten a n) .ok []
    | .done s st _ => .answer s st []
    | .wait s => .wait s
  | _ =>
    match s.memWrite a (flitBytes n d) with
    | .done s st _ => .answer s st []
    | .wait s => .wait s

/-- A reply leaves the router that delivered its request; where the router is gone (the access reset the chip) nothing leaves. None: the
reply finds no room. -/
def State.sendReply (s : State) (h : ReqHead) (p : Packet) : Option State :=
  if !s.routerOn h.dtile.toNat then some s else s.inject h.dtile.toNat (if h.dgw then .gw else .loc) p

/-- A request at its target, answered (R241, R242). None: it stays where it is, since its reply has no room; a request that waits on a
held word stays too, with the word's hold begun. -/
def State.serve (s : State) (ini : Nat) (pk : Packet) : Option State × State :=
  match pk with
  | .readReq h =>
    match s.targetRead ini h with
    | .answer s' st d => (s'.sendReply h (.readRsp (rspOf h st) (if st = .ok then d else [])), s)
    | .held s' => (some s', s)
    | .wait s' => (none, s')
  | .writeReq h d =>
    match s.targetWrite h d with
    | .answer s' st _ => (s'.sendReply h (.writeAck (rspOf h st)), s)
    | .held s' => (some s', s)
    | .wait s' => (none, s')
  | .hodMsg h op svc d => (s.hodMsg h op.toNat svc.toNat d, s)
  | _ => (some s, s)

/-- A request that a command brings to its target directly: checked as its initiator's, then served; where it must wait it stands at
its router as a delivered packet does. -/
def State.arriveReq (s : State) (ini : Nat) (h : ReqHead) (write : Bool) (pk : Packet) : State :=
  if h.dchip.toNat ≠ s.chipId ∨ !s.routerOn h.dtile.toNat then s
  else
    let refuse := fun (s : State) st =>
      (s.sendReply h (if write then .writeAck (rspOf h st) else .readRsp (rspOf h st) [])).getD s
    if s.place (reqAt h) = .unmapped then refuse s .unmapped
    else if !s.fwAllows ini (reqAt h) write then refuse (s.fwRefuse ini (reqAt h) write) .denied
    else
      match s.serve ini pk with
      | (some s', _) => s'
      | (none, s') =>
        { s' with flights := s'.flights ++
            [{ pkt := pk, at_ := h.dtile.toNat, inp := if h.dgw then .gw else .loc, lane := .x, escape := false }] }

/-- READ_REQ (R242). -/
def execReadReq (ini : BitVec 5) (h : ReqHead) (s : State) : Out := .next (s.arriveReq ini.toNat h false (.readReq h))

/-- WRITE_REQ (R242). -/
def execWriteReq (ini : BitVec 5) (h : ReqHead) (data : List (BitVec 64)) (s : State) : Out :=
  .next (s.arriveReq ini.toNat h true (.writeReq h data))

/-! ## Replies (R241) -/

/-- A reply at its requester: a thread's reply buffer, a core's hod port, a tile's refetch buffer, the cold-fetch engine, or a requester
outside the model. -/
def State.reply (s : State) (h : RspHead) (pk : Packet) (d : List (BitVec 64)) : State :=
  if h.dchip.toNat ≠ s.chipId then s
  else if h.tag.toNat < 16 ∧ !h.dgw then s.bufReply h.dtile.toNat h.tag.toNat h.status.toNat h.hstat.toNat d
  else if 0x60 ≤ h.tag.toNat % 128 ∧ h.tag.toNat % 128 < 0x73 then
    s.hpReply (h.tag.toNat % 128 - 0x60) (if h.status = 0 then h.hstat.toNat else hsUnreachable) d
  else if !h.dgw && h.tag.toNat == tagREFETCH then s.refetchRsp h.dtile.toNat h.status.toNat d
  else if !h.dgw && (coldPlace h.dtile.toNat h.tag.toNat).isSome then s.coldRsp h.dtile.toNat h.tag.toNat h.status.toNat d
  else { s with answers := s.answers ++ [pk] }

/-- READ_RSP (R241). -/
def execReadRsp (h : RspHead) (data : List (BitVec 64)) (s : State) : Out := .next (s.reply h (.readRsp h data) data)

/-- WRITE_ACK (R241). -/
def execWriteAck (h : RspHead) (s : State) : Out := .next (s.reply h (.writeAck h) [])

/-! ## Memory channels (R357–R359) -/

/-- The `k`-th request a channel holds, if no earlier one is for its line (R359). -/
def State.memNext (s : State) (n k : Nat) : Option MemReq :=
  (s.memHeld n)[k]?.bind fun q => if ((s.memHeld n).take k).any fun r => r.line == q.line then none else some q

/-- A request has been performed: its reply leaves and the channel drops it. No effect where the reply finds no room. -/
def State.memDone (s s0 : State) (n : Nat) (q : MemReq) (st : Status) (d : List (BitVec 64)) : State :=
  match s.memReply n q st d with
  | some s => ({ s with memq := s.memq.erase q }).blockCheck .mem n
  | none => s0

/-- Perform the `k`-th request of channel `n`, if it is of the kind named, and send its reply; one performed already has only its reply to
send. -/
def State.memPerform (s : State) (n k : Nat) (write e1 e2 : Bool) : State :=
  match s.memNext n k with
  | none => s
  | some q =>
    if q.data.isSome != write then s
    else
      match q.res with
      | some (st, d) => s.memDone s n q st d
      | none => let r := s.memAct n q e1 e2; r.1.memDone s n q r.2.1 r.2.2

/-- MEM_LINE_READ (R357). -/
def execMemLineRead (n : BitVec 6) (k : BitVec 8) (e1 e2 : Bool) (s : State) : Out :=
  .next (s.memPerform n.toNat k.toNat false e1 e2)

/-- MEM_LINE_WRITE (R358). -/
def execMemLineWrite (n : BitVec 6) (k : BitVec 8) (e1 e2 : Bool) (s : State) : Out :=
  .next (s.memPerform n.toNat k.toNat true e1 e2)

/-! ## Broadcast loads and held PSUMs -/

/-- A BCAST_LOAD copy at a cluster agent (R248, R451): written to the load window while the core is in LOAD, otherwise discarded and
counted. -/
def State.bcastLoad (s : State) (c offset : Nat) (d : List (BitVec 64)) : State :=
  if !s.domOn (dCLU c) then s
  else if s.coreState (3 + c) = cLOAD ∧ 8 * offset + 8 * d.length ≤ 0x40000 then
    (s.shmWrite c (8 * offset) (d.flatMap fun w => bytesLE 8 w.toNat)).1
  else s.inc (CLU_BCAST_DISC c)

/-- BCAST_LOAD_DELIVER (R451). -/
def execBcastLoadDeliver (c : BitVec 4) (offset : BitVec 24) (data : List (BitVec 64)) (s : State) : Out :=
  .next (s.bcastLoad c.toNat offset.toNat data)


end Sys2Proof.Machine
end

