-- ==== Sys2Proof/Machine/Loader.lean ====
section
/-! DEFINITION. Gleum containers: header, table, signatures, the checks of a load, the load of a network or of a checkpoint, and the
checkpoint that the firmware writes (spec/15_start_recovery_footing.md R487–R498, R503; spec/17_security_and_recorder.md R543–R545;
spec/08_learning_lifts_kiln.md R303). -/

namespace Sys2Proof.Machine
open Sys2Proof

/-! ## Reading a container -/

/-- Where a container lies: at a global address, with the initiator that reads it, or as bytes (the footing partition). -/
inductive CSrc
  | mem (ga : Nat) (ini : Nat)
  | part (l : List Nat)
deriving DecidableEq, Repr

/-- A section descriptor (R488). -/
structure Sect where
  type : Nat
  target : Nat
  dest : Nat
  off : Nat
  len : Nat
  dig : List Nat
deriving DecidableEq, Repr

/-- A container's header (R487) with its bytes and its descriptor table. -/
structure Gleum where
  hdr : List Nat
  kind : Nat
  total : Nat
  grade : Nat
  footClu : Nat
  firstStep : Nat
  sigOff : Nat
  sigLen : Nat
  sects : List Sect
deriving DecidableEq, Repr

/-- `n` bytes at offset `o` of a container; none where a read does not return OK. -/
def State.cRead (s : State) (src : CSrc) (o n : Nat) : State × Option (List Nat) :=
  match src with
  | .part l => (s, if o + n ≤ l.length then some ((l.drop o).take n) else none)
  | .mem ga ini =>
    match (s.engRead ini (ga + o) n).take with
    | (s, .ok, bs) => (s, some bs)
    | (s, _, _) => (s, none)

def Sect.parse (l : List Nat) : Sect :=
  { type := ofLE (slice l 0 2), target := ofLE (slice l 2 2), dest := ofLE (slice l 4 4), off := ofLE (slice l 8 8),
    len := ofLE (slice l 16 8), dig := slice l 32 32 }

/-- Load codes (R492). -/
def lcOK : Nat := 0x00
def lcMAGIC : Nat := 0x01
def lcVERSION : Nat := 0x02
def lcKIND : Nat := 0x03
def lcLENGTH : Nat := 0x04
def lcGRADE : Nat := 0x05
def lcPLACEMENT : Nat := 0x06
def lcDIGEST : Nat := 0x07
def lcSIGNATURE : Nat := 0x08
def lcLAYOUT : Nat := 0x09
def lcSECTION : Nat := 0x0A
def lcMEMORY : Nat := 0x0B
def lcFOOTING : Nat := 0x0C
def lcABANDONED : Nat := 0x0D

/-- TOTAL_LEN lies past populated memory. -/
def State.pastMemory (s : State) (src : CSrc) (total : Nat) : Bool :=
  match src with
  | .part l => decide (l.length < total)
  | .mem ga _ =>
    let (chip, a) := s.splitAddr ga
    chip == s.chipId && s.place (a + total - 1) == .unmapped

/-- Read and check header and table: MAGIC, VERSION, KIND (`kind`), LENGTH, GRADE, TABLE_DIGEST, in the order of R492. -/
def State.cOpen (s : State) (src : CSrc) (kind : Nat) : State × Nat × Option Gleum :=
  match s.cRead src 0 96 with
  | (s, none) => (s, lcMEMORY, none)
  | (s, some h) =>
    let nsect := ofLE (slice h 18 2)
    let total := ofLE (slice h 8 8)
    if ofLE (slice h 0 4) ≠ 0x55454C47 then (s, lcMAGIC, none)
    else if h.getD 4 0 ≠ 1 then (s, lcVERSION, none)
    else if ofLE (slice h 6 2) ≠ kind then (s, lcKIND, none)
    else if total < 96 + 64 * nsect ∨ s.pastMemory src total then (s, lcLENGTH, none)
    else
      match s.cRead src 96 (64 * nsect) with
      | (s, none) => (s, lcMEMORY, none)
      | (s, some tb) =>
        let g : Gleum := {
          hdr := h, kind := kind, total := total, grade := h.getD 16 0, footClu := h.getD 17 0,
          firstStep := ofLE (slice h 24 8), sigOff := ofLE (slice h 32 8), sigLen := ofLE (slice h 40 8),
          sects := (chunks 64 nsect tb).map Sect.parse }
        if g.sects.any fun x => decide (total < x.off + x.len) then (s, lcLENGTH, none)
        else if g.grade ≠ 0 ∧ g.grade ≠ s.f SYS_GRADE_GRADE then (s, lcGRADE, none)
        else if digest tb ≠ slice h 48 32 then (s, lcDIGEST, none)
        else (s, lcOK, some g)

/-! ## Signatures (R490, R543, R544, R539) -/

/-- Size of a signature. -/
def sigBytes : Nat := 29792

/-- The fused hash of a key (0 vendor, 1 integrator). -/
def State.keyHash (s : State) (key : Nat) : Option (BitVec 256) :=
  if key = 0 then some s.fuse.vkey else if key = 1 then s.fuse.ikey else none

/-- A signature entry is valid (R543). -/
def State.sigValid (s : State) (key : Nat) (sig pub msg : List Nat) : Bool :=
  match s.keyHash key with
  | some h => digest pub == bytesLE 32 h.toNat && Config.slhVerify pub msg sig
  | none => false

/-- Every signature a container carries is valid, and the keys in `need` are among them. -/
def State.sigsOk (s : State) (src : CSrc) (g : Gleum) (need : List Nat) : State × Bool :=
  if g.sigOff = 0 then (s, need.isEmpty)
  else
    match s.cRead src g.sigOff g.sigLen with
    | (s, none) => (s, false)
    | (s, some b) =>
      let n := ofLE (slice b 0 4)
      if n = 0 ∨ 2 < n ∨ g.sigLen < 4 + n * (4 + sigBytes) + 64 * n then (s, false)
      else
        let es := (List.range n).map fun i =>
          (ofLE (slice b (4 + i * (4 + sigBytes)) 4), slice b (8 + i * (4 + sigBytes)) sigBytes,
            slice b (4 + n * (4 + sigBytes) + 64 * i) 64)
        (s, es.all (fun e => s.sigValid e.1 e.2.1 e.2.2 g.hdr) && need.all fun k => es.any fun e => e.1 == k)

/-- Keys whose signature an image needs in the lifecycle state in force; END accepts none (R539). -/
def State.imageKeys (s : State) : List Nat := if s.fuse.lc = 3 ∧ s.fuse.ikey.isSome then [1] else []

/-- Keys whose signature a firmware package needs (R544). -/
def State.packageKeys (s : State) : List Nat := if 2 ≤ s.fuse.lc ∧ s.fuse.ikey.isSome then [0, 1] else [0]

/-- The security firmware accepts an image container (R545). A checkpoint is never signed. -/
def State.imageSigned (s : State) (src : CSrc) (g : Gleum) : State × Bool :=
  if g.kind = 4 then (s, true) else if s.fuse.lc = 5 then (s, false) else s.sigsOk src g s.imageKeys

/-! ## Checks of the sections (R489, R492) -/

/-- A section type is permitted in a KIND (R489). -/
def typePermitted (kind type : Nat) : Bool :=
  match type with
  | 0x01 => kind == 1 || kind == 3 || kind == 4
  | 0x02 => kind == 1 || kind == 3 || kind == 4
  | 0x03 => kind == 1 || kind == 3 || kind == 4
  | 0x04 => kind == 1 || kind == 3 || kind == 4
  | 0x05 => kind == 4
  | 0x10 => kind == 1 || kind == 4
  | 0x11 => kind == 1 || kind == 3 || kind == 4
  | 0x12 => kind == 1 || kind == 4
  | 0x13 => kind == 1 || kind == 4
  | 0x14 => kind == 1 || kind == 4
  | 0x15 => kind == 1
  | 0x20 => kind == 1 || kind == 3 || kind == 4
  | 0x40 => kind == 4
  | 0x41 => kind == 4
  | t => decide (0x30 ≤ t) && decide (t ≤ 0x33) && kind == 2

/-- Memory code of a tile section. -/
def sectMem (type : Nat) : Option Nat :=
  match type with
  | 1 => some 0
  | 2 => some 1
  | 3 => some 3
  | 5 => some 2
  | _ => none

/-- Bytes and first window offset of a tile memory. -/
def memSpan (m : Nat) : Nat × Nat :=
  match m with
  | 0 => (0x40000, 0)
  | 1 => (0x10000, 0x40000)
  | 2 => (0x10000, 0x50000)
  | _ => (0x8000, 0x60000)

/-- PLACEMENT (R492). -/
def State.misplaced (s : State) (x : Sect) : Bool :=
  let lost := fun c => bitAt (s.recWord 23) c
  if 1 ≤ x.type ∧ x.type ≤ 5 then
    decide (1024 ≤ x.target) || !s.tileGood x.target || s.tileRetired x.target || lost (clusterOf x.target) ||
      (match sectMem x.type with
       | some m => (tileWords ((memSpan m).2 + x.dest) x.len).any fun w => s.retiredWord x.target m w.1
       | none => false)
  else if 0x10 ≤ x.type ∧ x.type ≤ 0x15 then
    decide (16 ≤ x.target) || lost x.target ||
      (x.type == 0x10 && decide (0 < x.len) &&
        (List.range 16).any fun b => bitAt (s.f (CLU_RETIRE_BANK_BANK x.target)) b && decide (b ≤ shmBank (x.dest + x.len - 1)) &&
          decide (shmBank x.dest ≤ b))
  else false

/-- Pairs of a write list: page offset and value (R489). -/
def pairsOf (bs : List Nat) : List (Nat × Nat) :=
  (chunks 8 (bs.length / 8) bs).map fun l => (ofLE (slice l 0 4), ofLE (slice l 4 4))

/-- Entries of a DEV_REGS list: global address and value, 12 bytes each. -/
def devPairs (bs : List Nat) : List (Nat × Nat) :=
  (chunks 12 (bs.length / 12) bs).map fun l => (ofLE (slice l 0 6), ofLE (slice l 8 4))

/-- An offset names a register of a page of block `b`. -/
def isReg (b : Block) (o : Nat) : Bool := decide (o < 0x1000) && !(b.fieldsAt (b.decodeOff o)).isEmpty

/-- A global address names a register. -/
def isRegAddr (ga : Nat) : Bool := match pageOf (ga % 2 ^ 38) with | some (b, _) => isReg b (ga % 0x1000) | none => false

/-- SECTION (R492): past its target memory, or an entry that is no register. -/
def State.badSection (s : State) (x : Sect) (bs : List Nat) : Bool :=
  match sectMem x.type with
  | some m => decide ((memSpan m).1 < x.dest + x.len)
  | none =>
    match x.type with
    | 0x04 => x.len % 8 != 0 || (pairsOf bs).any fun p => !isReg .tile p.1
    | 0x10 => decide (x.dest < 0x50000) || decide (0x400000 < x.dest + x.len)
    | 0x11 => x.len % 8 != 0 || (pairsOf bs).any fun p => !isReg .clu p.1
    | 0x14 => decide (0 < x.len) &&
        s.place (s.f (CLU_COLD_BASE_BASE x.target) * 128 + x.dest + x.len - 1) == .unmapped
    | 0x20 => x.len % 12 != 0 || (devPairs bs).any fun p => !isRegAddr p.1
    | _ => false

/-- What STATE_LAYOUT holds (R489). -/
def State.layoutItems (s : State) : List Nat :=
  [false, true].flatMap (fun e =>
    let act := s.activeList e
    act ++ [act.length, (s.memList e).cw]) ++
    (List.range 48).map fun n => s.f (MEM_CRC_POLY_POLY n)

/-- The sections, each read, with the code of the first that fails a check. -/
def State.readSects (src : CSrc) (kind : Nat) : List (Sect × Nat) → State → List (Sect × List Nat) →
    State × Nat × Nat × List (Sect × List Nat)
  | [], s, acc => (s, lcOK, 0xFFFF, acc)
  | (x, i) :: r, s, acc =>
    if !typePermitted kind x.type then (s, lcKIND, i, [])
    else if s.misplaced x then (s, lcPLACEMENT, i, [])
    else
      match s.cRead src x.off x.len with
      | (s, none) => (s, lcMEMORY, i, [])
      | (s, some bs) =>
        if digest bs ≠ x.dig then (s, lcDIGEST, i, [])
        else if x.type = 0x41 ∧ bs ≠ Config.stateLayout s.layoutItems then (s, lcLAYOUT, i, [])
        else if s.badSection x bs then (s, lcSECTION, i, [])
        else State.readSects src kind r s (acc ++ [(x, bs)])

/-! ## The load (R491, R493, R303, R497) -/

/-- A write list of a page at local base `base`, performed by a control core. -/
def State.writeList (s : State) (ini base : Nat) (l : List (Nat × Nat)) : State :=
  l.foldl (fun s p => (s.pageWriteBy ini (base + p.1) (BitVec.ofNat 32 p.2)).1) s

/-- Bytes written to a tile memory with EN = 0. -/
def State.tilePut (s : State) (t off : Nat) (bs : List Nat) : State :=
  match s.tileWrite t off bs with
  | .done s _ _ => s
  | .wait s => s

/-- One section goes to its target. -/
def State.loadSect (s : State) (x : Sect) (bs : List Nat) : State :=
  match sectMem x.type with
  | some m => s.tilePut x.target ((memSpan m).2 + x.dest) bs
  | none =>
    match x.type with
    | 0x04 => s.writeList (iCLU (clusterOf x.target)) (Block.tile.base x.target) (pairsOf bs)
    | 0x10 => (s.shmWrite x.target x.dest bs).1
    | 0x11 => s.writeList (iCLU x.target) (Block.clu.base x.target) (pairsOf bs)
    | 0x12 => s.modCluster x.target fun k => { k with kmap := Config.kilnMap bs, kdigest := Config.shake256 bs, cdirty := [], kset := none }
    | 0x13 => s.modCluster x.target fun k => { k with cdir := Config.coldDir bs, promo := [] }
    | 0x14 => (s.stExt (s.f (CLU_COLD_BASE_BASE x.target) * 128 + x.dest) bs).1
    | _ => s

/-- DEV_REGS, written last; an entry of another chip goes there as a request (R27). -/
def State.loadDev (s : State) (bs : List Nat) : State :=
  (devPairs bs).foldl (fun s p =>
    if (s.splitAddr p.1).1 = s.chipId then (s.pageWriteBy iSCHED (p.1 % 2 ^ 38) (BitVec.ofNat 32 p.2)).1
    else (s.engFar (s.splitAddr p.1).1 4 true).take.1) s

/-- Tiles that a container's sections name, in order. -/
def tilesOf (l : List (Sect × List Nat)) : List Nat :=
  ((l.filter fun p => decide (1 ≤ p.1.type) && decide (p.1.type ≤ 5)).map fun p => p.1.target).eraseDups

/-- Clusters of which a section of a type is there. -/
def clustersOf (l : List (Sect × List Nat)) (type : Nat) : List Nat :=
  ((l.filter fun p => p.1.type == type).map fun p => p.1.target).eraseDups

/-- The staged image of a tile and TILE_PAR_IMG (R493). -/
def State.stage (s : State) (t stage : Nat) : State :=
  if stage = 0 then s.setF (TILE_PAR_IMG_VALID t) 0
  else
    let a := stage * 65536 + t * 0x50000
    let s := (s.stExt a (s.bytes 0x40000 (synBase t))).1
    let s := (s.stExt (a + 0x40000) (s.bytes 0x8000 (progBase t))).1
    (s.setF (TILE_PAR_IMG_BASE t) (stage + 5 * t)).setF (TILE_PAR_IMG_VALID t) 1

/-- The plastic rows of a cluster (R303). -/
def State.plasticRows (s : State) (c : Nat) (images : Bool) : State :=
  let x := s.cluster c
  let dirty := fun (s : State) => s.modCluster c fun k => { k with cdirty := k.kmap.map Prod.fst }
  if images || !s.actv .kiln 0 then dirty s
  else
    match s.kilnCopy c 0 with
    | none => dirty s
    | some r =>
      match s.rowRead r with
      | (s, none) => dirty s
      | (s, some seal_) =>
        if slice seal_ 8 32 ≠ bytesLE 32 x.kdigest.toNat then dirty s
        else x.kmap.foldl (fun s p => (s.kilnGet c p.1 (s.mine (s.blockAt p.2))).1) s

/-- The delta area of a tile is cleared, and TILE_STOP takes the first step (R303). -/
def State.tileReady (s : State) (t first : Nat) : State :=
  let s := (List.range (s.plWords t)).foldl (fun s v => (List.range (s.plW t)).foldl (fun s j => s.setDelta t (s.deltaAt t v j) 0) s) s
  (s.setF (TILE_STOP_LO t) first).setF (TILE_STOP_HI t) (first / 2 ^ 32)

/-- A checkpointed tile's accumulators are folded into M16 and cleared (R497). -/
def State.foldAcc (s : State) (t : Nat) : State :=
  (List.range 16384).foldl (fun s i =>
    let a := s.acc t i
    if a = 0 then s
    else
      let w := s.neu t i
      ((s.memSat t (m16 w + a)).setNeu t i (withM16 w (clamp16 (m16 w + a)))).setAcc t i 0) s

/-- Live registers of a tile that STATE_DEV holds (R497). -/
def liveRegs (t : Nat) : List Nat :=
  (List.range 16).map (fun n => (TILE_RSC_OUT t n).addr) ++ (List.range 16).map (fun n => (TILE_RSC_PSUM t n).addr) ++
    [(TILE_LFSR t).addr, (TILE_PL_MOD0 t).addr, (TILE_PL_MOD1 t).addr, (TILE_PL_LIFT t).addr, (TILE_PROMO_CFG t).addr]

/-- Values of STATE_DEV for the loaded tiles: each tile, its live registers and its directory; then the device's. -/
def State.devItems (s : State) (ts : List Nat) : List Nat :=
  ts.flatMap (fun t => t :: (liveRegs t).map (fun a => (s.rd a).toNat) ++ (List.range 1024).map fun i => ((s.tile t).dirAt i).toNat) ++
    [(s.rd TMR_STEP_BOUND.addr).toNat, s.ctl.account]

/-- Values of one tile restored. -/
def State.restoreTile (s : State) (l : List Nat) : State :=
  let t := l.getD 0 0 % 1024
  let s := (liveRegs t).zipIdx.foldl (fun s p => s.wr p.1 (BitVec.ofNat 32 (l.getD (1 + p.2) 0))) s
  s.modTile t fun x => (List.range 1024).foldl (fun x i => x.setDir i (BitVec.ofNat 32 (l.getD (38 + i) 0))) x

/-- STATE_DEV restored. -/
def State.restoreDev (s : State) (bs : List Nat) : State :=
  let l := Config.stateDevOf bs
  let n := (l.length - 2) / 1062
  let s := (chunks 1062 n l).foldl (fun s x => s.restoreTile x) s
  (s.wr TMR_STEP_BOUND.addr (BitVec.ofNat 32 (l.getD (1062 * n) 0))).setAccount (l.getD (1062 * n + 1) 0)

/-- Threads in start-up calibration (R494): TBL_MODE is set for each. -/
def State.calibrate (s : State) (l : List (Nat × Nat × Nat × Nat)) (first : Nat) : State :=
  let s := l.foldl (fun s e =>
    s.setF (TILE_RSC_TBL_TBL_MODE e.1) (s.f (TILE_RSC_TBL_TBL_MODE e.1) ||| 2 ^ (e.2.1 % 16))) s
  let cal := l.map fun e => ({ tile := e.1, thread := e.2.1 % 16, steps := e.2.2.1, lifts := e.2.2.2,
                               refine := bitAt (s.f (TILE_PL_REFINE_EN e.1)) (e.2.1 % 16), from_ := first } : Cal)
  { s with net := { s.net with cal := cal } }

/-- What the idle firmware does for calibration (R494): when the steps of the table phase have run, TBL_MODE clears and refinement is
switched on; when the lifts of the second phase have ended, the image's refinement bit is written. -/
def State.calOne (s : State) (k : Cal) : State :=
  let drop := fun (s : State) => { s with net := { s.net with cal := s.net.cal.filter (· != k) } }
  let bit := 2 ^ k.thread
  let put := fun (l : Loc) (on : Bool) (s : State) => s.setF l (if on then s.f l ||| bit else s.f l &&& (65535 - bit))
  let lifts := (s.cluster (clusterOf k.tile)).liftCount
  if !k.second then
    if k.from_ + k.steps ≤ s.ctl.step.toNat then
      let s := put (TILE_PL_REFINE_EN k.tile) true (put (TILE_RSC_TBL_TBL_MODE k.tile) false s)
      { s with net := { s.net with cal := s.net.cal.map fun x => if x = k then { k with second := true, from_ := lifts } else x } }
    else s
  else if k.from_ + k.lifts ≤ lifts then drop (put (TILE_PL_REFINE_EN k.tile) k.refine s)
  else s

def State.calTick (s : State) : State := if s.schedRuns then s.net.cal.foldl (fun s k => s.calOne k) s else s

/-- Sections to their targets, staged images, plastic rows, live state, DEV_REGS last. -/
def State.loadAll (s : State) (g : Gleum) (l : List (Sect × List Nat)) (ckpt images cal : Bool) (stage : Nat) : State :=
  let ts := tilesOf l
  let s := l.foldl (fun s p => s.loadSect p.1 p.2) s
  let s := ts.foldl (fun s t => s.stage t stage) s
  let s := (clustersOf l 0x12).foldl (fun s c => s.plasticRows c (ckpt || images)) s
  let s := ts.foldl (fun s t => s.tileReady t g.firstStep) s
  let s := if ckpt then ts.foldl (fun s t => s.foldAcc t) s else s
  let s := (l.filter fun p => p.1.type == 0x40).foldl (fun s p => s.restoreDev p.2) s
  let s := (l.filter fun p => p.1.type == 0x20).foldl (fun s p => s.loadDev p.2) s
  let s := { s with net := { tiles := ts, firstStep := g.firstStep, ready := true, starting := s.relay } }
  if cal && g.kind == 1 then s.calibrate ((l.filter fun p => p.1.type == 0x15).flatMap fun p => Config.calList p.2) g.firstStep else s

/-! ## A footing image (R503) -/

/-- Byte of a tile's synapse memory as the sections give it. -/
def synByteOf (l : List (Sect × List Nat)) (t a : Nat) : Nat :=
  ((l.filter fun p => p.1.type == 1 && p.1.target == t && decide (p.1.dest ≤ a) && decide (a < p.1.dest + p.2.length)).map
    fun p => p.2.getD (a - p.1.dest) 0).getLastD 0

/-- Value that the write lists of a tile leave at a register offset. -/
def tileRegOf (l : List (Sect × List Nat)) (t o : Nat) : Nat :=
  (((l.filter fun p => p.1.type == 4 && p.1.target == t).flatMap fun p => pairsOf p.2).filterMap
    fun p => if Block.tile.decodeOff p.1 = o then some p.2 else none).getLastD 0

/-- A cold row among the descriptors of a tile (R85). -/
def coldRow (l : List (Sect × List Nat)) (t : Nat) : Bool :=
  let cfg := tileRegOf l t 0x048
  (List.range (bits cfg 28 12 + (kslots (bits cfg 31 29)).1)).any fun e =>
    (Desc.ofWord (ofLE ((List.range 8).map fun b => synByteOf l t (64 * bits cfg 11 0 + 8 * e + b)))).cold

/-- A register that a footing image's DEV_REGS may write: the footing ports, the step controller, FOOT_CFG, the HOST output window. -/
def footReg (csi a : Nat) : Bool :=
  match pageOf a with
  | some (.host, _) => true
  | some (.csi, k) => k == csi
  | some (.tmr, _) => decide (0x400 ≤ Block.tmr.decodeOff (a % 0x1000))
  | some (.boot, _) => Block.boot.decodeOff (a % 0x1000) == 0x064
  | some (.rt, 0) => Block.rt.decodeOff (a % 0x1000) == 0x048
  | _ => false

/-- The conditions of R503. -/
def State.footingOk (s : State) (g : Gleum) (l : List (Sect × List Nat)) : Bool :=
  let c := s.footCluster
  let dev := (l.filter fun p => p.1.type == 0x20).flatMap fun p => devPairs p.2
  let csi := ((dev.filterMap fun p => if p.1 % 2 ^ 38 = FOOT_CFG.addr then some (bits p.2 29 28) else none).getLastD (s.f FOOT_CFG_CSI))
  decide (g.total ≤ 2 * 2 ^ 20) && g.footClu == c &&
    l.all (fun p =>
      if p.1.type ≤ 5 then clusterOf p.1.target == c
      else if p.1.type < 0x20 then p.1.target == c && p.1.type != 0x12 && p.1.type != 0x13 && p.1.type != 0x14
      else true) &&
    (tilesOf l).all (fun t => bits (tileRegOf l t 0x280) 28 15 == 0 && !bitAt (tileRegOf l t 0x3C0) 31 && !bitAt (tileRegOf l t 0x304) 31 &&
      !coldRow l t) &&
    l.any (fun p => p.1.type == 0x20) && dev.all fun p => footReg csi (p.1 % 2 ^ 38)

/-! ## NET_LOAD (R491, R492, R545) -/

/-- A network or checkpoint load's outcome: load code, index of the failing section, FIRST_STEP. -/
structure LoadAns where
  code : Nat
  index : Nat := 0xFFFF
  first : Nat := 0

/-- A container checked whole: header, signatures, sections. -/
def State.cCheck (s : State) (src : CSrc) (kind : Nat) : State × Nat × Nat × Option (Gleum × List (Sect × List Nat)) :=
  match s.cOpen src kind with
  | (s, code, none) => (s, code, 0xFFFF, none)
  | (s, _, some g) =>
    match s.imageSigned src g with
    | (s, false) => (s, lcSIGNATURE, 0xFFFF, none)
    | (s, true) =>
      match State.readSects src kind g.sects.zipIdx s [] with
      | (s, code, i, l) => if code = lcOK then (s, lcOK, 0xFFFF, some (g, l)) else (s, code, i, none)

/-- The load proper, with stepping held and every tile and port disabled. OPTIONS as in R491; `cal` of step 11 is bit 3. -/
def State.netLoad (s : State) (ga opts stage : Nat) : State × LoadAns :=
  let ckpt := bitAt opts 0
  let foot := bitAt opts 2
  match s.cCheck (.mem ga iSCHED) (if foot then 3 else if ckpt then 4 else 1) with
  | (s, code, i, none) => ({ s with net := if foot then s.net else {} }, { code := code, index := i })
  | (s, _, _, some (g, l)) =>
    if foot then
      if s.footingOk g l then
        match s.cRead (.mem ga iSCHED) 0 g.total with
        | (s, some bs) => ({ s with kparts := { s.kparts with footing := bs } }, { code := lcOK, first := g.firstStep })
        | (s, none) => (s, { code := lcMEMORY })
      else (s, { code := lcFOOTING })
    else
      let s := s.measure 1 g.hdr
      (s.loadAll g l ckpt (bitAt opts 1) (bitAt opts 3) stage, { code := lcOK, first := g.firstStep })

/-- Every tile and every port that is enabled is told to stop (R491, step 1). -/
def State.stopAll (s : State) : State :=
  let s := if s.isManager then s.runStop else s
  let s := (List.range 1024).foldl (fun s t => if s.en .tile t && s.tileUp t then s.tileDisable t else s) s
  let s := (List.range 4).foldl (fun s k => if s.domOn dCSI then s.portDisable .csi k else s) s
  let s := if s.domOn dCSI then s.portDisable .aer 0 else s
  let s := (List.range 4).foldl (fun s k => if s.domOn dT1S then s.portDisable .t1s k else s) s
  if s.hostOn then s.hostDisable else s

/-- Stepping is held and every tile and port reads EN = 0. -/
def State.allStopped (s : State) : Bool :=
  !(s.isManager && s.running) && (List.range 1024).all (fun t => !s.en .tile t) &&
    (List.range 4).all (fun k => !s.en .csi k && !s.en .t1s k) && !s.en .aer 0 && !s.en .host 0

/-! ## The checkpoint (R496, R497) -/

/-- A write list of every register of a page beyond its header that software writes (RW or RWD fields), with its values now. -/
def State.listOf (s : State) (b : Block) (i : Nat) : List Nat :=
  (b.regs.flatMap fun r => (List.range r.count).map fun k => (r.off + k * r.stride, r.fields)).flatMap fun p =>
    let w := p.2.filter fun f => f.acc == .rw || f.acc == .rwd
    if w.isEmpty then []
    else
      let v := (s.rd (b.base i + p.1)).toNat
      bytesLE 4 p.1 ++ bytesLE 4 (w.foldl (fun a f => putBits a f.hi f.lo (bits v f.hi f.lo)) 0)

/-- The sections of a checkpoint: type, target, DEST, bytes. -/
def State.ckptSects (s : State) : List (Nat × Nat × Nat × List Nat) :=
  let ts := s.net.tiles
  let cs := (ts.map clusterOf).eraseDups
  ts.flatMap (fun t =>
    [(1, t, 0, s.bytes 0x40000 (synBase t)), (2, t, 0, s.bytes 0x10000 (neuBase t)), (3, t, 0, s.bytes 0x8000 (progBase t)),
     (4, t, 0, s.listOf .tile t), (5, t, 0, s.bytes 0x10000 (accBase t))]) ++
  cs.flatMap (fun c =>
    [(0x10, c, 0x50000, s.bytes 0x3B0000 (shmBase c + 0x50000)), (0x11, c, 0, s.listOf .clu c),
     (0x12, c, 0, Config.kilnMapBytes (s.cluster c).kmap), (0x13, c, 0, Config.coldDirBytes (s.cluster c).cdir)]) ++
  [(0x40, 0, 0, Config.stateDev (s.devItems ts)), (0x41, 0, 0, Config.stateLayout s.layoutItems)]

/-- Descriptor bytes (R488). -/
def sectDesc (type target dest off : Nat) (bs : List Nat) : List Nat :=
  bytesLE 2 type ++ bytesLE 2 target ++ bytesLE 4 dest ++ bytesLE 8 off ++ bytesLE 8 bs.length ++ bytesLE 8 0 ++ digest bs

/-- Descriptors with offsets that follow one another from `off`. -/
def sectTable : List (Nat × Nat × Nat × List Nat) → Nat → List Nat
  | [], _ => []
  | (ty, tg, d, bs) :: r, off => sectDesc ty tg d off bs ++ sectTable r (off + bs.length)

/-- The container of KIND 4 that the firmware writes with FIRST_STEP = `step` (R487, R496). -/
def State.ckptBytes (s : State) (step : Nat) : List Nat :=
  let l := s.ckptSects
  let base := 96 + 64 * l.length
  let tb := sectTable l base
  let data := l.flatMap fun x => x.2.2.2
  bytesLE 4 0x55454C47 ++ [1, 0] ++ bytesLE 2 4 ++ bytesLE 8 (base + data.length) ++ [s.f SYS_GRADE_GRADE, 0] ++
    bytesLE 2 l.length ++ bytesLE 4 0 ++ bytesLE 8 step ++ bytesLE 8 0 ++ bytesLE 8 0 ++ digest tb ++ bytesLE 16 0 ++ tb ++ data

end Sys2Proof.Machine
end

