-- ==== Sys2Proof/Machine/BootSteps.lean ====
section
/-! DEFINITION. Bring-up steps 5, 6 and 8 to 12, the lifecycle command, footing entry (spec/15_start_recovery_footing.md R479–R486,
R491, R495, R500–R506; spec/10_external_memory.md R354, R362–R364; spec/17_security_and_recorder.md R539–R544, R547, R548, R554;
spec/08_learning_and_kiln.md R302, R305). -/

namespace Sys2Proof.Machine
open Sys2Proof

/-! ## Step 5: the mortar -/

/-- BOOT_STEP5_MORTAR (R479): the routers, the collar bridges and the collective tree hold nothing. -/
def State.bootStep5 (s : State) : State := ({ s with flights := [], psums := [], counts := [] }).stepEnd 5 rOK 0

def execBootStep5Mortar (s : State) : Out := .next (if s.stepIs 5 then s.bootStep5 else s)

/-! ## Step 6: external memory (R354, R362–R364) -/

/-- A channel's outcome goes into the record (R363): a failure at 1,800 MT/s directs 1,200, one at 1,200 retires the channel; the register
fields whose reset values the record gives follow. -/
def State.chanRecord (s : State) (n : Nat) : State :=
  let k := 4 * (n % 8)
  let r := s.memRate n
  if s.f (MEM_STAT_STATE n) = 2 then s
  else if r = 0 then (s.recPut (16 + n / 8) (k + 3) k 1).setF (MEM_CFG_RATE n) 1
  else if r = 1 then (s.recPut (16 + n / 8) (k + 3) k 2).setF (MEM_CFG_RETIRE n) 1
  else s

/-- A channel trains: stored results that pass their verification are used; otherwise a full training finds delay codes, or fails in a
phase; neither the codes nor the phase is stated, and both are free. -/
def State.chanTrain (s : State) (stored vfail fail : Bool) (n : Nat) : State :=
  if !s.memTrains n then s.trainChan n 0 0 0
  else
    match if stored && !vfail then (s.kparts.training.find? fun p => p.1 == n).map Prod.snd else none with
    | some (t, d) => s.trainChan n 0 t d
    | none =>
      let (a, s) := s.drawFree
      let t := BitVec.ofNat 32 a.toNat &&& 0xFFFF0000
      let d := BitVec.ofNat 32 (a.toNat / 2 ^ 32)
      if fail then (s.trainChan n (1 + a.toNat % 4) 0 0).chanRecord n
      else
        let s := s.trainChan n 0 t d
        { s with kparts := { s.kparts with training := Map.insert n (t, d) (Map.erase s.kparts.training n) } }

/-- A reset group has a channel that trains. -/
def State.groupTrains (s : State) (g : Nat) : Bool := (List.range 6).any fun i => s.memTrains (6 * g + i)

/-- The training of every channel, with the active lists fixed at its end, and the result (R362). `vfail`, `fail`: channels whose
verification of stored results, and whose full training, does not pass. -/
def State.trainMemory (s : State) (stored : Bool) (vfail fail : Nat) : State × Nat :=
  let ts := (List.range 48).filter fun n => s.memTrains n
  let s := ((List.range 8).filter fun g => s.groupTrains g && !s.groupKept g).foldl (fun s g => s.loseGroup g) s
  let s := (List.range 48).foldl (fun s n => s.chanTrain stored (bitAt vfail n) (bitAt fail n) n) s
  let s := (s.fixActive false).fixActive true
  let up := ts.filter fun n => s.f (MEM_STAT_STATE n) == 2
  (s, if up.length = ts.length then rOK else if up.isEmpty then rFAILED else rPARTIAL)

/-- BOOT_STEP6_MEMORY (R362). -/
def State.bootStep6 (s : State) (vfail fail : Nat) : State :=
  let m := s.boot.method
  match s.trainMemory (m == mSTORED) vfail fail with
  | (s, r) => s.stepEnd 6 (if r = rOK then doneBy m else r) (if r = rFAILED then eHW else 0)

def execBootStep6Memory (vfail fail : BitVec 48) (s : State) : Out :=
  .next (if s.stepIs 6 then s.bootStep6 vfail.toNat fail.toNat else s)

/-! ## Step 8: lifecycle and firmware (R485, R539–R544, R547, R548) -/

/-- The key whose signature a transition needs (R539): 0 vendor, 1 integrator; none where it is not permitted. -/
def State.lcKey (s : State) (dst : Nat) : Option Nat :=
  let own := if s.fuse.ikey.isSome then 1 else 0
  match s.fuse.lc, dst with
  | 1, 2 => some 0
  | 1, 5 => some 0
  | 2, 3 => some own
  | 2, 5 => some own
  | 3, 4 => some own
  | 3, 5 => some own
  | 4, 3 => some 0
  | 4, 5 => some 0
  | _, _ => none

/-- The checks of a lifecycle command block (R541, step 2). -/
def State.lcOk (s : State) (b : List Nat) : Bool :=
  let key := ofLE (slice b 96 4)
  b.getD 6 0 == s.fuse.lc && s.lcKey (b.getD 7 0) == some key && ofLE (slice b 8 8) == s.fuse.uid &&
    s.sigValid key (slice b 164 sigBytes) (slice b 100 64) (slice b 0 96)

/-- The lifecycle part of the fuse shadow. -/
def State.lcShadow (s : State) : State :=
  let u := s.fuse
  ((s.setF SEC_LC_STATE u.lc).setF SEC_LC_DEBUG (bn (u.lc != 3 && u.lc != 5))).setF SEC_LC_IKEY (bn u.ikey.isSome)

/-- A command that passed: the secure part is wiped, the fuses are burned and read back (R541, step 3). -/
def State.lcApply (s : State) (b : List Nat) : State :=
  let h := ofLE (slice b 16 32)
  let s := s.tamperWipe 4
  let ikey := if s.fuse.lc = 1 ∧ b.getD 7 0 = 2 ∧ h ≠ 0 then some (BitVec.ofNat 256 h) else s.fuse.ikey
  (({ s with fuse := { s.fuse with lc := b.getD 7 0, ikey := ikey } }).lcShadow).measure 3 (slice b 0 96)

/-- The lifecycle command block below the package (R540, R541). False: the block fails its checks. -/
def State.lifecycle (s : State) : State × Bool :=
  let base := baseAddr (s.f BOOT_FW_BASE_BASE)
  if base < 65536 then (s, true)
  else
    match s.cRead (.mem (s.mine (base - 65536)) iSEC) 0 29956 with
    | (s, none) => (s, true)
    | (s, some b) =>
      if ofLE (slice b 0 4) ≠ 0x444D434C ∨ b.getD 7 0 = s.fuse.lc then (s, true)
      else if s.lcOk b then (s.lcApply b, true)
      else (s, false)

/-- Memory that a firmware section fills at most (R450, R485). -/
def fwSpan (type : Nat) : Nat :=
  match type with
  | 0x30 => 0x40000
  | 0x31 => 0x20000
  | 0x32 => 0x80000
  | _ => 0x40000

/-- The sections of a package, each read and checked; none where one fails. -/
def State.fwSects (src : CSrc) : List Sect → State → List (Sect × List Nat) → State × Option (List (Sect × List Nat))
  | [], s, acc => (s, some acc)
  | x :: r, s, acc =>
    if !typePermitted 2 x.type || decide (fwSpan x.type < x.len) then (s, none)
    else
      match s.cRead src x.off x.len with
      | (s, none) => (s, none)
      | (s, some bs) => if digest bs = x.dig then State.fwSects src r s (acc ++ [(x, bs)]) else (s, none)

/-- A section is copied to its core's memory; FW_CLU is kept in firmware shared memory (R485). -/
def State.fwCopy (s : State) (x : Sect) (bs : List Nat) : State :=
  match x.type with
  | 0x30 => s.stBytes 0x300010000 bs
  | 0x31 => s.stBytes 0x303000000 bs
  | 0x32 => s.stBytes 0x302000000 bs
  | _ => { s with secure := { s.secure with fwClu := bs } }

/-- The package is taken: copied, measured, the identity key derived, the three cores released with the security watchdog on. -/
def State.fwTake (s : State) (g : Gleum) (l : List (Sect × List Nat)) : State :=
  let s := (l.foldl (fun s p => s.fwCopy p.1 p.2) s).measure 0 g.hdr
  let s := { s with secure := { s.secure with vault := some s.fuse.secret } }
  let s := ([0, 1, 2].foldl (fun s k => s.coreStart k) s).setF SEC_WDOG_EN 1
  { s with secure := { s.secure with kick := s.tb.toNat } }

/-- The authentication of the package at BOOT_FW_BASE: 0, or the error. -/
def State.fwAuth (s : State) : State × Nat :=
  let src : CSrc := .mem (s.mine (baseAddr (s.f BOOT_FW_BASE_BASE))) iSEC
  match s.cRead src 0 96 with
  | (s, none) => (s, eNOFW)
  | _ =>
    match s.cOpen src 2 with
    | (s, c, none) => (s, if c = lcMAGIC then eNOFW else eAUTH)
    | (s, _, some g) =>
      if s.fuse.lc = 5 then (s, eAUTH)
      else
        match s.sigsOk src g s.packageKeys with
        | (s, false) => (s, eAUTH)
        | (s, true) =>
          match State.fwSects src g.sects s [] with
          | (s, none) => (s, eAUTH)
          | (s, some l) => (s.fwTake g l, 0)

/-- BOOT_STEP8_AUTH (R485, R541). A tamper event keeps the security core held, and with it this step (R553). -/
def State.bootStep8 (s : State) : State :=
  match s.lifecycle with
  | (s, false) => s.stepEnd 8 rFAILED eAUTH
  | (s, true) =>
    match s.fwAuth with
    | (s, 0) => s.stepEnd 8 rOK 0
    | (s, e) => s.stepEnd 8 rFAILED e

def execBootStep8Auth (s : State) : Out := .next (if s.stepIs 8 && !s.secure.stuck then s.bootStep8 else s)

/-! ## Step 9: cluster firmware (R486) -/

/-- A control core's region takes the firmware: an access that the bank does not take leaves it different. -/
def State.coreFill (s : State) (c : Nat) : State × Bool :=
  match s.shmWrite c 0 s.secure.fwClu with
  | (s, .ok) => (s, true)
  | (s, _) => (s, false)

/-- One cluster is loaded, checked and its core released. `uni`: by unicast at once; `differ`, `lost`: the region differs after the
broadcast, and after unicast. True: the cluster is kept. -/
def State.coreLoad (s : State) (c : Nat) (uni differ lost : Bool) : State × Bool :=
  let (s, ok) := (s.setCoreState (3 + c) cLOAD).coreFill c
  let again := uni || differ || !ok
  let s := if again && !uni then s.recPut 24 c c 1 else s
  if again && (lost || !ok) then (s.retireCluster c, false)
  else (s.coreRelease (3 + c), true)

/-- Every kept cluster with its domain on; the number retired. -/
def State.broadcastFw (s : State) (all : Bool) (differ lost : Nat) : State × Nat :=
  (s.keptClusters.filter fun c => s.domOn (dCLU c)).foldl (fun (r : State × Nat) c =>
    let (s, ok) := r.1.coreLoad c (all || bitAt (r.1.recWord 24) c) (bitAt differ c) (bitAt lost c)
    (s, if ok then r.2 else r.2 + 1)) (s, 0)

/-- The SYS gateway holds its broadcasts (R265, R275); the requests of a load by unicast alone keep flowing. -/
def State.bcastHeld (s : State) (m : Nat) : Bool := s.b MTR_INJ_HOLD_SYS && m != mALT

/-- The scheduler firmware may begin step 9 (R542, R459). -/
def State.bcastReady (s : State) : Bool := s.schedRuns && s.secRuns && s.b FWC_FW_LOCK_LOCK

/-- BOOT_STEP9_FW_BROADCAST (R486). -/
def State.bootStep9 (s : State) (differ lost : Nat) : State :=
  let m := s.boot.method
  let (s, n) := s.broadcastFw (m == mALT) differ lost
  s.stepEnd 9 (if n = 0 then doneBy m else rPARTIAL) 0

def execBootStep9FwBroadcast (differ lost : BitVec 16) (s : State) : Out :=
  .next (if s.stepIs 9 && s.bcastReady && !s.bcastHeld s.boot.method then s.bootStep9 differ.toNat lost.toNat else s)

/-! ## Step 10: the kiln (R302, R501) -/

/-- Footing triggers held since before step 10 act now, or are dropped where their condition has ended. `still`: bits 0 to 2 for the
triggers 0x3 to 0x5. -/
def State.heldTriggers (s : State) (still : Nat) : State :=
  let l := s.foot.held.filter fun c => bitAt still (c - 3)
  l.foldl (fun s c => s.footTrigger c) { s with foot := { s.foot with held := [] } }

/-- BOOT_STEP10_MOUNT. The held triggers act at the step's end, before the run goes on. -/
def State.bootStep10 (s : State) (still : Nat) : State :=
  let m := s.boot.method
  let (s, r, e) := if m = mSKIP then (s, rSKIPPED, 0) else if s.domOn dKILN then (s.kilnEnable, rOK, 0) else (s, rFAILED, eMOUNT)
  let s := (s.stepLog 10 m r e).recEntry 10 m r
  (if r = rFAILED then s else s.heldTriggers still).bootRunNext 10 r

def execBootStep10Mount (still : BitVec 3) (s : State) : Out :=
  .next (if s.stepIs 10 && s.schedRuns then s.bootStep10 still.toNat else s)

/-! ## Steps 11 and 12 (R491, R495) -/

/-- BOOT_STEP11_LOAD (R491). -/
def State.bootStep11 (s : State) : State :=
  let m := s.boot.method
  if s.b FOOT_STAT_ACTIVE then s.stepEnd 11 rFAILED eFOOTING
  else if m = mSKIP then s.stepEnd 11 rSKIPPED 0
  else if !s.secRuns then s.stepEnd 11 rFAILED eLOAD
  else
    let stage := s.f BOOT_STAGE_BASE_BASE
    let (s, a) := if m = mALT then s.stopAll.netLoad (s.mine (baseAddr (s.f BOOT_CKPT_BASE_BASE))) 9 stage
      else s.stopAll.netLoad (s.mine (baseAddr (s.f BOOT_IMG_BASE_BASE))) 8 stage
    if a.code = lcOK then s.stepEnd 11 (doneBy m) 0 else s.stepEnd 11 rFAILED eLOAD

def execBootStep11Load (s : State) : Out := .next (if s.stepIs 11 && s.schedRuns then s.bootStep11 else s)

/-- The step counter has reached the tile's TILE_STOP: the firmware may enable it (R495). -/
def State.stopReached (s : State) (t : Nat) : Bool :=
  decide (s.f (TILE_STOP_HI t) * 2 ^ 32 + s.f (TILE_STOP_LO t) ≤ s.ctl.step.toNat)

/-- The loaded tiles of this chip are enabled, each once the step counter has reached its TILE_STOP. -/
def State.enableTiles (s : State) : State :=
  let s := s.net.tiles.foldl (fun s t => if s.tileUp t && s.stopReached t then s.tileEnable t else s) s
  { s with net := { s.net with starting := s.net.tiles.any fun t => s.tileUp t && !s.stopReached t } }

/-- The step controller starts at `first`: TMR_STEP_START and RUN are written (R200). -/
def State.startFrom (s : State) (first : Nat) : State :=
  ((s.setF TMR_STEP_START_LO first).startHi (first / 2 ^ 32)).runStart

/-- NET_START (R495): from FIRST_STEP where no step has run since the load; otherwise a held step resumes. False: neither. -/
def State.netStart (s : State) : State × Bool :=
  if s.net.ready && !s.net.ran && !s.running && !s.relay then
    ((({ s with net := { s.net with starting := true } }).startFrom s.net.firstStep).enableTiles, true)
  else if s.ctl.held && !s.relay then (s.enableTiles.runStart, true)
  else (s, false)

/-- Where the counter has FIRST_STEP or a tile's TILE_STOP still to reach, the firmware enables the loaded tiles once it has (R495). -/
def State.startTick (s : State) : State :=
  if s.schedRuns && s.net.ready && s.net.starting && s.running && decide (s.net.firstStep ≤ s.ctl.step.toNat) then s.enableTiles
  else s

/-- BOOT_STEP12_START (R495): with step 11 skipped and nothing loaded there is no step to start. -/
def State.bootStep12 (s : State) : State :=
  if s.b FOOT_STAT_ACTIVE then s.stepEnd 12 rFAILED eFOOTING else s.netStart.1.stepEnd 12 rOK 0

def execBootStep12Start (s : State) : Out := .next (if s.stepIs 12 && s.schedRuns then s.bootStep12 else s)

/-! ## Footing entry (R502, R505, R506) -/

/-- The answer of a load, checkpoint or footing exit that a footing entry abandons (R507). -/
def State.abandonLong (s : State) : State :=
  match s.host.long with
  | none => s
  | some l =>
    let typ := ofBE (slice l.msg.bytes 2 2)
    if typ = 0x10 ∨ typ = 0x13 then
      let s := { s with host := { s.host with long := none } }
      if s.schedRuns then
        s.sendMsg (0x8000 + typ) l.msg.fseq (ofBE (slice l.msg.bytes 4 2)) 7
          ([lcABANDONED, 0, 0, 0] ++ bytesBE 2 0xFFFF ++ [0, 0] ++ bytesBE 8 0)
      else s
    else s

/-- The ports that footing does not keep are disabled with FORCE; every tie port goes DOWN. -/
def State.footPorts (s : State) : State :=
  let s := if s.domOn dTIE then [0, 1, 2, 3].foldl (fun s p => s.tieDown p 5) s else s
  let s := if s.domOn dCSI then
      (((List.range 4).filter fun k => k != s.f FOOT_CFG_CSI).foldl (fun s k => s.portForce .csi k) s).portForce .aer 0
    else s
  if s.domOn dT1S then (List.range 4).foldl (fun s k => s.portForce .t1s k) s else s

/-- The clusters: every other one is forced off; the footing cluster's domain drops with every bank off. -/
def State.footClusters (s : State) : State :=
  (List.range 16).foldl (fun s c => if s.domOn (dCLU c) then s.dropDomain (dCLU c) (c == s.footCluster) else s) s

/-- The footing wythe goes to P3; the other mortar stays at P3 only while it carries a gateway that footing keeps; memory goes off. -/
def State.footPower (s : State) : State :=
  let east := clusterEast s.footCluster
  let s := (((s.setF PWR_LEVEL_APP_W 3).setF PWR_LEVEL_APP_E 3).setF PWR_LEVEL_BUSY_W 0).setF PWR_LEVEL_BUSY_E 0
  let s := { s with power := { s.power with toW := none, toE := none } }
  let csiEast := decide (2 ≤ s.f FOOT_CFG_CSI)
  let keep := if east then s.domOn dHOST || (s.domOn dCSI && !csiEast) else s.domOn dCSI && csiEast
  let other := if east then dMTW else dMTE
  let s := if !keep && s.domOn other then s.dropDomain other else s
  [dMEMW, dMEME].foldl (fun s d => if s.domOn d then s.dropDomain d else s) s

/-- A write list performed by the footing loader. -/
def State.footList (s : State) (base : Nat) (l : List (Nat × Nat)) : State :=
  l.foldl (fun s p => (s.pageWrite (base + p.1) (BitVec.ofNat 32 p.2)).1) s

/-- One section of the footing image. -/
def State.footSect (s : State) (x : Sect) (bs : List Nat) : State :=
  match x.type with
  | 0x04 => s.footList (Block.tile.base x.target) (pairsOf bs)
  | 0x11 => s.footList (Block.clu.base x.target) (pairsOf bs)
  | 0x20 => s
  | _ => s.loadSect x bs

/-- The footing loader reads the partition and checks its digests; none: no valid image. -/
def State.footImage (s : State) : State × Option (Gleum × List (Sect × List Nat)) :=
  let src : CSrc := .part s.kparts.footing
  match s.cOpen src 3 with
  | (s, _, none) => (s, none)
  | (s, _, some g) =>
    match State.readSects src 3 g.sects.zipIdx s [] with
    | (s, code, _, l) => (s, if code = lcOK then some (g, l) else none)

/-- The image is written, DEV_REGS last; its tiles are enabled as the controller starts in manager mode. -/
def State.footStart (s : State) (g : Gleum) (l : List (Sect × List Nat)) : State :=
  let ts := tilesOf l
  let s := l.foldl (fun s p => s.footSect p.1 p.2) s
  let s := ts.foldl (fun s t => s.tileReady t g.firstStep) s
  let s := (l.filter fun p => p.1.type == 0x20).foldl (fun s p => s.footList 0 ((devPairs p.2).map fun q => (q.1 % 2 ^ 38, q.2))) s
  let s := s.measure 2 g.hdr
  let s := (s.setF TMR_STEP_STAT_RELAY 0).startFrom g.firstStep
  let s := ts.foldl (fun s t => if s.tileUp t then s.tileEnable t else s) s
  { s with foot := { s.foot with firstStep := g.firstStep } }

/-- Footing is unavailable (R506). -/
def State.footNone (s : State) : State :=
  let c := s.footCluster
  (s.setF FOOT_STAT_UNAVAIL 1).nFault 4 (3 + c) c

/-- N_FOOTING with the trigger (R443, R502). -/
def State.nFooting (s : State) : State := if s.schedRuns then s.notify 0x4001 [s.f FOOT_STAT_TRIGGER] else s

/-- Footing entry up to its image (R502): commits, row work, ports, long operation and clusters end, the network is forgotten, the footing
wythe goes to P3. -/
def State.footPrep (s : State) : State :=
  let s := { s with foot := { s.foot with entering := false } }
  let s := (List.range 1024).foldl (fun s t => if s.phase t = 2 ∧ s.tileUp t then s.commitAbandon t else s) s
  let s := ((if s.domOn dKILN then s.kilnAbandon false else s).footPorts.abandonLong).footClusters
  let s := { s with net := {}, host := { s.host with hello := false } }
  s.footPower

/-- Footing cannot be entered with cluster `c` (R506): retired, its core held, the kiln not mounted, or a supply fault that persists. -/
def State.footBad (s : State) (supply : Bool) : Bool :=
  let c := s.footCluster
  bitAt (s.recWord 23) c || s.coreState (3 + c) == cHELD || s.f (BOOT_LOG_RESULT 10) == rSKIPPED || supply

/-- The footing cluster rises, is voted for and starts from the image. -/
def State.footRun (s : State) (c : Nat) (g : Gleum) (l : List (Sect × List Nat)) : State :=
  let s := (s.riseDomain (if clusterEast c then dMTE else dMTW)).riseDomain (dCLU c)
  ((s.vote (dCLU c) 128).footStart g l).nFooting

/-- FOOTING_ENTRY (R502, R506). `supply`: a supply fault of the footing wythe persists. -/
def State.footingEntry (s : State) (supply : Bool) : State :=
  if s.footBad supply then s.footPrep.footNone
  else
    match s.footPrep.footImage with
    | (t, none) => t.footNone
    | (t, some (g, l)) => t.footRun s.footCluster g l

def execFootingEntry (supply : Bool) (s : State) : Out :=
  .next (if s.b FOOT_STAT_ACTIVE && s.foot.entering then s.footingEntry supply else s)

end Sys2Proof.Machine
end

