-- ==== Sys2Proof/Machine/Words.lean ====
section
/-! DEFINITION. Words that the boot responder, the SPI target, the management agents and the scheduler firmware access by address, and
register requests between chips (spec/13_host_link_and_mailboxes.md R433, R435; spec/09_ties_and_multichip.md R337). -/

namespace Sys2Proof.Machine
open Sys2Proof

/-! ## Words by address -/

/-- A word read by an initiator at a local address. True: it waits on a held word. -/
def State.wordRead (s : State) (ini a : Nat) : State × Bool × Status × Nat :=
  if (pageOf a).isSome then
    let r := s.pageReadBy ini a
    (r.1, false, r.2.1, r.2.2.toNat)
  else
    match s.engRead ini (s.mine a) 4 with
    | .done s st bs => (s, false, st, if st = .ok then ofLE bs else 0)
    | .wait s => (s, true, .ok, 0)

/-- A word written by an initiator at a local address. -/
def State.wordWrite (s : State) (ini a v : Nat) : State × Bool × Status :=
  if (pageOf a).isSome then
    let r := s.pageWriteBy ini a (BitVec.ofNat 32 v)
    (r.1, false, r.2)
  else
    match s.engWrite ini (s.mine a) (bytesLE 4 v) with
    | .done s .ok _ => (s.goWritten a 4, false, .ok)
    | .done s st _ => (s, false, st)
    | .wait s => (s, true, .ok)

/-- The target is reached over the ring bus (R19). -/
def State.ringTarget (s : State) (a : Nat) : Bool := (s.place a).onRing

/-- The chip has its ID: until then it answers no request but those that come over the tie of the enumeration (R22). -/
def State.assigned (s : State) : Bool := s.b SYS_CHIP_ID_ASSIGNED

/-- Step 5 has initialised the mortar (R433). -/
def State.mortarInit (s : State) : Bool := s.f (BOOT_LOG_RESULT 5) == rOK || s.f (BOOT_LOG_RESULT 5) == rALT

/-- REG_RSP's STATUS values beyond R241. -/
def rsBAD : Nat := 8
def rsNOTREADY : Nat := 9

/-- Payload of a register frame between chips (R337). -/
def mgReg (write : Bool) (status n addr : Nat) (ws : List Nat) : List (BitVec 64) :=
  flit [(bn write, 4), (status, 4), (n - 1, 4), (0, 14), (addr, 38)] ::
    (chunks 2 6 ws).map fun c => BitVec.ofNat 64 (c.getD 0 0 + 2 ^ 32 * c.getD 1 0)

/-- The manager's agent sends a register request to a worker; the SEQ it uses. -/
def State.fwdSend (s : State) (chip : Nat) (write : Bool) (n addr : Nat) (ws : List Nat) : State × Nat :=
  let q := s.host.mgseq
  let s := { s with host := { s.host with mgseq := (q + 1) % 256 } }
  (s.sendMg [.mgmt 0 (BitVec.ofNat 10 chip) (BitVec.ofNat 10 s.chipId) (BitVec.ofNat 8 q) (mgReg write 0 n addr ws)], q)

end Sys2Proof.Machine
end

