-- ==== Sys2Proof/Machine/Spi.lean ====
section
/-! DEFINITION. The management SPI target (spec/18_register_map.md R581–R584). -/

namespace Sys2Proof.Machine
open Sys2Proof

def State.modSpi (s : State) (g : Spi → Spi) : State := { s with spi := g s.spi }

/-- A word of the transaction has come out with a status of R435. -/
def State.spiTook (s : State) (code v : Nat) : State :=
  match s.spi.queue with
  | _ :: r =>
    if code = 0 then (s.modSpi fun p => { p with queue := r }).add SPI_STAT_NDONE 1
    else (s.modSpi fun p => { p with queue := [] }).setF SPI_STAT_LAST code
  | [] =>
    s.modSpi fun p =>
      { p with out := p.out ++ [0xA5, code] ++ bytesBE 4 (if code = 0 then v else 0), readAt := p.readAt + 4,
               readLeft := if code = 0 then p.readLeft - 1 else 0 }

/-- The access of one word at a global address. -/
inductive SpiWord
  | took (s : State) (code v : Nat)
  | wait (s : State)

/-- A word is accessed: locally, or by the manager on a worker. -/
def State.spiWord (s : State) (ga : Nat) (w : Option Nat) : SpiWord :=
  let c := ga / 2 ^ 38 % 1024
  let a := ga % 2 ^ 38 / 4 * 4
  if c = 0x3FF ∨ c = s.chipId then
    if !s.mortarInit && !s.ringTarget a then .took s rsNOTREADY 0
    else
      match w with
      | some v =>
        match s.wordWrite iHOST a v with
        | (s, true, _) => .wait s
        | (s, false, st) => .took s st.code.toNat 0
      | none =>
        match s.wordRead iHOST a with
        | (s, true, _, _) => .wait s
        | (s, false, st, v) => .took s st.code.toNat v
  else if s.isManager then
    let (s, q) := s.fwdSend c w.isSome 1 a (match w with | some v => [v] | none => [])
    .wait (s.modSpi fun p => { p with await := some q })
  else .took s Status.unreachable.code.toNat 0

/-- The words that wait, in order, as far as none waits for a reply; on a chip without an ID they all wait. -/
def State.spiGo : Nat → State → State
  | 0, s => s
  | n + 1, s =>
    if s.spi.await.isSome || !s.assigned then s
    else
      match s.spi.queue with
      | (ga, w) :: _ =>
        match s.spiWord ga (some w) with
        | .wait s => s
        | .took s code _ => if s.spi.queue.isEmpty then s else State.spiGo n (s.spiTook code 0)
      | [] =>
        if s.spi.readLeft = 0 then s
        else
          match s.spiWord s.spi.readAt none with
          | .wait s => s
          | .took s code v => State.spiGo n (s.spiTook code v)

def State.spiRun (s : State) : State :=
  let s := State.spiGo (s.spi.queue.length + s.spi.readLeft) s
  (s.setF SPI_STAT_BUSY (bn (!s.spi.queue.isEmpty))).blockCheck .spi 0

/-- The answer to a forwarded word. -/
def State.spiAnswer (s : State) (code v : Nat) : State := ((s.modSpi fun p => { p with await := none }).spiTook code v).spiRun

/-- A transaction begins: a READ in progress has ended with the last one. -/
def State.spiBegin (s : State) : State :=
  (s.modSpi fun p => { p with out := [], readLeft := 0, await := if p.queue.isEmpty then none else p.await }).inc SPI_XFERS

/-- SPI_WRITE (R582). `part`: a word left incomplete. -/
def State.spiWrite (s : State) (addr : Nat) (words : List Nat) (part : Bool) : State :=
  let s := s.spiBegin
  let s := ((s.setF SPI_STAT_OVF 0).setF SPI_STAT_LAST 0).setF SPI_STAT_NDONE 0
  let room := 16 - s.spi.queue.length
  let ws := words.zipIdx.map fun p => ((addr + 4 * p.2) % 2 ^ 48, p.1)
  let s := if room < ws.length then s.setF SPI_STAT_OVF 1 else s
  let s := s.modSpi fun p => { p with queue := p.queue ++ ws.take room }
  (if part then s.inc SPI_ERRS else s).spiRun

def execSpiWrite (addr : BitVec 48) (words : List (BitVec 32)) (part : Bool) (s : State) : Out :=
  .next (if s.actv .spi 0 then s.spiWrite addr.toNat (words.map BitVec.toNat) part else s)

/-- SPI_READ (R583) of `n` words. -/
def execSpiRead (addr : BitVec 48) (n : BitVec 16) (s : State) : Out :=
  .next (if s.actv .spi 0 then (s.spiBegin.modSpi fun p => { p with readLeft := n.toNat, readAt := addr.toNat }).spiRun else s)

/-- The four bytes of a register, most significant first. -/
def State.spiDrive (s : State) (v : Nat) : State := s.modSpi fun p => { p with out := bytesBE 4 v }

/-- SPI_STATUS (R581). -/
def execSpiStatus (s : State) : Out :=
  .next (if s.actv .spi 0 then let s := s.spiBegin.spiRun; s.spiDrive (s.regView iHOST .spi 0 0x040) else s)

/-- IDENT (R581). -/
def execIdent (s : State) : Out :=
  .next (if s.actv .spi 0 then let s := s.spiBegin; s.spiDrive (s.regView iHOST .sys 0 0x040) else s)

/-- SPI_UNKNOWN_COMMAND (R581). -/
def execSpiUnknownCommand (cmd : BitVec 8) (s : State) : Out :=
  .next (if s.actv .spi 0 && cmd != 0x02 && cmd != 0x0B && cmd != 0x05 && cmd != 0x9F then s.spiBegin.inc SPI_ERRS else s)

end Sys2Proof.Machine
end

