-- ==== Sys2Proof/Machine/HostFrames.lean ====
section
/-! DEFINITION. Host frames at the port: checks, binding, the boot responder, register frames and their forwarding, mailbox fragments
(spec/13_host_link_and_mailboxes.md R425–R436, R442, R443; spec/09_ties_and_multichip.md R337, R338). -/

namespace Sys2Proof.Machine
open Sys2Proof

/-! ## Register frames (R433–R436) -/

/-- A REG_REQ body's fields. -/
def rqOp (b : List Nat) : Nat := b.getD 0 0
def rqWrite (b : List Nat) : Bool := bitAt (rqOp b) 0
def rqFixed (b : List Nat) : Bool := bitAt (rqOp b) 1
def rqWords (b : List Nat) : Nat := ofBE (slice b 2 2)
def rqAddr (b : List Nat) : Nat := ofBE (slice b 4 5)
def rqAt (b : List Nat) (i : Nat) : Nat := (rqAddr b + if rqFixed b then 0 else 4 * i) % 2 ^ 38
def rqData (b : List Nat) (i : Nat) : Nat := ofBE (slice b (10 + 4 * i) 4)

/-- BAD_FRAME (R435): reserved bits, NWORD out of range, an address not aligned, a wrong DATA length. -/
def rqBad (b : List Nat) : Bool :=
  decide (b.length < 10) || decide (4 ≤ rqOp b) || b.getD 1 0 != 0 || b.getD 9 0 != 0 || rqWords b == 0 || decide (256 < rqWords b) ||
    decide (2 ^ 38 ≤ rqAddr b) || rqAddr b % 4 != 0 || b.length != 10 + (if rqWrite b then 4 * rqWords b else 0)

/-- CHIP names this chip's manager (R429, R433). -/
def chipLocal (chip : Nat) : Bool := chipField chip == 0

/-- The body of a REG_RSP. -/
def rspBody (b : List Nat) (status done : Nat) (data : List Nat) : List Nat :=
  [rqOp b, status] ++ bytesBE 2 done ++ slice b 4 5 ++ [0] ++
    (if rqWrite b || status == rsBAD then []
     else ((List.range (rqWords b)).flatMap fun i => bytesBE 4 (if i < done then data.getD i 0 else 0)))

/-- The first register frame is answered with `status`, kept, and leaves the queue. -/
def State.jobEnd (s : State) (dst : Nat) (j : RegJob) (status done : Nat) (data : List Nat) : State :=
  let body := rspBody j.body status done data
  let f : TxFrame := { dst := dst, kind := 4, seq := j.seq, chip := chipField j.chip, body := body }
  if !s.domOn dHOST then s
  else ({ s with host := { s.host with jobs := s.host.jobs.drop 1, last := some (j, f), fwd := none } }).txFrame dst 4 j.seq f.chip body

/-- What the word by word work of a local frame comes to: the words read so far, how many are done, the STATUS that ended it, and whether
it waits. -/
structure WordsRun where
  s : State
  data : List Nat
  done : Nat
  status : Nat := 0
  wait : Bool := false

/-- Words of a local frame in order, up to `k` of them, until one does not come out OK. -/
def State.runWords (b : List Nat) : Nat → Nat → List Nat → State → WordsRun
  | 0, i, d, s => { s := s, data := d, done := i }
  | k + 1, i, d, s =>
    let a := rqAt b i
    if !s.mortarInit && !s.ringTarget a then { s := s, data := d, done := i, status := rsNOTREADY }
    else if rqWrite b then
      match s.wordWrite iHOST a (rqData b i) with
      | (s, true, _) => { s := s, data := d, done := i, wait := true }
      | (s, false, st) => if st = .ok then State.runWords b k (i + 1) d s else { s := s, data := d, done := i, status := st.code.toNat }
    else
      match s.wordRead iHOST a with
      | (s, true, _, _) => { s := s, data := d, done := i, wait := true }
      | (s, false, st, v) =>
        if st = .ok then State.runWords b k (i + 1) (d ++ [v]) s else { s := s, data := d, done := i, status := st.code.toNat }

/-- Words of the next forwarded frame: 12 at most, one where the address is fixed (R337). -/
def fwdCount (j : RegJob) : Nat := min (if rqFixed j.body then 1 else 12) (rqWords j.body - j.done)

/-- The next words of the first frame go to its chip. -/
def State.jobForward (s : State) (j : RegJob) : State :=
  let n := fwdCount j
  let ws := if rqWrite j.body then (List.range n).map fun i => rqData j.body (j.done + i) else []
  let (s, q) := s.fwdSend (chipField j.chip) (rqWrite j.body) n (rqAt j.body j.done) ws
  { s with host := { s.host with jobs := { j with wait := true } :: s.host.jobs.drop 1, fwd := some q } }

/-- The responder serves the frames it holds, in order, as far as none waits (R435, R436). -/
def State.jobRun : Nat → State → State
  | 0, s => s
  | n + 1, s =>
    match s.host.jobs with
    | [] => s
    | j :: _ =>
      let dst := s.peer
      let again : Option TxFrame := match s.host.last with
        | some (k, f) => if j.done = 0 ∧ k.seq = j.seq ∧ k.body = j.body then some f else none
        | none => none
      if j.wait then s
      else
        match again with
        | some f => State.jobRun n (({ s with host := { s.host with jobs := s.host.jobs.drop 1 } }).txFrame dst 4 f.seq f.chip f.body)
        | none =>
          if rqBad j.body then State.jobRun n (s.jobEnd dst j rsBAD 0 [])
          else if chipLocal j.chip then
            let r := State.runWords j.body (rqWords j.body - j.done) j.done j.data s
            if r.wait then
              { r.s with host := { r.s.host with jobs := { j with done := r.done, data := r.data } :: r.s.host.jobs.drop 1 } }
            else State.jobRun n (r.s.jobEnd dst j r.status r.done r.data)
          else s.jobForward j

def State.jobs (s : State) : State := State.jobRun (s.host.jobs.length + 1) s

/-- A REG_REQ from the bound host joins the queue of 8 (R436). -/
def State.regReq (s : State) (seq chip : Nat) (body : List Nat) : State :=
  if 8 ≤ s.host.jobs.length then s.inc HOST_RATE_DROP
  else ({ s with host := { s.host with jobs := s.host.jobs ++ [({ seq := seq, chip := chip, body := body } : RegJob)] } }).jobs

/-- REG_REQ (R435). -/
def execRegReq (seq chip : BitVec 16) (body : List (BitVec 8)) (s : State) : Out :=
  .next (if s.hostOn && s.bound && s.assigned then s.regReq seq.toNat chip.toNat (body.map BitVec.toNat) else s)

/-! ## Forwarded register frames (R337) -/

/-- Words of a payload. -/
def mgWords (data : List (BitVec 64)) (n : Nat) : List Nat :=
  (List.range n).map fun i => (data.getD (1 + i / 2) 0).toNat / 2 ^ (32 * (i % 2)) % 2 ^ 32

/-- A worker's agent performs words of a request in order, up to the first that does not come out OK or has to wait. -/
def State.agentWords (write : Bool) (addr : Nat) : List Nat → Nat → List Nat → State → WordsRun
  | [], i, d, s => { s := s, data := d, done := i }
  | w :: r, i, d, s =>
    let a := (addr + 4 * i) % 2 ^ 38
    if write then
      match s.wordWrite iHOST a w with
      | (s, true, _) => { s := s, data := d, done := i, wait := true }
      | (s, false, st) =>
        if st = .ok then State.agentWords write addr r (i + 1) d s else { s := s, data := d, done := i, status := st.code.toNat }
    else
      match s.wordRead iHOST a with
      | (s, true, _, _) => { s := s, data := d, done := i, wait := true }
      | (s, false, st, v) =>
        if st = .ok then State.agentWords write addr r (i + 1) (d ++ [v]) s
        else { s := s, data := d, done := i, status := st.code.toNat }

/-- The answer of a worker's agent. -/
def State.agentReply (s : State) (j : AgentJob) (st : Nat) (d : List Nat) : State :=
  let n := j.words.length
  s.sendMg [.mgmt 0 (BitVec.ofNat 10 j.chip) (BitVec.ofNat 10 s.chipId) (BitVec.ofNat 8 j.seq)
    (mgReg j.write st n j.addr (if j.write then [] else d ++ List.replicate (n - d.length) 0))]

/-- The agent serves the requests it holds, in order, as far as none waits on a held word (R381). -/
def State.agentRun : Nat → State → State
  | 0, s => s
  | n + 1, s =>
    match s.host.agent with
    | [] => s
    | j :: rest =>
      let r := State.agentWords j.write j.addr (j.words.drop j.done) j.done j.data s
      if r.wait then { r.s with host := { r.s.host with agent := { j with done := r.done, data := r.data } :: rest } }
      else State.agentRun n (({ r.s with host := { r.s.host with agent := rest } }).agentReply j r.status r.data)

def State.agentGo (s : State) : State := State.agentRun s.host.agent.length s

/-- A worker's agent takes a request. -/
def State.agentServe (s : State) (schip seq : Nat) (data : List (BitVec 64)) : State :=
  let w := (data.getD 0 0).toNat
  if 2 ≤ bits w 63 60 then s
  else
    let j : AgentJob := { chip := schip, seq := seq, write := bits w 63 60 == 1, addr := bits w 37 0,
                          words := mgWords data (min 12 (bits w 55 52 + 1)) }
    ({ s with host := { s.host with agent := s.host.agent ++ [j] } }).agentGo

/-- Accesses that waited on a held word of an on-chip memory go on (R381): the responder's, the SPI target's and the agent's. -/
def State.resume (s : State) : State :=
  let s := if s.host.agent.isEmpty then s else s.agentGo
  let s := if s.host.jobs.isEmpty || !s.hostOn then s else s.jobs
  if (s.spi.queue.isEmpty && s.spi.readLeft == 0) || !s.actv .spi 0 then s else s.spiRun

/-- An answer for the first frame of the responder. The frame does not say how many of its words were done before one failed: free. -/
def State.jobAnswer (s : State) (j : RegJob) (st : Nat) (ws : List Nat) : State :=
  let n := fwdCount j
  let dst := s.peer
  let data := if rqWrite j.body then [] else ws.take n
  if st = 0 then
    let j := { j with done := j.done + n, data := j.data ++ data, wait := false }
    if rqWords j.body ≤ j.done then (s.jobEnd dst j 0 j.done j.data).jobs
    else s.jobForward j
  else
    let (v, s) := s.drawFree
    (s.jobEnd dst j st (j.done + v.toNat % n) (j.data ++ data)).jobs

/-- The access that the long operation waits for has its answer. -/
def State.longAnswer (s : State) (seq st : Nat) (ws : List Nat) : State :=
  match s.host.long with
  | some l =>
    if l.await = some seq then { s with host := { s.host with long := some { l with await := none, reply := some (st, ws.getD 0 0) } } }
    else s
  | none => s

/-- An answer for the SPI target, or for the long operation. -/
def State.otherAnswer (s : State) (seq st : Nat) (ws : List Nat) : State :=
  if s.spi.await = some seq then s.spiAnswer st (ws.getD 0 0) else s.longAnswer seq st ws

/-- An answer to the manager's agent: for the responder, the SPI target, or for the firmware's long operation. -/
def State.agentAnswer (s : State) (schip seq : Nat) (data : List (BitVec 64)) : State :=
  let w := (data.getD 0 0).toNat
  let st := bits w 59 56
  let ws := mgWords data (min 12 (bits w 55 52 + 1))
  match s.host.jobs with
  | j :: _ =>
    if j.wait ∧ s.host.fwd = some seq ∧ chipField j.chip = schip then s.jobAnswer j st ws else s.otherAnswer seq st ws
  | [] => s.otherAnswer seq st ws

/-- A register frame at an agent: a worker performs it, the manager takes it as an answer. -/
def State.mgRegister (s : State) (schip seq : Nat) (data : List (BitVec 64)) : State :=
  if s.isManager then s.agentAnswer schip seq data else s.agentServe schip seq data

/-- MGMT_REGISTER_FRAME (R337). -/
def execMgmtRegisterFrame (schip : BitVec 10) (seq : BitVec 8) (data : List (BitVec 64)) (s : State) : Out :=
  .next (s.mgRegister schip.toNat seq.toNat data)

/-! ## Mailbox messages (R442, R443) -/

def Msg.type (m : Msg) : Nat := ofBE (slice m.bytes 2 2)
def Msg.seq (m : Msg) : Nat := ofBE (slice m.bytes 4 2)
def Msg.major (m : Msg) : Nat := m.bytes.getD 0 0
def Msg.body (m : Msg) : List Nat := m.bytes.drop 16

/-- KEY_INSTALL's operation. -/
def Msg.op (m : Msg) : Nat := m.body.getD 0 0

/-- Types of firmware 2.3. -/
def knownTypes : List Nat := [1, 2, 3, 4, 0x10, 0x11, 0x12, 0x13, 0x14, 0x20, 0x21, 0x30, 0x31, 0x40]

/-- The message goes on with a major version that HELLO did not list (R444): its behaviour is undefined. -/
def Msg.undefined (m : Msg) : Bool := m.type != 1 && m.major != 2

/-- Body length that a type asks for. -/
def Msg.lengthOk (m : Msg) : Bool :=
  let n := m.body.length
  match m.type with
  | 0x03 => (Config.leaseCfg m.body).isSome
  | 0x10 => n == 16
  | 0x13 => decide (17 ≤ n)
  | 0x14 => decide (8 ≤ n) && n == 8 + 12 * ofBE (slice m.body 4 2)
  | 0x21 => decide (12 ≤ n)
  | 0x30 => n == 44
  | 0x31 => n == 76
  | _ => n == 0

/-- The STATUS with which a message is answered whatever the machine's state, if any (R443). -/
def Msg.refusal (m : Msg) : Option Nat :=
  if !knownTypes.contains m.type then some 1
  else if ofBE (slice m.bytes 6 2) ≠ m.bytes.length ∨ !m.lengthOk then some 2
  else if m.type = 0x14 ∧ (ofBE (slice m.body 4 2) = 0 ∨ 254 < ofBE (slice m.body 4 2)) then some 2
  else if m.type = 0x31 ∧ !(decide (1 ≤ m.op) && decide (m.op ≤ 5)) then some 1
  else none

/-- An answer to a message. -/
def State.answer (s : State) (m : Msg) (status : Nat) (body : List Nat) : State := 
  s.sendMsg (0x8000 + m.type) m.fseq m.seq status body

/-- Types of the long operations. -/
def longType (t : Nat) : Bool := t == 0x10 || t == 0x13 || t == 0x14

/-- The running firmware answers the messages in front that it refuses; a second long operation is BUSY. -/
def State.pump : Nat → State → State
  | 0, s => s
  | n + 1, s =>
    match s.host.msgs with
    | [] => s
    | m :: r =>
      if !s.schedRuns || m.undefined then s
      else
        let pop := { s with host := { s.host with msgs := r } }
        match m.refusal with
        | some st => State.pump n (pop.answer m st [])
        | none => if longType m.type && s.host.long.isSome then State.pump n (pop.answer m 4 []) else s

def State.pumped (s : State) : State := State.pump s.host.msgs.length s

/-- A whole message for this chip's firmware, which holds four (R442). -/
def State.msgIn (s : State) (via : Option Nat) (fseq : Nat) (bytes : List Nat) : State :=
  if 4 ≤ s.host.msgs.length then (s.inc HOST_MBOX_DROP).inc FWC_MBOX_DROPPED
  else ({ s with host := { s.host with msgs := s.host.msgs ++ [({ via := via, bytes := bytes, fseq := fseq } : Msg)] } }).pumped

/-- A whole message from the host for another chip (R337). -/
def State.msgForward (s : State) (chip fseq msg : Nat) (bytes : List Nat) : State :=
  let cs := chunks 48 64 bytes
  let s := { s with host := { s.host with fwdMsgs := s.host.fwdMsgs ++ [(chip, ofBE (slice bytes 2 2), ofBE (slice bytes 4 2), fseq)] } }
  s.sendMg (cs.zipIdx.map fun c => mgFrag chip s.chipId msg c.2 (c.2 + 1 == cs.length) c.1)

/-- A message is whole; `seq` is the SEQ of the frame of its last fragment. -/
def State.msgWhole (s : State) (seq chip msg : Nat) (bytes : List Nat) : State :=
  let s := { s with host := { s.host with asm := none } }
  if bytes.length < 16 ∨ 3072 < bytes.length then s.inc HOST_BAD_FRAME
  else if chipLocal chip then s.msgIn none seq bytes
  else s.msgForward (chipField chip) seq msg bytes

/-- An MBOX fragment (R442). A HEARTBEAT in one fragment renews the lease at the port (R445). -/
def State.mboxIn (s : State) (seq chip : Nat) (body : List Nat) : State :=
  let msg := body.getD 0 0
  let frag := body.getD 1 0
  let last := bitAt (body.getD 2 0) 0
  let bs := body.drop 4
  let s := if frag = 0 ∧ last ∧ ofBE (slice bs 2 2) = 2 ∧ 16 ≤ bs.length then s.heartbeat else s
  let drop := fun (s : State) => ({ s with host := { s.host with asm := none } }).inc HOST_BAD_FRAME
  let first := fun (s : State) =>
    if last then s.msgWhole seq chip msg bs else { s with host := { s.host with asm := some (chip, msg, 1, bs) } }
  if body.length < 4 then drop s
  else
    match s.host.asm with
    | none => if frag = 0 then first s else drop s
    | some (c, m, next, got) =>
      if c = chip ∧ m = msg ∧ frag = next ∧ next ≤ 2 then
        if last then s.msgWhole seq chip msg (got ++ bs)
        else if next = 2 then drop s
        else { s with host := { s.host with asm := some (chip, msg, next + 1, got ++ bs) } }
      else if frag = 0 then first (drop s)
      else drop s

/-- MBOX (R442). -/
def execMbox (seq chip : BitVec 16) (body : List (BitVec 8)) (s : State) : Out :=
  .next (if s.hostOn && s.bound && s.assigned then s.mboxIn seq.toNat chip.toNat (body.map BitVec.toNat) else s)

/-- A message that came whole from another chip: to the firmware of a worker; from a worker to the host, in frames that echo the SEQ of
the frame it answers (R429). -/
def State.mgMessage (s : State) (schip msg : Nat) (bytes : List Nat) : State :=
  if !s.isManager then s.msgIn (some schip) 0 bytes
  else
    let t := ofBE (slice bytes 2 2)
    let q := ofBE (slice bytes 4 2)
    let asked := s.host.fwdMsgs.find? fun x => x.1 == schip && x.2.1 + 0x8000 == t && x.2.2.1 == q
    let fseq := match asked with
      | some x => x.2.2.2
      | none => q
    let s := match asked with
      | some x => { s with host := { s.host with fwdMsgs := s.host.fwdMsgs.erase x } }
      | none => s
    if s.bound then s.mboxFrames fseq schip msg bytes else s

/-- A mailbox fragment between chips (R337); one out of order discards its message. -/
def State.mgMailbox (s : State) (schip : Nat) (data : List (BitVec 64)) : State :=
  let w := (data.getD 0 0).toNat
  let (msg, frag, last, n) := (bits w 63 56, bits w 55 50, bitAt w 49, bits w 48 43)
  let bs := ((data.drop 1).flatMap fun d => bytesLE 8 d.toNat).take n
  let old := (s.host.masm.find? fun p => p.1 == schip).map fun p => p.2
  let rest := s.host.masm.filter fun p => p.1 != schip
  let set := fun (l : List (Nat × Nat × Nat × List Nat)) => { s with host := { s.host with masm := l } }
  let got : Option (List Nat) := if frag = 0 then some bs
    else match old with
      | some (m, next, g) => if m = msg ∧ next = frag then some (g ++ bs) else none
      | none => none
  match got with
  | none => set rest
  | some g => if last then (set rest).mgMessage schip msg g else set (rest ++ [(schip, msg, frag + 1, g)])

/-- MGMT_MAILBOX_FRAME (R337). -/
def execMgmtMailboxFrame (schip : BitVec 10) (_seq : BitVec 8) (data : List (BitVec 64)) (s : State) : Out :=
  .next (s.mgMailbox schip.toNat data)

/-- A link-state frame (R338): the manager's firmware keeps the map and notifies the host. -/
def State.mgLink (s : State) (schip : Nat) (data : List (BitVec 64)) : State :=
  if !s.isManager || !s.schedRuns then s
  else
    let w := data.getD 0 0
    let s := { s with linkmap := Map.set 0 s.linkmap (schip * 4 + bits w.toNat 63 62) w }
    s.notify 0x4003 (bytesBE 2 schip ++ bytesBE 8 w.toNat)

/-- The oldest message forwarded to a worker and not answered is answered UNREACHABLE. -/
def State.oldest (s : State) : State :=
  match s.host.fwdMsgs with
  | [] => s
  | (chip, t, q, fseq) :: r =>
    let num := s.host.mnum
    let s := { s with host := { s.host with fwdMsgs := r, mnum := (num + 1) % 256 } }
    let bytes := [2, 3] ++ bytesBE 2 (0x8000 + t) ++ bytesBE 2 q ++ bytesBE 2 16 ++ bytesBE 2 6 ++ bytesBE 6 0
    if s.bound then s.mboxFrames fseq chip num bytes else s

/-- MGMT_FORWARD_TIMEOUT (R337): the manager's agent reports UNREACHABLE for the register frame it waits for, else for the SPI target's
word, else for the firmware's access, else for the oldest forwarded message. -/
def State.fwdTimeout (s : State) : State :=
  let u := Status.unreachable.code.toNat
  match s.host.jobs, s.host.fwd with
  | j :: _, some _ => if j.wait then (s.jobEnd s.peer j u j.done j.data).jobs else s
  | _, _ =>
    if s.spi.await.isSome then s.spiAnswer u 0
    else
    match s.host.long with
    | some l =>
      if l.await.isSome then { s with host := { s.host with long := some { l with await := none, reply := some (u, 0) } } } else s.oldest
    | none => s.oldest

def execMgmtForwardTimeout (s : State) : Out := .next (if s.isManager then s.fwdTimeout else s)

/-! ## Binding (R431, R432) -/

/-- A CLAIM that passed the checks (R431): it binds its source where none is bound, and is answered. -/
def State.claim (s : State) (src token : Nat) : State :=
  if s.bound && s.peer != src then (s.inc HOST_STRANGER).raise .host 0 1
  else
    let s := if s.bound then s
      else
        let s := ((s.setF HOST_BIND_BOUND 1).setF HOST_BIND_PEER_HI (src / 2 ^ 32)).setF HOST_PEER_LO (src % 2 ^ 32)
        { s with host := { s.host with hello := false } }
    let (q, s) := s.drawFree
    s.txFrame src 2 (q.toNat % 65536) s.chipId
      (bytesBE 8 token ++ bytesBE 4 (s.regView iHOST .sys 0 0x040) ++ bytesBE 4 (s.regView iHOST .sys 0 0x048) ++
        [bn s.schedRuns, 0, 0, 0])

/-- CLAIM (R431). -/
def execClaim (src : BitVec 48) (_chip : BitVec 16) (token : BitVec 64) (s : State) : Out :=
  .next (if s.hostOn && s.assigned then s.claim src.toNat token.toNat else s)

/-- A token of the responder bucket (R432); a RATE of 0 sets no limit. -/
def State.takeToken (s : State) : Option State :=
  if s.f HOST_RLIMIT_RATE = 0 then some s
  else if s.host.tokens = 0 then none
  else some { s with host := { s.host with tokens := s.host.tokens - 1 } }

/-- RESPONDER_BUCKET_REFILL (R432). -/
def State.refill (s : State) : State :=
  let r := s.f HOST_RLIMIT_RATE
  ({ s with host := { s.host with tokens := min r (s.host.tokens + r) } }).jobs

def execResponderBucketRefill (s : State) : Out := .next (if s.hostOn then s.refill else s)

/-! ## The checks (R427, R428, R430) -/

/-- What the ICV protects: addresses, tag, EtherType, control header, body. -/
def icvBytes (f : HFrame) : List Nat :=
  bytesBE 6 f.dst.toNat ++ bytesBE 6 f.src.toNat ++ (match f.vid with | some v => bytesBE 2 v.toNat | none => []) ++
    bytesBE 2 f.etype.toNat ++ [f.kind.toNat, f.ver.toNat] ++ bytesBE 2 f.seq.toNat ++ bytesBE 2 f.len.toNat ++
    bytesBE 2 f.chip.toNat ++ f.body.map BitVec.toNat

/-- MACsec (R425, R428): none: the frame is discarded. A frame in clear is taken until protection is required. -/
def State.secCheck (s : State) (f : HFrame) : Option State :=
  match f.sec with
  | none => if s.b HOST_SEC_REQUIRE then none else some s
  | some t =>
    match s.host.rx.find? fun a => a.an == t.an.toNat && a.sci == t.sci.toNat with
    | none => none
    | some a =>
      let pn := t.pn.toNat
      if pn < a.pn - Config.replayWindow.toNat ∨ s.pnEnd ≤ pn ∨ !Config.icvOk a.key a.salt a.ssci a.sci pn (icvBytes f) t.icv then none
      else some { s with host := { s.host with rx := s.host.rx.map fun x => if x.an = a.an then { x with pn := max x.pn (pn + 1) } else x } }

/-- gPTP's destination and EtherType (R427). -/
def isGptp (f : HFrame) : Bool := f.etype == 0x88F7 && f.dst == 0x0180C200000E

/-- The port's address. -/
def State.macAddr (s : State) : Nat := s.f HOST_MAC_HI_MAC * 2 ^ 32 + s.f HOST_MAC_LO

/-- EtherType and tag (R430, check 4). -/
def State.tagOk (s : State) (f : HFrame) : Bool :=
  f.etype.toNat == s.f HOST_CFG_ETYPE &&
    (if s.b HOST_CFG_VLAN_EN then (match f.vid with | some v => v.toNat == s.f HOST_CFG_VID | none => false) else f.vid.isNone)

/-- KINDs that a host sends. -/
def hostKind (k : Nat) : Bool := k == 1 || k == 3 || k == 5 || k == 7

/-- Header check (R430, check 5). -/
def headOk (f : HFrame) : Bool := f.ver == 1 && hostKind f.kind.toNat && decide (f.len.toNat ≤ min 1492 f.body.length)

/-- The dispatch of a frame that passed every check. A chip without an ID answers nothing (R22). -/
def State.hostKindRun (s : State) (f : HFrame) (body : List Nat) : State :=
  if !s.assigned then s
  else
  match f.kind.toNat with
  | 1 => s.claim f.src.toNat (ofBE (slice body 0 8))
  | 3 => s.regReq f.seq.toNat f.chip.toNat body
  | 5 => s.mboxIn f.seq.toNat f.chip.toNat body
  | _ => s.streamIn f.seq.toNat f.chip.toNat body

/-- The checks from the responder bucket on (R430, checks 6 and 7). A REG_REQ whose body is at fault is answered and not accepted. -/
def State.hostAccept (s : State) (f : HFrame) : State :=
  let body := (f.body.map BitVec.toNat).take f.len.toNat
  let k := f.kind.toNat
  match if k = 7 then some s else s.takeToken with
  | none => s.inc HOST_RATE_DROP
  | some s =>
    if (s.bound && s.peer == f.src.toNat) || (k == 1 && !s.bound) then
      (if k == 3 && rqBad body then s else s.inc HOST_RX_FRAMES).hostKindRun f body
    else (s.inc HOST_STRANGER).raise .host 0 1

/-- HOST_FRAME_RECEIVE (R430). -/
def State.hostFrame (s : State) (f : HFrame) : State :=
  if !f.fcs then s.inc HOST_FCS_ERR
  else if isGptp f then if f.kind.toNat % 16 = 0 then s.capture 0x30 0 else s
  else
    match s.secCheck f with
    | none => (s.inc HOST_SEC_DROP).raise .host 0 4
    | some s =>
      if !(f.dst.toNat == s.macAddr || (f.dst == 0xFFFFFFFFFFFF && f.kind == 1)) then s
      else if !s.tagOk f then s.inc HOST_OTHER
      else if !headOk f then s.inc HOST_BAD_FRAME
      else
        let bad := f.kind == 3 && rqBad ((f.body.map BitVec.toNat).take f.len.toNat)
        (if bad then s.inc HOST_BAD_FRAME else s).hostAccept f

def execHostFrameReceive (f : HFrame) (s : State) : Out := .next (if s.hostOn then s.hostFrame f else s)

end Sys2Proof.Machine
end

