-- ==== Sys2Proof/Machine/Hop.lean ====
section
/-! DEFINITION. ROUTER_HOP: a packet moves on, or leaves its router at the local or the gateway port
(spec/07_mortar_fabric.md R235–R257). -/

namespace Sys2Proof.Machine
open Sys2Proof

/-- A MGMT packet of this chip at the SYS gateway (R247, R337, R338); other MKINDs do not travel through routers. -/
def State.mgmtIn (s : State) (mkind schip seq : Nat) (data : List (BitVec 64)) : State :=
  match mkind with
  | 0 => s.mgRegister schip seq data
  | 1 => s.mgMailbox schip data
  | 3 => s.mgLink schip data
  | _ => s

/-- A packet leaves the gateway port of router `r` on this chip: output spikes at the HOST gateway (R437), requests at the blocks behind
the gateway, replies, MGMT at the SYS gateway. `s1`: the router without the packet; none: it stays. -/
def State.gatewayOut (s s1 : State) (r : Nat) (f : Flight) : Option State × State :=
  let s1 := s1.crcGateway r true f.pkt
  match f.pkt with
  | .spikeUC _ _ ax pl _ st => (some (if r = 0 ∧ s1.hostOn then s1.outSpike ax.toNat pl.toNat st.toNat else s1), s)
  | .readReq h => s1.serve (reqIni h f.arr.isSome) (.readReq h)
  | .writeReq h d => s1.serve (reqIni h f.arr.isSome) (.writeReq h d)
  | .hodMsg h op svc d => s1.serve (reqIni h f.arr.isSome) (.hodMsg h op svc d)
  | .readRsp h d => (some (s1.reply h f.pkt d), s)
  | .writeAck h => (some (s1.reply h f.pkt []), s)
  | .mgmt k _ sc q d => (some (s1.mgmtIn k.toNat sc.toNat q.toNat d), s)
  | _ => (some s1, s)

/-- A packet leaves the local port of router `r`; a router that sinks for its tile consumes spikes, PSUMs and BCAST_LOAD copies
(R206, R256). -/
def State.localOut (s s1 : State) (r : Nat) (f : Flight) : Option State × State :=
  match f.pkt with
  | .spikeUC _ _ ax pl pr st => (some (s1.spikeTo r ax.toNat pl.toNat pr.toNat st.toNat), s)
  | .spikeMC _ _ ax pl pr st _ => (some (s1.spikeTo r ax.toNat pl.toNat pr.toNat st.toNat), s)
  | .psum _ _ n st cc sm => (some (s1.psumTo r n.toNat st.toNat cc.toNat sm.toInt), s)
  | .bcast _ _ o d => (some (if s1.sinkReason r ≠ 0 then s1 else s1.bcastLoad (clusterOf r) o.toNat d), s)
  | .readReq h => s1.serve (reqIni h f.arr.isSome) (.readReq h)
  | .writeReq h d => s1.serve (reqIni h f.arr.isSome) (.writeReq h d)
  | .hodMsg h op svc d => s1.serve (reqIni h f.arr.isSome) (.hodMsg h op svc d)
  | .readRsp h d => (some (s1.reply h f.pkt d), s)
  | .writeAck h => (some (s1.reply h f.pkt []), s)
  | _ => (some s1, s)

/-- A packet for another chip leaves through the tie of the gateway at which it is (R252, R330–R333); none: no room yet. -/
def State.tieOut (s s1 : State) (r : Nat) (f : Flight) : Option State × State :=
  match tieOfRouter r with
  | some p => ((s1.crcGateway r true f.pkt).tieEgress p f.arr f.pkt, s)
  | none => (some s1, s)

/-- The packet is for another chip. -/
def State.away (s : State) (p : Packet) : Bool := match p.dchip? with | some d => d != s.chipId | none => false

/-- Packet `f` makes a hop at router `r`; with `false` it stays, a hold that its request began on a word remaining (R381). -/
def State.hopOne (s : State) (r : Nat) (f : Flight) : State × Bool :=
  let go := fun (s1 : State) => ((s1.grantMade s f), true)
  match (s.dropFlight f).hop f with
  | .wait => (s, false)
  | .moved s1 => go s1
  | .deliver s1 port =>
    match (if s.away f.pkt then s.tieOut s1 r f else if port = .gw then s.gatewayOut s1 r f else s.localOut s1 r f) with
    | (some s2, _) => go s2
    | (none, w) => ({ w with flights := s.flights }, false)

/-- A hop of the `k`-th packet of router `r`, if it is the oldest of its channel: where others wait for the same output, the one whose turn
it is moves (R251), and `f` itself where that one cannot. -/
def State.routerHop (s : State) (r k : Nat) : State :=
  match s.flightAt r k with
  | none => s
  | some f =>
    if !s.routerOn r || !s.isHead f then s
    else
      let s := s.drainSync
      let (s', ok) := s.hopOne r (s.granted f)
      let s' := (if ok then s' else (s'.hopOne r f).1).psumPump r
      let s' := match tieOfRouter r with
        | some p => s'.tieMove p
        | none => s'
      s'.drainSync


def execRouterHop (r : BitVec 10) (k : BitVec 8) (s : State) : Out := .next (s.routerHop r.toNat k.toNat)

end Sys2Proof.Machine
end

