-- ==== Sys2Proof/Machine/Messages.lean ====
section
/-! DEFINITION. The mailbox messages that the scheduler firmware answers (spec/13_host_link_and_mailboxes.md R443–R446;
spec/14_firmware_and_hods.md R459, R470; spec/15_start_recovery_footing.md R491–R497, R500, R508; spec/17_security_and_recorder.md
R545, R549, R550; spec/07_mortar_fabric.md R265; spec/09_ties_and_multichip.md R338). -/

namespace Sys2Proof.Machine
open Sys2Proof

/-- STATUS values (R443). -/
def stBADSTATE : Nat := 3
def stAUTHFAIL : Nat := 5
def stFAILED : Nat := 7

/-- A message that has to wait stays in front. -/
def State.putBack (s : State) (m : Msg) : State := { s with host := { s.host with msgs := m :: s.host.msgs } }

/-- The running firmware serves the message in front if it is one of those that `p` names. A message of a major version that HELLO did not
list is undefined behaviour (R444). -/
def msgRow (p : Msg → Bool) (f : Msg → State → State) (s : State) : Out :=
  if !s.schedRuns then .next s
  else
    let s := s.pumped
    match s.host.msgs with
    | [] => .next s
    | m :: r =>
      if m.undefined then .fault .undefinedVersion
      else if p m then .next (f m { s with host := { s.host with msgs := r } }).pumped
      else .next s

def isType (t : Nat) (m : Msg) : Bool := m.type == t

/-! ## The lease (R431, R443, R445) -/

/-- HELLO: the answer lists 2, 0, 3 and a build number that the spec does not state; with it the lease starts. A HELLO during grace ends it as
a HEARTBEAT does (DESIGN CHOICE, log entry 120). -/
def State.helloMsg (m : Msg) (s : State) : State :=
  let (v, s) := s.drawFree
  let s := s.answer m 0 ([1, 0, 0, 0, 2, 0, 3, 0] ++ bytesBE 4 v.toNat)
  let s := { s with host := { s.host with hello := true } }
  if s.isManager && s.hostOn then
    let grace := s.f HOST_LEASE_STATE == 2
    let s := (s.setF HOST_LEASE_STATE 1).leaseArm
    if grace then s.flushRing else s
  else s

def execHello (s : State) : Out := msgRow (isType 1) State.helloMsg s

/-- HEARTBEAT: the port has renewed the lease already. -/
def State.heartbeatMsg (m : Msg) (s : State) : State := s.answer m 0 []

def execHeartbeat (s : State) : Out := msgRow (isType 2) State.heartbeatMsg s

/-- LEASE_CFG: INTERVAL from 10 ms to 10 s, GRACE up to 10 s. -/
def State.leaseCfgMsg (m : Msg) (s : State) : State :=
  match Config.leaseCfg m.body with
  | none => s.answer m 2 []
  | some (i, g, a) =>
    if i < 1000000 ∨ 1000000000 < i ∨ 1000000000 < g then s.answer m stFAILED []
    else
      let s := { s with host := { s.host with interval := i, grace := g } }
      (if s.hostOn then s.setF HOST_LEASE_AUTONOMOUS (bn a) else s).answer m 0 []

def execLeaseCfg (s : State) : Out := msgRow (isType 3) State.leaseCfgMsg s

/-- RELEASE: answered, then the lease and the binding end. -/
def State.releaseMsg (m : Msg) (s : State) : State :=
  let s := s.answer m 0 []
  if s.isManager && s.hostOn then ((s.setF HOST_LEASE_STATE 0).setF (TMRCH_STAT_ARMED 1) 0).unbind else s

def execRelease (s : State) : Out := msgRow (isType 4) State.releaseMsg s

/-! ## Loads, starts and stops (R491, R492, R495, R545) -/

/-- The answer of a load. -/
def loadBody (a : LoadAns) : List Nat := [a.code, 0, 0, 0] ++ bytesBE 2 a.index ++ [0, 0] ++ bytesBE 8 a.first

def loadStatus (code : Nat) : Nat := if code = lcOK then 0 else if code = lcDIGEST ∨ code = lcSIGNATURE then stAUTHFAIL else stFAILED

def State.setLong (s : State) (l : Option LongOp) : State := { s with host := { s.host with long := l } }

/-- The load proceeds once everything has stopped; a footing install stops nothing. -/
def State.loadGo (s : State) (l : LongOp) : State :=
  let b := l.msg.body
  let opts := ofBE (slice b 8 4)
  if !bitAt opts 2 && !s.allStopped then s
  else
    let (s, a) := (s.setLong none).netLoad (ofBE (slice b 0 8) % 2 ^ 48) opts (ofBE (slice b 12 4))
    s.answer l.msg (loadStatus a.code) (loadBody a)

/-- A NET_LOAD begins (R491, step 1). -/
def State.loadBegin (m : Msg) (s : State) : State :=
  if !s.secRuns || s.b FOOT_STAT_ACTIVE then s.answer m stBADSTATE []
  else
    let l : LongOp := { msg := m }
    let s := if bitAt (ofBE (slice m.body 8 4)) 2 then s else s.stopAll
    (s.setLong (some l)).loadGo l

/-- A long operation in progress goes on; otherwise its message begins one. -/
def longRow (t : Nat) (begin : Msg → State → State) (go : LongOp → State → State) (s : State) : Out :=
  match s.host.long with
  | some l => if l.msg.type = t ∧ s.schedRuns then .next (go l s).pumped else msgRow (isType t) begin s
  | none => msgRow (isType t) begin s

/-- NET_LOAD (R491). -/
def execNetLoad (s : State) : Out := longRow 0x10 State.loadBegin (fun l s => s.loadGo l) s

/-- NET_START (R495). -/
def State.startMsg (m : Msg) (s : State) : State :=
  let (s, ok) := s.netStart
  s.answer m (if ok then 0 else stBADSTATE) []

def execNetStart (s : State) : Out := msgRow (isType 0x11) State.startMsg s

/-- NET_STOP (R495): answered once RUNNING = 0; until then the message stays in front. -/
def State.stopMsg (m : Msg) (s : State) : State :=
  if s.relay then s.answer m stBADSTATE []
  else
    let s := s.runStop
    if s.running then s.putBack m
    else s.answer m 0 (bytesBE 8 s.ctl.step.toNat)

def execNetStop (s : State) : Out := msgRow (isType 0x12) State.stopMsg s

/-! ## CHECKPOINT (R496) -/

def State.setStage (s : State) (l : LongOp) (n : Nat) : State := s.setLong (some { l with stage := n, idx := 0 })

/-- A wythe of the scope has nothing left to drain. -/
def State.drainedOrOff (s : State) (east : Bool) : Bool := !s.domOn (if east then dMTE else dMTW) || s.wytheDrained east

/-- A checkpoint's answer is sent; the tiles, the holds and, with RESUME, stepping return. -/
def State.ckptDone (s : State) (l : LongOp) (ok : Bool) (bytes : List Nat) : State :=
  let b := l.msg.body
  let step := s.ctl.step.toNat
  let s := l.tiles.foldl (fun s t => if s.tileUp t then s.tileEnable t else s) s
  let s := s.injHold 0
  let s := if bitAt (b.getD 16 0) 0 then s.runStart else s
  (s.setLong none).answer l.msg (if ok then 0 else stFAILED) (bytesBE 8 (if ok then bytes.length else 0) ++ bytesBE 8 step)

/-- The container is written. -/
def State.ckptEnd (s : State) (l : LongOp) : State :=
  let b := l.msg.body
  let bytes := s.ckptBytes s.ctl.step.toNat
  if ofBE (slice b 8 8) < bytes.length then s.ckptDone l false bytes
  else
    match s.engWrite iSCHED (ofBE (slice b 0 8) % 2 ^ 48) bytes with
    | .done s .ok _ => s.ckptDone l true bytes
    | .done s .. => s.ckptDone l false bytes
    | .wait s => s

/-- One stage of a checkpoint; false: it waits. -/
def State.ckptStep (s : State) (l : LongOp) : State × Bool :=
  match l.stage with
  | 0 => if s.running then (s, false) else ((s.injHold 0x2F0000).setStage l 1, true)
  | 1 =>
    if s.drainedOrOff false && s.drainedOrOff true then
      let ts := (List.range 1024).filter fun t => s.en .tile t && s.tileUp t
      (((ts.foldl (fun s t => s.tileDisable t) s)).setStage { l with tiles := ts } 2, true)
    else (s, false)
  | _ => if l.tiles.any fun t => s.en .tile t then (s, false) else (s.ckptEnd l, false)

/-- Stages of a long operation as far as none waits. -/
def State.longGo (step : State → LongOp → State × Bool) : Nat → State → State
  | 0, s => s
  | n + 1, s =>
    match s.host.long with
    | none => s
    | some l =>
      match step s l with
      | (s, true) => State.longGo step n s
      | (s, false) => s

/-- A CHECKPOINT begins: RUN = 0. -/
def State.ckptBegin (m : Msg) (s : State) : State := State.longGo State.ckptStep 3 ((s.runStop).setLong (some { msg := m }))

/-- CHECKPOINT (R496). -/
def execCheckpoint (s : State) : Out := longRow 0x13 State.ckptBegin (fun _ s => State.longGo State.ckptStep 3 s) s

/-! ## TABLE_UPDATE (R265, R470) -/

/-- Entry `i`: chip, local address, value. -/
def tuEntry (b : List Nat) (i : Nat) : Nat × Nat × Nat :=
  let ga := ofBE (slice b (8 + 12 * i) 6)
  let c := ga / 2 ^ 38 % 1024
  (if c = 0x3FF ∧ !bitAt (ofBE (slice b (18 + 12 * i) 2)) 0 then 0 else c, ga % 2 ^ 38, ofBE (slice b (14 + 12 * i) 4))

def tuCount (b : List Nat) : Nat := ofBE (slice b 4 2)

/-- The chips that the entries name, in order. -/
def tuChips (b : List Nat) : List Nat := ((List.range (tuCount b)).map fun i => (tuEntry b i).1).eraseDups

/-- The wythes whose sources HOLD names: west, east. -/
def holdScope (v : Nat) : Bool × Bool :=
  let clu := fun (e : Bool) => (List.range 16).any fun c => clusterEast c == e && bitAt v c
  (clu false || bitAt v 16 || bitAt v 17 || bitAt v 19 || bitAt v 20 || bitAt v 21, clu true || bitAt v 18 || bitAt v 21)

/-- The access of a worker's word for the long operation: its outcome and word once they are here. -/
def State.longRemote (s : State) (l : LongOp) (chip : Nat) (write : Bool) (a v : Nat) : State × Option (Nat × Nat) :=
  match l.reply with
  | some r => (s.setLong (some { l with reply := none }), some r)
  | none =>
    if l.await.isSome then (s, none)
    else
      let (s, q) := s.fwdSend chip write 1 a (if write then [v] else [])
      (s.setLong (some { l with await := some q }), none)

/-- The hold of one chip is written; the outcome once it is known. -/
def State.tuHold (s : State) (l : LongOp) (chip v : Nat) : State × Option Nat :=
  if chip = 0 then (s.injHold v, some 0)
  else
    match s.longRemote l chip true MTR_INJ_HOLD.addr v with
    | (s, some (st, _)) => (s, some st)
    | (s, none) => (s, none)

/-- The next one of a stage. -/
def State.tuNext (s : State) (l : LongOp) : State := s.setLong (some { l with idx := l.idx + 1, reply := none })

/-- One stage of a table update; false: it waits. -/
def State.tuStep (s : State) (l : LongOp) : State × Bool :=
  let b := l.msg.body
  let hold := ofBE (slice b 0 4)
  let chip := (tuChips b)[l.idx]?
  let fail := fun (s : State) (code : Nat) => s.setStage { l with code := code, reply := none } 4
  match l.stage with
  | 0 => if s.running then (s, false) else (s.setStage l 1, true)
  | 1 =>
    match chip with
    | none => (s.setStage l 2, true)
    | some c =>
      match s.tuHold l c hold with
      | (s, some 0) => (s.tuNext l, true)
      | (s, some st) => (fail s st, true)
      | (s, none) => (s, false)
  | 2 =>
    match chip with
    | none => (s.setStage l 3, true)
    | some 0 =>
      if (!(holdScope hold).1 || s.drainedOrOff false) && (!(holdScope hold).2 || s.drainedOrOff true) then (s.tuNext l, true) else (s, false)
    | some c =>
      match s.longRemote l c false MTR_DRAIN.addr 0 with
      | (s, some (0, w)) =>
        if (!(holdScope hold).1 || bitAt w 0 || !bitAt w 2) && (!(holdScope hold).2 || bitAt w 1 || !bitAt w 3) then (s.tuNext l, true)
        else (s, false)
      | (s, some (st, _)) => (fail s st, true)
      | (s, none) => (s, false)
  | 3 =>
    if tuCount b ≤ l.idx then (s.setStage l 4, true)
    else
      let (c, a, v) := tuEntry b l.idx
      let done := fun (s : State) (st : Nat) =>
        if st = 0 then s.tuNext { l with ndone := l.ndone + 1 } else fail s st
      if c = 0 then
        match s.wordWrite iSCHED a v with
        | (s, true, _) => (s, false)
        | (s, false, st) => (done s st.code.toNat, true)
      else
        match s.longRemote l c true a v with
        | (s, some (st, _)) => (done s st, true)
        | (s, none) => (s, false)
  | 4 =>
    match chip with
    | none => (s.setStage l 5, true)
    | some c =>
      match s.tuHold l c 0 with
      | (s, some _) => (s.tuNext l, true)
      | (s, none) => (s, false)
  | _ =>
    let step := s.ctl.step.toNat
    let s := (s.runStart).setLong none
    (s.answer l.msg (if l.ndone < tuCount b then stFAILED else 0) (bytesBE 2 l.ndone ++ [l.code, 0] ++ bytesBE 8 step), false)

/-- Steps that a table update can take without waiting. -/
def tuFuel : Nat := 4 * 256 + 8

/-- A TABLE_UPDATE begins, on the manager only. -/
def State.tuBegin (m : Msg) (s : State) : State :=
  if !s.isManager then s.answer m stBADSTATE []
  else State.longGo State.tuStep tuFuel ((s.runStop).setLong (some { msg := m }))

/-- TABLE_UPDATE (R470). -/
def execTableUpdate (s : State) : Out := longRow 0x14 State.tuBegin (fun _ s => State.longGo State.tuStep tuFuel s) s

/-! ## Footing (R500, R508) -/

/-- FOOT_ENTER: before step 10 has ended footing mode is not available. -/
def State.footEnterMsg (m : Msg) (s : State) : State :=
  if s.step10Done then ((s.answer m 0 []).setF FOOT_STAT_CMD_CAUSE 0).footEnter else s.answer m stBADSTATE []

def execFootEnter (s : State) : Out := msgRow (isType 0x20) State.footEnterMsg s

/-- The conditions of R508. -/
def State.footExitOk (s : State) (pinLow bandBad : Bool) : Bool :=
  s.b FOOT_STAT_ACTIVE && s.bound && s.host.hello && s.secRuns && !pinLow && !bandBad && decide (sgn 16 (s.f PWR_THERM_TJ) < 115 * 16)

/-- The NET_LOAD that the body of a FOOT_EXIT asks for. -/
def exitLoad (m : Msg) : Msg :=
  { m with bytes := m.bytes.take 2 ++ bytesBE 2 0x10 ++ slice m.bytes 4 2 ++ bytesBE 2 32 ++ slice m.bytes 8 8 ++ slice m.body 0 16 }

/-- FOOT_EXIT: the footing network stops, votes act again and what is held rises; memory trains with its contents preserved, the cluster
firmware is sent again, the answer leaves, and the load begins. It waits while the SYS gateway is held. -/
def State.footExitMsg (pinLow bandBad : Bool) (vfail fail differ lost : Nat) (m : Msg) (s : State) : State :=
  if !s.footExitOk pinLow bandBad then s.answer m stBADSTATE []
  else if s.bcastHeld (s.recMethod 9) then s.putBack m
  else
    let s := (List.range 30).foldl (fun s d => s.rise d) s.footLeave
    let s := (List.range 48).foldl (fun s n => if s.domOn (memDom n) then s.setF (MEM_CFG_PRESERVE n) 1 else s) s
    let (s, r) := s.trainMemory (s.recMethod 6 == mSTORED) vfail fail
    let (s, _) := s.broadcastFw (s.recMethod 9 == mALT) differ lost
    let s := s.answer m (if r = rFAILED then stFAILED else 0) []
    if ofBE (slice m.body 0 8) = 0 then s else State.loadBegin (exitLoad m) s

/-- FOOT_EXIT (R508). -/
def execFootExit (pinLow bandBad : Bool) (vfail fail : BitVec 48) (differ lost : BitVec 16) (s : State) : Out :=
  msgRow (isType 0x21) (State.footExitMsg pinLow bandBad vfail.toNat fail.toNat differ.toNat lost.toNat) s

/-! ## Attestation and keys (R549, R550) -/

/-- Bytes 0 to 383 of an attestation report. -/
def State.attestHead (s : State) (nonce : List Nat) : List Nat :=
  let u := s.fuse
  let vault := s.secure.vault.getD 0
  bytesLE 4 0x54535441 ++ bytesLE 2 1 ++
    [u.lc, s.f SEC_TAMPER_SEEN + 2 * bn u.ikey.isSome + 4 * bn u.pair.isSome + 8 * bn s.debugOk] ++
    bytesLE 8 s.tb.toNat ++ bytesLE 4 (s.regView iSEC .sys 0 0x040) ++ bytesLE 4 (s.regView iSEC .sys 0 0x048) ++
    bytesLE 4 (s.rd REC_CYCLES.addr).toNat ++ bytesLE 4 (s.rd REC_MINUTES.addr).toNat ++ bytesLE 8 u.uid ++ bytesLE 24 0 ++ nonce ++
    ((List.range 64).map fun i => (Config.identityPub vault i).toNat) ++ (List.range 4).flatMap s.meas ++
    digest (s.recWords.flatMap fun w => bytesLE 4 w.toNat) ++ bytesLE 32 u.vkey.toNat ++ bytesLE 32 (u.ikey.getD 0).toNat

/-- The report with its signature. -/
def State.attestReport (s : State) (nonce : List Nat) : List Nat :=
  let h := s.attestHead nonce
  h ++ (List.range 49856).map fun i => (Config.identitySign (s.secure.vault.getD 0) h i).toNat

/-- ATTEST. -/
def State.attestMsg (m : Msg) (s : State) : State :=
  let b := m.body
  if !s.secRuns then s.answer m stBADSTATE []
  else if ofBE (slice b 40 4) < 50240 then s.answer m stFAILED []
  else
    let r := s.attestReport (slice b 0 32)
    match s.engWrite iSEC (ofBE (slice b 32 8) % 2 ^ 48) r with
    | .done s .ok _ => s.answer m 0 (bytesBE 4 r.length)
    | .done s .. => s.answer m stFAILED []
    | .wait s => s.putBack m

/-- ATTEST (R549). -/
def execAttest (s : State) : Out := msgRow (isType 0x30) State.attestMsg s

/-- A KEY_INSTALL of operation `op`. -/
def isKey (op : Nat) (m : Msg) : Bool := m.type == 0x31 && m.op == op

/-- OP 0x01: only in PROVISIONED, and once. -/
def State.fuseKeyMsg (m : Msg) (s : State) : State :=
  if !s.secRuns || s.fuse.lc != 2 || s.fuse.pair.isSome then s.answer m stBADSTATE []
  else
    let s := { s with fuse := { s.fuse with pair := some (BitVec.ofNat 256 (ofBE (slice m.body 36 32))) } }
    (s.setF SEC_LC_PAIRED 1).answer m 0 []

/-- FUSE_PAIRING_KEY (R550). -/
def execFusePairingKey (s : State) : Out := msgRow (isKey 1) State.fuseKeyMsg s

/-- The other operations need the pairing key, and END refuses them. -/
def State.keysOk (s : State) : Bool := s.secRuns && s.fuse.pair.isSome && s.fuse.lc != 5

/-- Association number of a KEY_INSTALL. -/
def keyAn (m : Msg) : Nat := m.body.getD 1 0 % 128

/-- The association that a KEY_INSTALL installs. -/
def keyAssoc (m : Msg) (sak : BitVec 256) : Assoc :=
  { an := keyAn m, sci := ofBE (slice m.body 4 8), pn := ofBE (slice m.body 12 8), ssci := ofBE (slice m.body 20 4),
    salt := ofBE (slice m.body 24 12), key := sak.toNat }

/-- An installed association replaces the one of its number; a channel holds two. -/
def withAssoc (l : List Assoc) (a : Assoc) : Option (List Assoc) :=
  let r := l.filter fun x => x.an != a.an
  if 2 ≤ r.length then none else some (r ++ [a])

/-- An install: `put` takes the association where its channel has room. -/
def State.keyInstall (s : State) (m : Msg) (put : Assoc → State → Option State) : State :=
  if !s.keysOk then s.answer m stBADSTATE []
  else if 4 ≤ keyAn m then s.answer m stFAILED []
  else
    match Config.keyUnwrap (s.fuse.pair.getD 0) (slice m.body 36 40) with
    | none => s.answer m stAUTHFAIL []
    | some k =>
      match put (keyAssoc m k) s with
      | some s => s.answer m 0 []
      | none => s.answer m stBADSTATE []

/-- OP 0x02. -/
def State.putRx (a : Assoc) (s : State) : Option State :=
  (withAssoc s.host.rx a).map fun l => { s with host := { s.host with rx := l } }

def State.installRxMsg (m : Msg) (s : State) : State := s.keyInstall m State.putRx

/-- INSTALL_RX_ASSOCIATION (R550). -/
def execInstallRxAssociation (s : State) : Out := msgRow (isKey 2) State.installRxMsg s

/-- OP 0x03, with ACTIVATE: transmission switches to the association. -/
def State.putTx (act : Bool) (a : Assoc) (s : State) : Option State :=
  (withAssoc s.host.txa a).map fun l =>
    let s := { s with host := { s.host with txa := l } }
    if act then { s with host := { s.host with txOn := true } }.setF HOST_SEC_TX_AN a.an else s

def State.installTxMsg (m : Msg) (s : State) : State := s.keyInstall m (State.putTx (bitAt (m.body.getD 1 0) 7))

/-- INSTALL_TX_ASSOCIATION (R550). -/
def execInstallTxAssociation (s : State) : Out := msgRow (isKey 3) State.installTxMsg s

/-- OP 0x04: the association of the number and SCI. -/
def State.retireMsg (m : Msg) (s : State) : State :=
  if !s.keysOk then s.answer m stBADSTATE []
  else
    let sci := ofBE (slice m.body 4 8)
    let keep := fun (a : Assoc) => !(a.an == keyAn m && a.sci == sci)
    let l := s.host.txa.filter keep
    let on := s.host.txOn && l.any fun a => a.an == s.f HOST_SEC_TX_AN
    { s with host := { s.host with rx := s.host.rx.filter keep, txa := l, txOn := on } }.answer m 0 []

/-- RETIRE_ASSOCIATION (R550). -/
def execRetireAssociation (s : State) : Out := msgRow (isKey 4) State.retireMsg s

/-- OP 0x05. -/
def State.requireMsg (m : Msg) (s : State) : State :=
  if !s.keysOk then s.answer m stBADSTATE [] else (if s.hostOn then s.setF HOST_SEC_REQUIRE 1 else s).answer m 0 []

/-- SET_REQUIRE (R550). -/
def execSetRequire (s : State) : Out := msgRow (isKey 5) State.requireMsg s

/-! ## LINK_MAP (R338, R443) -/

def State.linkMapMsg (m : Msg) (s : State) : State := s.answer m 0 ((Config.linkMapBytes s.linkmap).take 3056)

/-- LINK_MAP (R443). -/
def execLinkMap (s : State) : Out := msgRow (isType 0x40) State.linkMapMsg s

end Sys2Proof.Machine
end

