-- ==== Sys2Proof/Machine/Dispatch.lean ====
section
/-! DEFINITION. The command dispatch: one arm per constructor of `Instr`, each one direct call of its meaning. -/

namespace Sys2Proof.Machine
open Sys2Proof

/-- The effect of a command on everything but the queue. -/
def exec (i : Instr) (s : State) : Host.Outcome State Fault Refusal :=
  match i with
  | .porstNRelease manager spi foot15 => Sys2Proof.Machine.execPorstNRelease manager spi foot15 s
  | .porstNAssert power => Sys2Proof.Machine.execPorstNAssert power s
  | .supplyMonitorReset mon => Sys2Proof.Machine.execSupplyMonitorReset mon s
  | .supplyBandFooting east => Sys2Proof.Machine.execSupplyBandFooting east s
  | .sysReset v => Sys2Proof.Machine.execSysReset v s
  | .registerWrite ini addr v => Sys2Proof.Machine.execRegisterWrite ini addr v s
  | .rcRead ini addr => Sys2Proof.Machine.execRcRead ini addr s
  | .w1cWrite ini addr v => Sys2Proof.Machine.execW1cWrite ini addr v s
  | .intSet page v => Sys2Proof.Machine.execIntSet page v s
  | .intEnableWrite page v => Sys2Proof.Machine.execIntEnableWrite page v s
  | .blockDisable page => Sys2Proof.Machine.execBlockDisable page s
  | .blockDrainDone page => Sys2Proof.Machine.execBlockDrainDone page s
  | .drainTimeoutExpire page => Sys2Proof.Machine.execDrainTimeoutExpire page s
  | .force page => Sys2Proof.Machine.execForce page s
  | .blockEnable page => Sys2Proof.Machine.execBlockEnable page s
  | .readReq ini h => Sys2Proof.Machine.execReadReq ini h s
  | .writeReq ini h data => Sys2Proof.Machine.execWriteReq ini h data s
  | .readRsp h data => Sys2Proof.Machine.execReadRsp h data s
  | .writeAck h => Sys2Proof.Machine.execWriteAck h s
  | .routerHop r k => Sys2Proof.Machine.execRouterHop r k s
  | .psumWindowExpire r k => Sys2Proof.Machine.execPsumWindowExpire r k s
  | .collarCrossing row toEast k => Sys2Proof.Machine.execCollarCrossing row toEast k s
  | .routerSink t p => Sys2Proof.Machine.execRouterSink t p s
  | .collarSinkPacket row toEast p => Sys2Proof.Machine.execCollarSinkPacket row toEast p s
  | .mtrDrained east => Sys2Proof.Machine.execMtrDrained east s
  | .mtrInjHoldWrite v => Sys2Proof.Machine.execMtrInjHoldWrite v s
  | .rtDisable t => Sys2Proof.Machine.execRtDisable t s
  | .bcastLoadDeliver c offset data => Sys2Proof.Machine.execBcastLoadDeliver c offset data s
  | .spikeArrival t axon payload prio step => Sys2Proof.Machine.execSpikeArrival t axon payload prio step s
  | .psumArrival t neuron step ccount sum => Sys2Proof.Machine.execPsumArrival t neuron step ccount sum s
  | .synapseEvent t => Sys2Proof.Machine.execSynapseEvent t s
  | .psumEntry t => Sys2Proof.Machine.execPsumEntry t s
  | .coldAdmit c => Sys2Proof.Machine.execColdAdmit c s
  | .coldRowReturn c id => Sys2Proof.Machine.execColdRowReturn c id s
  | .coldFetchFail c id => Sys2Proof.Machine.execColdFetchFail c id s
  | .coldUnitTimeout c id => Sys2Proof.Machine.execColdUnitTimeout c id s
  | .coldStaleReply c id => Sys2Proof.Machine.execColdStaleReply c id s
  | .cluColdAge c => Sys2Proof.Machine.execCluColdAge c s
  | .immediateTouch t => Sys2Proof.Machine.execImmediateTouch t s
  | .tileClose t step short exh => Sys2Proof.Machine.execTileClose t step short exh s
  | .tileDrainDone t => Sys2Proof.Machine.execTileDrainDone t s
  | .tileCommit t => Sys2Proof.Machine.execTileCommit t s
  | .tileRun t n => Sys2Proof.Machine.execTileRun t n s
  | .tileRunEnd t => Sys2Proof.Machine.execTileRunEnd t s
  | .emitPacket t => Sys2Proof.Machine.execEmitPacket t s
  | .emissionFinished t => Sys2Proof.Machine.execEmissionFinished t s
  | .tileDisable t => Sys2Proof.Machine.execTileDisable t s
  | .tileStoppedClose t step short exh => Sys2Proof.Machine.execTileStoppedClose t step short exh s
  | .tileEnable t => Sys2Proof.Machine.execTileEnable t s
  | .tileLfsrWrite t v => Sys2Proof.Machine.execTileLfsrWrite t v s
  | .tileStatClr t v => Sys2Proof.Machine.execTileStatClr t v s
  | .tileConvRead t n => Sys2Proof.Machine.execTileConvRead t n s
  | .cluMseArm c k v => Sys2Proof.Machine.execCluMseArm c k v s
  | .cluMseSumLoRead c k => Sys2Proof.Machine.execCluMseSumLoRead c k s
  | .nop t n pr pn => Sys2Proof.Machine.execNop t n pr pn s
  | .endTouch t n pr pn => Sys2Proof.Machine.execEndTouch t n pr pn s
  | .alu t n rd ra rb fn pr pn => Sys2Proof.Machine.execAlu t n rd ra rb fn pr pn s
  | .addi t n rd ra imm pr pn => Sys2Proof.Machine.execAddi t n rd ra imm pr pn s
  | .andi t n rd ra imm pr pn => Sys2Proof.Machine.execAndi t n rd ra imm pr pn s
  | .shi t n rd ra imm pr pn => Sys2Proof.Machine.execShi t n rd ra imm pr pn s
  | .ldi t n rd imm pr pn => Sys2Proof.Machine.execLdi t n rd imm pr pn s
  | .ldih t n rd imm pr pn => Sys2Proof.Machine.execLdih t n rd imm pr pn s
  | .cmp t n rd ra rb fn pr pn => Sys2Proof.Machine.execCmp t n rd ra rb fn pr pn s
  | .br t n mode prb off => Sys2Proof.Machine.execBr t n mode prb off s
  | .ldn t n rd fn pr pn => Sys2Proof.Machine.execLdn t n rd fn pr pn s
  | .stn t n ra fn pr pn => Sys2Proof.Machine.execStn t n ra fn pr pn s
  | .ldacc t n rd pr pn => Sys2Proof.Machine.execLdacc t n rd pr pn s
  | .fold t n rd ra pr pn => Sys2Proof.Machine.execFold t n rd ra pr pn s
  | .decay t n rd ra pr pn => Sys2Proof.Machine.execDecay t n rd ra pr pn s
  | .decayx t n rd ra imm pr pn => Sys2Proof.Machine.execDecayx t n rd ra imm pr pn s
  | .fire t n rd ra pr pn => Sys2Proof.Machine.execFire t n rd ra pr pn s
  | .emitk t n ra pr pn => Sys2Proof.Machine.execEmitk t n ra pr pn s
  | .pend t n pr pn => Sys2Proof.Machine.execPend t n pr pn s
  | .mulsh t n rd ra fn pr pn => Sys2Proof.Machine.execMulsh t n rd ra fn pr pn s
  | .srnd t n rd ra imm pr pn => Sys2Proof.Machine.execSrnd t n rd ra imm pr pn s
  | .tlu t n rd ra imm pr pn => Sys2Proof.Machine.execTlu t n rd ra imm pr pn s
  | .lds t n rd ra imm pr pn => Sys2Proof.Machine.execLds t n rd ra imm pr pn s
  | .sts t n rd ra imm pr pn => Sys2Proof.Machine.execSts t n rd ra imm pr pn s
  | .ldg t n rd ra rb pr pn => Sys2Proof.Machine.execLdg t n rd ra rb pr pn s
  | .stg t n rd ra rb pr pn => Sys2Proof.Machine.execStg t n rd ra rb pr pn s
  | .threadResume t n => Sys2Proof.Machine.execThreadResume t n s
  | .bfx t n rd ra imm pr pn => Sys2Proof.Machine.execBfx t n rd ra imm pr pn s
  | .bfi t n rd ra imm pr pn => Sys2Proof.Machine.execBfi t n rd ra imm pr pn s
  | .hopen t n rd ra pr pn => Sys2Proof.Machine.execHopen t n rd ra pr pn s
  | .hsend t n rd ra rb pr pn => Sys2Proof.Machine.execHsend t n rd ra rb pr pn s
  | .hrecv t n rd ra rb pr pn => Sys2Proof.Machine.execHrecv t n rd ra rb pr pn s
  | .waitstep t n pr pn => Sys2Proof.Machine.execWaitstep t n pr pn s
  | .plasticEvent t => Sys2Proof.Machine.execPlasticEvent t s
  | .postPass t => Sys2Proof.Machine.execPostPass t s
  | .tilePlDirData t v => Sys2Proof.Machine.execTilePlDirData t v s
  | .tilePlModWrite t hi v => Sys2Proof.Machine.execTilePlModWrite t hi v s
  | .liftEndWriteback c => Sys2Proof.Machine.execLiftEndWriteback c s
  | .liftEndPromotion c => Sys2Proof.Machine.execLiftEndPromotion c s
  | .kilnRingTailWrite c v => Sys2Proof.Machine.execKilnRingTailWrite c v s
  | .kilnWrite => Sys2Proof.Machine.execKilnWrite s
  | .kilnRead => Sys2Proof.Machine.execKilnRead s
  | .kilnSeal => Sys2Proof.Machine.execKilnSeal s
  | .kilnMount => Sys2Proof.Machine.execKilnMount s
  | .kilnDisable => Sys2Proof.Machine.execKilnDisable s
  | .tieTokenDetect p => Sys2Proof.Machine.execTieTokenDetect p s
  | .tieTrainAttempt p w pass lock err => Sys2Proof.Machine.execTieTrainAttempt p w pass lock err s
  | .tieUp p => Sys2Proof.Machine.execTieUp p s
  | .assign p pos sender wm1 hm1 => Sys2Proof.Machine.execAssign p pos sender wm1 hm1 s
  | .accept p origin => Sys2Proof.Machine.execAccept p origin s
  | .conflict p => Sys2Proof.Machine.execConflict p s
  | .tieDataFrame p hdr crc data => Sys2Proof.Machine.execTieDataFrame p hdr crc data s
  | .tieTreeFrame p hdr crc data => Sys2Proof.Machine.execTieTreeFrame p hdr crc data s
  | .tieCtrlFrame p hdr crc w0 w1 => Sys2Proof.Machine.execTieCtrlFrame p hdr crc w0 w1 s
  | .tieCtrlSend p => Sys2Proof.Machine.execTieCtrlSend p s
  | .tieRetxTimeout p => Sys2Proof.Machine.execTieRetxTimeout p s
  | .tieLos p => Sys2Proof.Machine.execTieLos p s
  | .tieDown p cause => Sys2Proof.Machine.execTieDown p cause s
  | .tieUnroutable p pkt => Sys2Proof.Machine.execTieUnroutable p pkt s
  | .tieReqTimeout p k => Sys2Proof.Machine.execTieReqTimeout p k s
  | .tieReplyMatch p pkt => Sys2Proof.Machine.execTieReplyMatch p pkt s
  | .tieToken p => Sys2Proof.Machine.execTieToken p s
  | .tieDisable p => Sys2Proof.Machine.execTieDisable p s
  | .mgmtRegisterFrame schip seq data => Sys2Proof.Machine.execMgmtRegisterFrame schip seq data s
  | .mgmtMailboxFrame schip seq data => Sys2Proof.Machine.execMgmtMailboxFrame schip seq data s
  | .mgmtForwardTimeout => Sys2Proof.Machine.execMgmtForwardTimeout s
  | .memLineRead n k e1 e2 => Sys2Proof.Machine.execMemLineRead n k e1 e2 s
  | .memLineWrite n k e1 e2 => Sys2Proof.Machine.execMemLineWrite n k e1 e2 s
  | .memFillGo n v => Sys2Proof.Machine.execMemFillGo n v s
  | .memFillDone n => Sys2Proof.Machine.execMemFillDone n s
  | .crcMessage k own bytes => Sys2Proof.Machine.execCrcMessage k own bytes s
  | .crcEnable k => Sys2Proof.Machine.execCrcEnable k s
  | .hwRefetchReply t => Sys2Proof.Machine.execHwRefetchReply t s
  | .parPendDone t => Sys2Proof.Machine.execParPendDone t s
  | .parPendFail t => Sys2Proof.Machine.execParPendFail t s
  | .parHoldTimeout t fw => Sys2Proof.Machine.execParHoldTimeout t fw s
  | .parBucketLeak c => Sys2Proof.Machine.execParBucketLeak c s
  | .repointRegion cl u fail => Sys2Proof.Machine.execRepointRegion cl u fail s
  | .tileParLogRead t => Sys2Proof.Machine.execTileParLogRead t s
  | .retirementWrite ini addr v => Sys2Proof.Machine.execRetirementWrite ini addr v s
  | .bankReturn t => Sys2Proof.Machine.execBankReturn t s
  | .cluSecWinWrite ini v => Sys2Proof.Machine.execCluSecWinWrite ini v s
  | .csiLongPacket k vc dt hdr crcBad data => Sys2Proof.Machine.execCsiLongPacket k vc dt hdr crcBad data s
  | .csiShortPacket k vc dt num => Sys2Proof.Machine.execCsiShortPacket k vc dt num s
  | .tokenBucketRefill p => Sys2Proof.Machine.execTokenBucketRefill p s
  | .aerWord k w => Sys2Proof.Machine.execAerWord k w s
  | .t1sFrame p sym fcs dst src etype payload => Sys2Proof.Machine.execT1sFrame p sym fcs dst src etype payload s
  | .portInject p => Sys2Proof.Machine.execPortInject p s
  | .spillRingWrite k => Sys2Proof.Machine.execSpillRingWrite k s
  | .spillRingRead k => Sys2Proof.Machine.execSpillRingRead k s
  | .portDisable p => Sys2Proof.Machine.execPortDisable p s
  | .mapTableWrite ini addr v => Sys2Proof.Machine.execMapTableWrite ini addr v s
  | .mapDataAccess ini p v => Sys2Proof.Machine.execMapDataAccess ini p v s
  | .actuatorTriggerClose p step short exh => Sys2Proof.Machine.execActuatorTriggerClose p step short exh s
  | .send p j => Sys2Proof.Machine.execSend p j s
  | .actuatorFrameSent p j coll => Sys2Proof.Machine.execActuatorFrameSent p j coll s
  | .gpioEdge n level => Sys2Proof.Machine.execGpioEdge n level s
  | .gpioSet v => Sys2Proof.Machine.execGpioSet v s
  | .gpioClr v => Sys2Proof.Machine.execGpioClr v s
  | .runStart => Sys2Proof.Machine.execRunStart s
  | .runStop => Sys2Proof.Machine.execRunStop s
  | .step => Sys2Proof.Machine.execStep s
  | .forceClose => Sys2Proof.Machine.execForceClose s
  | .tmrStepStartHiWrite v => Sys2Proof.Machine.execTmrStepStartHiWrite v s
  | .tmrStepLoRead => Sys2Proof.Machine.execTmrStepLoRead s
  | .stepPeriodEnd => Sys2Proof.Machine.execStepPeriodEnd s
  | .seal step => Sys2Proof.Machine.execSeal step s
  | .poll r step round => Sys2Proof.Machine.execPoll r step round s
  | .count r => Sys2Proof.Machine.execCount r s
  | .roundComplete => Sys2Proof.Machine.execRoundComplete s
  | .roundTimeout => Sys2Proof.Machine.execRoundTimeout s
  | .roundGapExpire => Sys2Proof.Machine.execRoundGapExpire s
  | .stepDeadline => Sys2Proof.Machine.execStepDeadline s
  | .start step => Sys2Proof.Machine.execStart step s
  | .workerClose step short exh => Sys2Proof.Machine.execWorkerClose step short exh s
  | .reporterClose rep step => Sys2Proof.Machine.execReporterClose rep step s
  | .hostFrameReceive f => Sys2Proof.Machine.execHostFrameReceive f s
  | .gptpFrame sync => Sys2Proof.Machine.execGptpFrame sync s
  | .claim src chip token => Sys2Proof.Machine.execClaim src chip token s
  | .regReq seq chip body => Sys2Proof.Machine.execRegReq seq chip body s
  | .responderBucketRefill => Sys2Proof.Machine.execResponderBucketRefill s
  | .mbox seq chip body => Sys2Proof.Machine.execMbox seq chip body s
  | .streamIn seq chip body => Sys2Proof.Machine.execStreamIn seq chip body s
  | .outputSpike axon payload step => Sys2Proof.Machine.execOutputSpike axon payload step s
  | .streamEarlyFrames => Sys2Proof.Machine.execStreamEarlyFrames s
  | .streamFinalFrames step short exh => Sys2Proof.Machine.execStreamFinalFrames step short exh s
  | .heartbeatRecognise => Sys2Proof.Machine.execHeartbeatRecognise s
  | .leaseLapse => Sys2Proof.Machine.execLeaseLapse s
  | .graceExpire => Sys2Proof.Machine.execGraceExpire s
  | .hostBindRelease => Sys2Proof.Machine.execHostBindRelease s
  | .pnLow => Sys2Proof.Machine.execPnLow s
  | .hostLinkChange up => Sys2Proof.Machine.execHostLinkChange up s
  | .hostStreamDisable => Sys2Proof.Machine.execHostStreamDisable s
  | .hello => Sys2Proof.Machine.execHello s
  | .heartbeat => Sys2Proof.Machine.execHeartbeat s
  | .leaseCfg => Sys2Proof.Machine.execLeaseCfg s
  | .release => Sys2Proof.Machine.execRelease s
  | .netLoad => Sys2Proof.Machine.execNetLoad s
  | .netStart => Sys2Proof.Machine.execNetStart s
  | .netStop => Sys2Proof.Machine.execNetStop s
  | .checkpoint => Sys2Proof.Machine.execCheckpoint s
  | .tableUpdate => Sys2Proof.Machine.execTableUpdate s
  | .footEnter => Sys2Proof.Machine.execFootEnter s
  | .footExit pinLow bandBad vfail fail differ lost => Sys2Proof.Machine.execFootExit pinLow bandBad vfail fail differ lost s
  | .attest => Sys2Proof.Machine.execAttest s
  | .fusePairingKey => Sys2Proof.Machine.execFusePairingKey s
  | .installRxAssociation => Sys2Proof.Machine.execInstallRxAssociation s
  | .installTxAssociation => Sys2Proof.Machine.execInstallTxAssociation s
  | .retireAssociation => Sys2Proof.Machine.execRetireAssociation s
  | .setRequire => Sys2Proof.Machine.execSetRequire s
  | .linkMap => Sys2Proof.Machine.execLinkMap s
  | .coreCrash k cause => Sys2Proof.Machine.execCoreCrash k cause s
  | .watchdogExpire k => Sys2Proof.Machine.execWatchdogExpire k s
  | .fatalTrap k => Sys2Proof.Machine.execFatalTrap k s
  | .panic k => Sys2Proof.Machine.execPanic k s
  | .kick k => Sys2Proof.Machine.execKick k s
  | .coreRelease k => Sys2Proof.Machine.execCoreRelease k s
  | .fwcFwLock ini => Sys2Proof.Machine.execFwcFwLock ini s
  | .hodOpen h svc => Sys2Proof.Machine.execHodOpen h svc s
  | .hodSend h handle data => Sys2Proof.Machine.execHodSend h handle data s
  | .hodRecv h handle => Sys2Proof.Machine.execHodRecv h handle s
  | .hodBlockedRecordExpire c k => Sys2Proof.Machine.execHodBlockedRecordExpire c k s
  | .hpcmdOpen k tgt svc => Sys2Proof.Machine.execHpcmdOpen k tgt svc s
  | .hpcmdSend k tgt buf block handle => Sys2Proof.Machine.execHpcmdSend k tgt buf block handle s
  | .hpcmdRecv k tgt buf handle => Sys2Proof.Machine.execHpcmdRecv k tgt buf handle s
  | .hodSendRetry k => Sys2Proof.Machine.execHodSendRetry k s
  | .hodSendTimeout k => Sys2Proof.Machine.execHodSendTimeout k s
  | .hodPortComplete k => Sys2Proof.Machine.execHodPortComplete k s
  | .register c depth svc => Sys2Proof.Machine.execRegister c depth svc s
  | .hodClose c handle => Sys2Proof.Machine.execHodClose c handle s
  | .closeOwner c => Sys2Proof.Machine.execCloseOwner c s
  | .cluHodWsetSelRead c k => Sys2Proof.Machine.execCluHodWsetSelRead c k s
  | .bootCmd v => Sys2Proof.Machine.execBootCmd v s
  | .bootStep0Aon => Sys2Proof.Machine.execBootStep0Aon s
  | .bootStep1Fuses => Sys2Proof.Machine.execBootStep1Fuses s
  | .bootStep2Pll lock => Sys2Proof.Machine.execBootStep2Pll lock s
  | .bootStep3Power w e => Sys2Proof.Machine.execBootStep3Power w e s
  | .bootStep4Bist verify bad tiles => Sys2Proof.Machine.execBootStep4Bist verify bad tiles s
  | .bootStep5Mortar => Sys2Proof.Machine.execBootStep5Mortar s
  | .bootStep6Memory vfail fail => Sys2Proof.Machine.execBootStep6Memory vfail fail s
  | .bootStep7Ties => Sys2Proof.Machine.execBootStep7Ties s
  | .bootStep8Auth => Sys2Proof.Machine.execBootStep8Auth s
  | .bootStep9FwBroadcast differ lost => Sys2Proof.Machine.execBootStep9FwBroadcast differ lost s
  | .bootStep10Mount still => Sys2Proof.Machine.execBootStep10Mount still s
  | .bootStep11Load => Sys2Proof.Machine.execBootStep11Load s
  | .bootStep12Start => Sys2Proof.Machine.execBootStep12Start s
  | .bootStepTimeout => Sys2Proof.Machine.execBootStepTimeout s
  | .bootRecordMirror => Sys2Proof.Machine.execBootRecordMirror s
  | .bootRecClear v => Sys2Proof.Machine.execBootRecClear v s
  | .bootRecWrite w v => Sys2Proof.Machine.execBootRecWrite w v s
  | .footingTrigger code => Sys2Proof.Machine.execFootingTrigger code s
  | .thermalFooting => Sys2Proof.Machine.execThermalFooting s
  | .footNFooting => Sys2Proof.Machine.execFootNFooting s
  | .footCtrlEnter => Sys2Proof.Machine.execFootCtrlEnter s
  | .footCtrlExit => Sys2Proof.Machine.execFootCtrlExit s
  | .footingEntry supply => Sys2Proof.Machine.execFootingEntry supply s
  | .footPinUpdate step => Sys2Proof.Machine.execFootPinUpdate step s
  | .footStatus step short exh => Sys2Proof.Machine.execFootStatus step short exh s
  | .pwrVset d v => Sys2Proof.Machine.execPwrVset d v s
  | .pwrVclr d v => Sys2Proof.Machine.execPwrVclr d v s
  | .domainRise d => Sys2Proof.Machine.execDomainRise d s
  | .domainHoldExpire d => Sys2Proof.Machine.execDomainHoldExpire d s
  | .wake src unit => Sys2Proof.Machine.execWake src unit s
  | .levelChange east => Sys2Proof.Machine.execLevelChange east s
  | .levelChangeDone east => Sys2Proof.Machine.execLevelChangeDone east s
  | .governorWindow avg eastMore => Sys2Proof.Machine.execGovernorWindow avg eastMore s
  | .thermalSample tj => Sys2Proof.Machine.execThermalSample tj s
  | .pllLoss k => Sys2Proof.Machine.execPllLoss k s
  | .tbOffset v => Sys2Proof.Machine.execTbOffset v s
  | .tbLoRead ini => Sys2Proof.Machine.execTbLoRead ini s
  | .timerArm k => Sys2Proof.Machine.execTimerArm k s
  | .tmrArmMulti v => Sys2Proof.Machine.execTmrArmMulti v s
  | .timerStop k => Sys2Proof.Machine.execTimerStop k s
  | .timerMatch k => Sys2Proof.Machine.execTimerMatch k s
  | .timerCapture src rd => Sys2Proof.Machine.execTimerCapture src rd s
  | .tmrCapRead k => Sys2Proof.Machine.execTmrCapRead k s
  | .securityMasks => Sys2Proof.Machine.execSecurityMasks s
  | .hashJob fw go => Sys2Proof.Machine.execHashJob fw go s
  | .hashJobDone fw => Sys2Proof.Machine.execHashJobDone fw s
  | .tamperEvent src => Sys2Proof.Machine.execTamperEvent src s
  | .securityWatchdogExpire => Sys2Proof.Machine.execSecurityWatchdogExpire s
  | .secWdogKick => Sys2Proof.Machine.execSecWdogKick s
  | .recorderSample id v port => Sys2Proof.Machine.execRecorderSample id v port s
  | .recorderWindowEnd => Sys2Proof.Machine.execRecorderWindowEnd s
  | .recorderPersist ok => Sys2Proof.Machine.execRecorderPersist ok s
  | .operatingMinute => Sys2Proof.Machine.execOperatingMinute s
  | .recClr v => Sys2Proof.Machine.execRecClr v s
  | .spiWrite addr words part => Sys2Proof.Machine.execSpiWrite addr words part s
  | .spiRead addr n => Sys2Proof.Machine.execSpiRead addr n s
  | .spiStatus => Sys2Proof.Machine.execSpiStatus s
  | .ident => Sys2Proof.Machine.execIdent s
  | .spiUnknownCommand cmd => Sys2Proof.Machine.execSpiUnknownCommand cmd s
  | .stoppedBankHoldExpire t => Sys2Proof.Machine.execStoppedBankHoldExpire t s
  | .cluColdAgeDone c => Sys2Proof.Machine.execCluColdAgeDone c s

end Sys2Proof.Machine
end

