-- ==== Sys2Proof/Machine/Idle.lean ====
section
/-! DEFINITION. What a step does when no command waits: one count of the time base (R529) and what hangs on it. -/

namespace Sys2Proof.Machine
open Sys2Proof

/-- One count of the time base passes: timers, the end of a wipe (R395), calibrations (R494), a network that waits to start (R495) and
accesses that wait on a held word (R381). -/
def State.idle (s : State) : State := ((s.tick).wipeCheck.calTick).startTick.resume

end Sys2Proof.Machine
end

