-- ==== Sys2Proof/Safety.lean ====
section
/-! DEFINITION. What counts as a safe run, and the words that claims about commands use: the canonical form of the stores, and how far one
state may differ from another (its frame). -/

namespace Sys2Proof.Machine
open Sys2Proof

/-- The canonical form of a byte memory (notes/assumptions/1.md): addresses strictly rising, no entry 0, which an unlisted address reads as. -/
def Memory.wf (m : List Host.Cell) : Bool := Map.wf (fun _ => 0) m

/-- The stores that registers, bytes, tiles and clusters live in are in canonical form. -/
def State.canonical (s : State) : Bool :=
  Map.wf regReset s.regs && Memory.wf s.mem && Map.wf (fun _ => {}) s.tiles && Map.wf (fun _ => {}) s.clusters

/-- A step that completes. -/
def State.stepsTo (s t : State) : Prop := step s = .next t

/-- A run of completed steps is safe: it never ends in a fault or a refusal. -/
def State.safeFor : Nat → State → Prop
  | 0, _ => True
  | n + 1, s => ∃ t, step s = .next t ∧ State.safeFor n t

/-- `t` is `s` but for its registers, and of these only such at addresses where `p` holds. -/
def State.onlyRegs (s t : State) (p : Nat → Prop) : Prop := t = { s with regs := t.regs } ∧ ∀ a, ¬ p a → t.rd a = s.rd a

/-- `t` is `s` but for its registers and its tiles, and of these only such where `p` and `q` hold. -/
def State.onlyTiles (s t : State) (p q : Nat → Prop) : Prop :=
  t = { s with regs := t.regs, tiles := t.tiles } ∧ (∀ a, ¬ p a → t.rd a = s.rd a) ∧ ∀ x, ¬ q x → t.tile x = s.tile x

/-- `t` is `s` but for its registers and its clusters, and of these only such where `p` and `q` hold. -/
def State.onlyClusters (s t : State) (p q : Nat → Prop) : Prop :=
  t = { s with regs := t.regs, clusters := t.clusters } ∧ (∀ a, ¬ p a → t.rd a = s.rd a) ∧ ∀ x, ¬ q x → t.cluster x = s.cluster x

/-- Thread `n` of tile `t` can issue its next instruction in a touch or service run: it does not wait for replies, has budget left, the next
word is in range, no word of the tile has bad parity and the emitter queue is within its size. -/
def State.inTouch (s : State) (t n : Nat) (tc : Touch) : Prop :=
  s.tileUp t = true ∧ (s.thread t n).touch = some tc ∧ tc.wait = false ∧ tc.issued < s.budget t n ∧ tc.pc + 1 < 8192 ∧
    s.parClean t = true ∧ (s.tile t).emitq.length ≤ 32

/-- Neuron `i` of built-in LIF thread `n` is touched for step `st` with no idle time, no refractory time left and no post trace to raise, it has
not fired, and its words are in service. -/
def State.lifAlone (s : State) (t n i st : Nat) : Bool :=
  decide (i < 16384) && s.model t n == 0 && Machine.idle (s.neu t i) st == 0 && rfOf (s.neu t i) == 0 && !bmGet (s.tile t).fired i &&
    !s.postEn t n && !s.blockOff t i && !s.retiredWord t 1 i && !s.retiredWord t 2 i

/-- What the touch of that neuron leaves (R98, R102): its accumulator folded into M16 with saturation, and where that reaches θ a spike
of payload 1, or of the quotient up to 15 where the thread is graded, with θ taken off once for each. -/
def State.lifTouched (s u : State) (t n i st semit : Nat) : Prop :=
  let v := clamp16 (m16 (s.neu t i) + s.acc t i)
  let k : Nat := if v < s.theta t n then 0 else if s.b (TILE_FIRE_GRADED t n) then min 15 (v / s.theta t n).toNat else 1
  let w := putBits (s.neu t i) 7 0 st
  u.neu t i = withM16 (if k = 0 then w else putBits w 11 8 (s.f (TILE_FIRE_REFRAC t n))) (v - k * s.theta t n) ∧
    u.acc t i = 0 ∧ bmGet (u.tile t).active i = false ∧
    bmGet (u.tile t).pend i = decide (s.theta t n ≤ v - k * s.theta t n) ∧
    (u.tile t).emitq = (s.tile t).emitq ++ (if k = 0 then [] else [{ neuron := i, payload := k, step := semit % 256 }]) ∧
    (∀ j, j < 16384 → j ≠ i → u.neu t j = s.neu t j ∧ u.acc t j = s.acc t j)

/-- A packet can enter the mortar now at a port of router `r`: it is well formed, and its lane there has room for it (R249, R266). -/
def State.roomFor (s : State) (r : Nat) (port : Port) (p : Packet) : Bool :=
  !p.bad && s.routerOn r && s.laneRoom r port p (s.laneFor p none) false

/-- The packet has entered router `r` behind the packets in flight. -/
def State.queuedAt (s u : State) (r : Nat) (port : Port) (p : Packet) : Prop :=
  ∃ f : Flight, u.flights = s.flights ++ [f] ∧ f.pkt = p ∧ f.at_ = r ∧ f.inp = port ∧ f.bridge = false

/-- Every byte of external memory from `a` on lies in a good line of a channel that answers, and no request waits (R353–R357). -/
def State.extGood (s : State) (a n : Nat) : Bool :=
  s.memq.isEmpty && (List.range n).all fun i =>
    match s.extMap (a + i) with
    | some (c, l, _) => s.memUp c && s.lineGood c l
    | none => false

/-- Bytes of external memory as their lines hold them. -/
def State.extBytes (s : State) (a n : Nat) : List Nat :=
  (List.range n).map fun i =>
    match s.extMap (a + i) with
    | some (c, l, o) => (lineBytes (s.line c l).data).getD o 0
    | none => 0

/-- An engine or core at router `r`, as initiator `ini`, may reach global address `ga` of this chip (R20, R27, R453). -/
def State.reaches (s : State) (ini ga r : Nat) (write : Bool) : Bool :=
  (s.splitAddr ga).1 == s.chipId && s.fwAllows ini (ga % 2 ^ 38) write && (s.pathRefuses r (s.place (ga % 2 ^ 38))).isNone

/-- It reads `n` bytes there with OK: memory that is powered, in service and of good parity (R379, R392). -/
def State.reads (s : State) (ini ga n r : Nat) : Bool :=
  s.reaches ini ga r false &&
    (match s.place (ga % 2 ^ 38) with
     | .tile t off => s.tileServes t && s.parClean t && !(tileWords off n).any fun w => s.retiredWord t (tileMem off).1 w.1
     | .shm c off => s.domOn (dCLU c) && !s.shmRetired c off && !s.shmWiping c off n && (s.shmBad c off n).isNone
     | .fw d => s.domOn d
     | .ext .. => s.extGood (ga % 2 ^ 38) n
     | _ => false)

/-- The bytes it reads. -/
def State.readBytes (s : State) (ga n : Nat) : List Nat :=
  match s.place (ga % 2 ^ 38) with
  | .ext .. => s.extBytes (ga % 2 ^ 38) n
  | _ => s.bytes n (ga % 2 ^ 38)

/-- It writes `n` bytes of on-chip memory there with OK. -/
def State.writes (s : State) (ini ga n r : Nat) : Bool :=
  s.reaches ini ga r true &&
    (match s.place (ga % 2 ^ 38) with
     | .tile t off => s.tileServes t && s.parClean t && (tileMem off).1 != 2 &&
         !(tileWords off n).any fun w => s.retiredWord t (tileMem off).1 w.1
     | .shm c off => s.domOn (dCLU c) && !s.shmRetired c off && !s.shmWiping c off n
     | .fw d => s.domOn d && decide (0x300010000 ≤ ga % 2 ^ 38)
     | _ => false)

/-- It writes `n` bytes there with OK, in external memory too. -/
def State.stores (s : State) (ini ga n r : Nat) : Bool :=
  s.writes ini ga n r ||
    (s.reaches ini ga r true && (match s.place (ga % 2 ^ 38) with | .ext .. => s.extGood (ga % 2 ^ 38) n | _ => false))

/-- The touch has moved on by one instruction. -/
def touchNext (tc : Touch) (wait : Bool) : Touch := { tc with pc := tc.pc + 1, issued := tc.issued + 1, wait := wait }

/-- The saturating counter has counted one. -/
def State.counted (s t : State) (l : Loc) : Prop := t.f l = min (s.f l + 1) l.max

/-- The address of a field's register. -/
def atReg (l : Loc) (a : Nat) : Prop := a = l.addr

end Sys2Proof.Machine
end

