-- ==== Sys2Proof/Certificates/Slice0/Obligations.lean ====
section
/-! DEFINITION. The statements for the provers, family by family. A statement over commands names, for each, the condition under which it
completes with its own effect, what the next state holds, and what it leaves unchanged. -/

open Sys2Proof Sys2Proof.Machine

/-- A step with a command waiting is that command's effect on the state with the rest of the queue. -/
def Obligations.StepRunsFront : Prop :=
  ∀ (c : Instr) (q : List Instr) (s : State), Machine.step { s with pending := c :: q } = exec c { s with pending := q }

/-- With no command waiting, one count of the time base passes (the model's choice, notes/assumptions/4.md; R521, R528, R529 say what a
count is; how the 97 counts spread is log entry 137). -/
def Obligations.IdleCountsTime : Prop :=
  (∀ s : State, s.pending = [] →
    Machine.step s = .next s.idle ∧
    (s.schedRuns = false → s.tick.schedRuns = false → s.secure.wipe = none → s.host.agent = [] → s.host.jobs = [] →
      s.spi.queue = [] → s.spi.readLeft = 0 →
      (s.b CLK_STAT_REF_OK = true →
        (s.f TB_SLEW = 0 → s.idle = { s with tb := s.tb + 1 }) ∧
        (s.f TB_SLEW ≠ 0 → s.slewPhase ≠ 15 → s.idle = { s with tb := s.tb + 1, slewPhase := s.slewPhase + 1 }) ∧
        (s.f TB_SLEW ≠ 0 → s.slewPhase = 15 →
          s.idle.tb = s.tb ∧ s.idle.slewPhase = 0 ∧ s.idle.f TB_SLEW = wrap 32 (sgn 32 (s.f TB_SLEW) + 1))) ∧
      (s.b CLK_STAT_REF_OK = false → s.refStart = none → ∃ n, (n = 3051 ∨ n = 3052) ∧
        s.idle = { s with tb := s.tb + BitVec.ofNat 64 n, aonPhase := (s.aonPhase + 1) % 128 }))) ∧
  ((List.range 128).map aonCounts).sum = 128 * 3051 + 97

/-- No command is refused, and the only stop is the behaviour that R444 calls undefined. -/
def Obligations.NothingRefused : Prop :=
  ∀ (c : Instr) (s : State),
    (∃ t, exec c s = .next t) ∨
    (exec c s = .fault .undefinedVersion ∧ s.schedRuns = true ∧ ∃ m r, s.pumped.host.msgs = m :: r ∧ m.undefined = true)

/-- The state after reset: R67's LFSR, R528's time base, and every store in canonical form. -/
def Obligations.ResetState : Prop :=
  (∀ t, t < 1024 → (State.reset.rd (TILE_LFSR t).addr).toNat = 0x80000000 + t) ∧
  State.reset.tb = 0 ∧ State.reset.canonical = true ∧ State.reset.pending = [] ∧
  (∀ s : State, (s.afterReset true).tb = 0 ∧ (s.afterReset false).tb = s.tb)

/-- Whole-chip resets (R32, R476, R477, R554, R593): what they keep and the source they record. -/
def Obligations.WholeChipReset : Prop :=
  let kept := fun (s t : State) (src : Nat) =>
    t.fuse = s.fuse ∧ t.krows = s.krows ∧ t.tb = s.tb ∧ (∀ w, w < 64 → t.f (BOOT_REC w) = s.f (BOOT_REC w)) ∧
      t.f BOOT_RESET_SRC_SRC = src ∧ t.tiles = [] ∧ t.flights = [] ∧ t.pending = s.pending
  (∀ (v : BitVec 32) (s : State), bits v.toNat 31 16 = 0xC4A7 → bitAt v.toNat 0 = true →
    ∃ t, exec (.sysReset v) s = .next t ∧ kept s t 2) ∧
  (∀ (v : BitVec 32) (s : State), ¬ (bits v.toNat 31 16 = 0xC4A7 ∧ bitAt v.toNat 0 = true) → exec (.sysReset v) s = .next s) ∧
  (∀ (mon : BitVec 4) (s : State), 1 ≤ mon.toNat → mon.toNat ≤ 6 → ∃ t, exec (.supplyMonitorReset mon) s = .next t ∧ kept s t 8 ∧
    t.f BOOT_RESET_SRC_MON = mon.toNat) ∧
  (∀ s : State, ∃ t, exec (.porstNAssert false) s = .next t ∧ kept s t 1) ∧
  (∀ s : State, ∃ t, exec (.porstNAssert true) s = .next t ∧ t.tb = 0 ∧ t.fuse = s.fuse ∧ t.krows = s.krows ∧ t.regs = [] ∧ t.mem = []) ∧
  (∀ s : State, s.b SEC_WDOG_EN = true → s.secRuns = true → ∃ t, exec .securityWatchdogExpire s = .next t ∧ kept s t 4)

/-- SPIKE_ARRIVAL, PSUM_ARRIVAL (R79, R80, R82, R204) and ROUTER_SINK (R206). -/
def Obligations.ArrivalsQueued : Prop :=
  let takes := fun (s : State) (t step : Nat) =>
    s.tileUp t = true ∧ s.tileShut t = false ∧ (s.tile t).closeRec = none ∧ stepClass step (s.tile t).step = .current
  let queued := fun (s u : State) (t step w : Nat) (e : QEntry) =>
    (u.tile t).half step = (s.tile t).half step ++ [e] ∧
    u.f (tileCon t step) = (s.f (tileCon t step) + w) % 2 ^ 32 ∧
    u.f (TILE_EV_ACCEPT t) = min (s.f (TILE_EV_ACCEPT t) + 1) (2 ^ 32 - 1) ∧
    u.f (TILE_QSTAT_NEXT_HWM t) = max (s.f (TILE_QSTAT_NEXT_HWM t)) ((u.tile t).half (1 - s.curParity t)).length % 256 ∧
    s.onlyTiles u (fun a => a = (tileCon t step).addr ∨ a = (TILE_EV_ACCEPT t).addr ∨ a = (TILE_QSTAT_NEXT_HWM t).addr) (fun x => x = t)
  (∀ (t : BitVec 10) (axon : BitVec 16) (payload : BitVec 4) (prio : BitVec 2) (step : BitVec 8) (s : State),
    takes s t.toNat step.toNat → ((s.tile t.toNat).half step.toNat).length < 128 →
    ∃ u, exec (.spikeArrival t axon payload prio step) s = .next u ∧
      queued s u t.toNat step.toNat 1 (.spike axon.toNat payload.toNat prio.toNat)) ∧
  (∀ (t : BitVec 10) (neuron : BitVec 14) (step : BitVec 8) (cc : BitVec 6) (sum : BitVec 20) (s : State),
    takes s t.toNat step.toNat → ((s.tile t.toNat).half step.toNat).length < 128 →
    ∃ u, exec (.psumArrival t neuron step cc sum) s = .next u ∧
      queued s u t.toNat step.toNat cc.toNat (.psum neuron.toNat sum.toInt)) ∧
  (∀ (t : BitVec 10) (axon : BitVec 16) (payload : BitVec 4) (prio : BitVec 2) (step : BitVec 8) (s : State),
    takes s t.toNat step.toNat → 128 ≤ ((s.tile t.toNat).half step.toNat).length →
    ∃ u, exec (.spikeArrival t axon payload prio step) s = .next u ∧ u.tiles = s.tiles ∧
      u.f (TILE_DROP_QFULL t.toNat) = min (s.f (TILE_DROP_QFULL t.toNat) + 1) (2 ^ 32 - 1)) ∧
  (∀ (t dt dc : BitVec 10) (axon : BitVec 16) (payload : BitVec 4) (prio : BitVec 2) (step : BitVec 8) (s : State),
    s.sinkReason t.toNat ≠ 0 →
    ∃ u, exec (.routerSink t (.spikeUC dt dc axon payload prio step)) s = .next u ∧
      u.f (RT_SINK_PKTS t.toNat) = min (s.f (RT_SINK_PKTS t.toNat) + 1) (2 ^ 32 - 1) ∧
      s.onlyRegs u (fun a => a = (RT_SINK_PKTS t.toNat).addr ∨ a = (rtCon t.toNat step.toNat).addr))

/-- SYNAPSE_EVENT (R84–R92, R130–R141) and PSUM_ENTRY (R91). -/
def Obligations.SpikeStreamed : Prop :=
  (∀ (t : BitVec 10) (axon payload prio : Nat) (r : AxonRef) (w : Nat) (rest : List QEntry) (s : State),
    let d := Desc.ofWord (s.synW t.toNat w)
    s.canTake t.toNat = true → s.parClean t.toNat = true →
    (s.tile t.toNat).half (s.curParity t.toNat) = .spike axon payload prio :: rest →
    s.modThreadOf t.toNat axon = none → s.axonRef t.toNat axon = some (r, w) →
    d.kind ≠ 3 → s.rowMiss t.toNat r d = false → d.cold = false → d.plastic = false → s.b (TILE_PROMO_CFG_EN t.toNat) = false →
    ∃ u, exec (.synapseEvent t) s = .next u ∧
      u = (s.stream t.toNat d.thread (s.contribs t.toNat r d (fun v => s.synW t.toNat (d.addr + v)) payload)).popEntry t.toNat ∧
      (u.tile t.toNat).half (s.curParity t.toNat) = rest ∧
      ∀ i, i < 16384 → i ∉ (s.contribs t.toNat r d (fun v => s.synW t.toNat (d.addr + v)) payload).map Prod.fst →
        u.acc t.toNat i = s.acc t.toNat i) ∧
  (∀ (t : BitVec 10) (neuron n : Nat) (sum : Int) (rest : List QEntry) (s : State),
    s.canTake t.toNat = true → (s.tile t.toNat).half (s.curParity t.toNat) = .psum neuron sum :: rest →
    s.ownerThread t.toNat neuron = some n →
    ∃ u, exec (.psumEntry t) s = .next u ∧ (u.tile t.toNat).half (s.curParity t.toNat) = rest ∧
      u = ((s.convert t.toNat n .psum sum (-262144) 262143).1.stream t.toNat n
        [(neuron, (s.convert t.toNat n .psum sum (-262144) 262143).2)]).popEntry t.toNat)

/-- R41, for a neuron whose block and bank are in service, in a tile with no bad parity. -/
def Obligations.AccumulatorGuard : Prop :=
  ∀ (s : State) (t i : Nat) (v : Int), t < 1024 → i < 16384 → s.parClean t = true → s.blockOff t i = false → s.retiredWord t 2 i = false →
    (262144 ≤ (s.acc t i).natAbs →
      (s.contribute t i v).acc t i = s.acc t i ∧
      (s.contribute t i v).f (TILE_ACC_REFUSED t) = min (s.f (TILE_ACC_REFUSED t) + 1) (2 ^ 32 - 1)) ∧
    ((s.acc t i).natAbs < 262144 → v.natAbs ≤ 262143 →
      (s.contribute t i v).acc t i = s.acc t i + v ∧
      (s.contribute t i v).f (TILE_ACC_REFUSED t) = s.f (TILE_ACC_REFUSED t)) ∧
    (∀ j, j < 16384 → j ≠ i → (s.contribute t i v).acc t j = s.acc t j)

/-- R49: the arithmetic shift by f is floor division by 2^f. -/
def Obligations.StochasticRounding : Prop :=
  ∀ (v : Int) (f byte : Nat), byte < 256 →
    (1 ≤ f → f ≤ 8 → srnd v f byte * 2 ^ f ≤ v + ((byte % 2 ^ f : Nat) : Int) ∧
      v + ((byte % 2 ^ f : Nat) : Int) < (srnd v f byte + 1) * 2 ^ f) ∧
    (8 < f → ∃ w : Int, w * 2 ^ (f - 8) ≤ v ∧ v < (w + 1) * 2 ^ (f - 8) ∧
      srnd v f byte * 256 ≤ w + (byte : Int) ∧ w + (byte : Int) < (srnd v f byte + 1) * 256)

/-- R50. -/
def Obligations.LfsrNeverLocks : Prop :=
  (∀ (t : BitVec 10) (v : BitVec 32) (s : State), s.tileUp t.toNat = true →
    (s.en .tile t.toNat = false → ∃ u, exec (.tileLfsrWrite t v) s = .next u ∧
      u.f (TILE_LFSR t.toNat) = (if v = 0 then 1 else v.toNat) ∧ s.onlyRegs u (atReg (TILE_LFSR t.toNat))) ∧
    (s.en .tile t.toNat = true → v.toNat ≠ s.f (TILE_LFSR t.toNat) → ∃ u, exec (.tileLfsrWrite t v) s = .next u ∧
      u.f (TILE_LFSR t.toNat) = s.f (TILE_LFSR t.toNat) ∧ s.counted u (CFG_REJECT_COUNT .tile t.toNat) ∧
      bitAt (u.f (INT_STATUS .tile t.toNat)) 31 = true)) ∧
  (∀ t, t < 1024 → State.reset.f (TILE_LFSR t) = 0x80000000 + t) ∧
  (∀ w, 0 < w → w < 2 ^ 32 → 0 < lfsrCycle w ∧ lfsrCycle w < 2 ^ 32)

/-- TILE_STAT_CLR (R60, R70), TILE_CONV_READ (R61), CLU_MSE_ARM (R73), CLU_MSE_SUM_LO_READ (R74). -/
def Obligations.ConversionStatistics : Prop :=
  (∀ (t : BitVec 10) (v : BitVec 16) (s : State), s.tileUp t.toNat = true →
    ∃ u, exec (.tileStatClr t v) s = .next u ∧
      (∀ n, n < 16 → bitAt v.toNat n = true → u.f (TILE_CONV t.toNat n) = 0 ∧ u.f (TILE_CLIP t.toNat n) = 0) ∧
      s.onlyRegs u (fun a => ∃ n, n < 16 ∧ bitAt v.toNat n = true ∧
        (a = (TILE_CONV t.toNat n).addr ∨ a = (TILE_CLIP t.toNat n).addr))) ∧
  (∀ (t : BitVec 10) (n : BitVec 4) (s : State), s.tileUp t.toNat = true →
    ∃ u, exec (.tileConvRead t n) s = .next u ∧ u.f (TILE_CLIP_SNAP t.toNat) = s.f (TILE_CLIP t.toNat n.toNat) ∧
      s.onlyRegs u (atReg (TILE_CLIP_SNAP t.toNat))) ∧
  (∀ (c : BitVec 4) (k : BitVec 2) (v : BitVec 32) (s : State), s.domOn (dCLU c.toNat) = true →
    s.b (CLU_MSE_CFG_ARM c.toNat k.toNat) = false → bitAt v.toNat 31 = true →
    ∃ u, exec (.cluMseArm c k v) s = .next u ∧ u.f (CLU_MSE_CFG_ARM c.toNat k.toNat) = 1 ∧
      (u.cluster c.toNat).probe k.toNat =
        { tile := bits v.toNat 13 8, site := bits v.toNat 17 16, thread := bits v.toNat 3 0 } ∧
      s.onlyClusters u (atReg (CLU_MSE_CFG_ARM c.toNat k.toNat)) (fun x => x = c.toNat)) ∧
  (∀ (c : BitVec 4) (k : BitVec 2) (s : State), s.domOn (dCLU c.toNat) = true →
    ∃ u, exec (.cluMseSumLoRead c k) s = .next u ∧
      u.f (CLU_MSE_COUNT c.toNat k.toNat) = ((s.cluster c.toNat).probe k.toNat).count % 2 ^ 32 ∧
      u.f (CLU_MSE_ERRMAX_ERR_MAX c.toNat k.toNat) = ((s.cluster c.toNat).probe k.toNat).emax % 2 ^ 15 ∧
      u.f (CLU_MSE_SUM_HI_SAT c.toNat k.toNat) = (if ((s.cluster c.toNat).probe k.toNat).sat then 1 else 0) ∧
      s.onlyRegs u (fun a => a = (CLU_MSE_SUM_LO c.toNat k.toNat).addr ∨ a = (CLU_MSE_SUM_HI_SUM_HI c.toNat k.toNat).addr ∨
        a = (CLU_MSE_COUNT c.toNat k.toNat).addr ∨ a = (CLU_MSE_ERRMAX_ERR_MAX c.toNat k.toNat).addr))

/-- COLD_ADMIT, COLD_ROW_RETURN (R145, R93), COLD_FETCH_FAIL, COLD_UNIT_TIMEOUT (R146), COLD_STALE_REPLY (R147), CLU_COLD_AGE,
CLU_COLD_AGE_DONE (R152). -/
def Obligations.ColdRows : Prop :=
  (∀ (c : BitVec 4) (row : ColdRow) (s : State), s.domOn (dCLU c.toNat) = true → s.actv .clu c.toNat = true →
    (s.cluster c.toNat).nextRow = some row →
    (s.f (CLU_COLD_OUT_UNITS c.toNat) + coldUnits row.desc ≤ s.maxOut c.toNat ∨ s.f (CLU_COLD_OUT_UNITS c.toNat) = 0) →
    ∃ u, exec (.coldAdmit c) s = .next u ∧ (u.cluster c.toNat).waiting = (s.cluster c.toNat).waiting.erase row ∧
      (u.cluster c.toNat).lastTile = row.tile ∧ u.tiles = s.tiles ∧ u.ext = s.ext ∧
      u.f (CLU_COLD_OUT_UNITS c.toNat) = s.f (CLU_COLD_OUT_UNITS c.toNat) + coldUnits row.desc ∧ s.counted u (CLU_COLD_FETCHES c.toNat) ∧
      ((s.cluster c.toNat).fetches = [] → ∃ g, (u.cluster c.toNat).fetches = [g] ∧ g.row = row ∧ g.stale = false ∧ g.time = s.tb.toNat ∧
        g.reqs.map (fun q => (q.unit, q.part)) = (List.range (4 * coldUnits row.desc)).map fun i => (i / 4, i % 4))) ∧
  (∀ (c : BitVec 4) (id : Nat) (g : ColdFetch) (s : State), (s.cluster c.toNat).fetch? id = some g → g.stale = false → g.reqs = [] →
    s.immStall (tileOf c.toNat g.row.tile) = false →
    let d := Desc.ofWord g.row.desc.toNat
    let word := fun v => ((Map.get [] g.units (v / 16))[v % 16]?).getD 0
    ∃ u w, exec (.coldRowReturn c id) s = .next u ∧
      (u.cluster c.toNat).fetches = (s.cluster c.toNat).fetches.filter (fun h => h.id != id) ∧
      u = w.stream (tileOf c.toNat g.row.tile) d.thread (s.contribs (tileOf c.toNat g.row.tile) { entry := 0 } d word g.row.payload) ∧
      w.f (CLU_COLD_LAT_MAX_MAX c.toNat) = max (min 65535 (s.tb.toNat - g.time)) (s.f (CLU_COLD_LAT_MAX_MAX c.toNat)) ∧
      s.onlyClusters w (atReg (CLU_COLD_LAT_MAX_MAX c.toNat)) (fun x => x = c.toNat)) ∧
  (∀ (c : BitVec 4) (id : Nat) (g : ColdFetch) (s : State), (s.cluster c.toNat).fetch? id = some g → g.stale = false →
    let t := tileOf c.toNat g.row.tile
    let failed := fun (u : State) => s.counted u (CLU_COLD_FAILS c.toNat) ∧ s.counted u (TILE_COLD_FAIL t) ∧
      bitAt (u.f (INT_STATUS .tile t)) 2 = true ∧ u.tiles = s.tiles ∧ u.mem = s.mem
    ((∃ q ∈ g.reqs, g.unitBack q.unit = true ∧ g.unitOk q.unit = false) →
      ∃ u n, exec (.coldFetchFail c id) s = .next u ∧ failed u ∧ g.unitBack n = true ∧ g.unitOk n = false ∧
        u.f (CLU_COLD_OUT_UNITS c.toNat) = s.f (CLU_COLD_OUT_UNITS c.toNat) - 1 ∧
        (u.cluster c.toNat).fetches = ((s.cluster c.toNat).putFetch
          { g with reqs := g.reqs.filter (fun q => q.unit != n), stale := true }).fetches) ∧
    ((∃ q ∈ g.reqs, q.rsp = none) →
      ∃ u, exec (.coldUnitTimeout c id) s = .next u ∧ failed u ∧ s.counted u (CLU_COLD_TIMEOUTS c.toNat) ∧
        u.f (CLU_COLD_OUT_UNITS c.toNat) = s.f (CLU_COLD_OUT_UNITS c.toNat) ∧
        (u.cluster c.toNat).fetches = ((s.cluster c.toNat).putFetch { g with stale := true }).fetches)) ∧
  (∀ (c : BitVec 4) (id : Nat) (g : ColdFetch) (s : State), (s.cluster c.toNat).fetch? id = some g → g.stale = true →
    (∃ q ∈ g.reqs, g.unitBack q.unit = true) →
    ∃ u n, exec (.coldStaleReply c id) s = .next u ∧ s.counted u (CLU_COLD_STALE c.toNat) ∧ g.unitBack n = true ∧
      u.f (CLU_COLD_OUT_UNITS c.toNat) = s.f (CLU_COLD_OUT_UNITS c.toNat) - 1 ∧
      (u.cluster c.toNat).fetches = ((s.cluster c.toNat).putFetch { g with reqs := g.reqs.filter (fun q => q.unit != n) }).fetches ∧
      s.onlyClusters u (fun a => a = (CLU_COLD_STALE c.toNat).addr ∨ a = (CLU_COLD_OUT_UNITS c.toNat).addr) (fun x => x = c.toNat)) ∧
  ∀ (c : BitVec 4) (s : State), s.domOn (dCLU c.toNat) = true →
    (s.b (CLU_COLD_AGE_BUSY c.toNat) = false → (s.cluster c.toNat).bad = [] →
      ∃ u, exec (.cluColdAge c) s = .next u ∧ u.f (CLU_COLD_AGE_BUSY c.toNat) = 1 ∧
        (∀ i, i < s.hitSize c.toNat → s.shmRetired c.toNat (s.hitOff c.toNat i) = false →
          u.ldN 2 (shmBase c.toNat + s.hitOff c.toNat i) = s.ldN 2 (shmBase c.toNat + s.hitOff c.toNat i) / 2) ∧
        u = { s with regs := u.regs, mem := u.mem } ∧ ∀ a, a ≠ (CLU_COLD_AGE_BUSY c.toNat).addr → u.rd a = s.rd a) ∧
    (s.b (CLU_COLD_AGE_BUSY c.toNat) = true → exec (.cluColdAge c) s = .next s) ∧
    (∃ u, exec (.cluColdAgeDone c) s = .next u ∧ u.f (CLU_COLD_AGE_BUSY c.toNat) = 0 ∧
      s.onlyRegs u (atReg (CLU_COLD_AGE_BUSY c.toNat)))

/-- TILE_CLOSE (R112, R114) and TILE_STOPPED_CLOSE (R116). -/
def Obligations.CloseOpensTheNextStep : Prop :=
  (∀ (t : BitVec 10) (step : BitVec 8) (short exh : Bool) (s : State), s.tileUp t.toNat = true → s.en .tile t.toNat = true →
    (s.phase t.toNat = 0 → s.draining .tile t.toNat = false →
      ∃ u, exec (.tileClose t step short exh) s = .next u ∧ u.phase t.toNat = 1 ∧
        (u.tile t.toNat).step = stepAfter (s.tile t.toNat).step step.toNat ∧
        (u.tile t.toNat).closeRec = none ∧ u.f (TILE_STEP_STAT_CLOSED t.toNat) = step.toNat ∧
        u.f (tileInj t.toNat step.toNat) = 0 ∧ u.f (tileCon t.toNat step.toNat) = 0 ∧
        u.mem = s.mem ∧ u.clusters = s.clusters ∧ ∀ x, x ≠ t.toNat → u.tile x = s.tile x) ∧
    (¬ (s.phase t.toNat = 0 ∧ s.draining .tile t.toNat = false) →
      ∃ u, exec (.tileClose t step short exh) s = .next u ∧
        (u.tile t.toNat).closeRec = some { step := step.toNat, short := short, exh := exh } ∧
        s.onlyTiles u (fun _ => False) (fun x => x = t.toNat))) ∧
  (∀ (t : BitVec 10) (step : BitVec 8) (short exh : Bool) (s : State), s.tileUp t.toNat = true → s.en .tile t.toNat = false →
    ∃ u, exec (.tileStoppedClose t step short exh) s = .next u ∧ (u.tile t.toNat).step = s.ctl.step ∧
      u.f (tileInj t.toNat step.toNat) = 0 ∧ u.f (tileCon t.toNat step.toNat) = 0 ∧
      u.f (TILE_STEP_STAT_EXH t.toNat) = 0 ∧ s.onlyTiles u (fun a => a = (tileInj t.toNat step.toNat).addr ∨
        a = (tileCon t.toNat step.toNat).addr ∨ a = (TILE_STEP_STAT_EXH t.toNat).addr) (fun x => x = t.toNat)) ∧
  (∀ (v : BitVec 64) (t : Nat), t < 256 → v.toNat + 256 < 2 ^ 64 →
    (stepAfter v t).toNat % 256 = (t + 1) % 256 ∧ v.toNat ≤ (stepAfter v t).toNat ∧ (stepAfter v t).toNat < v.toNat + 256)

/-- TILE_DRAIN_DONE, TILE_COMMIT, TILE_RUN_END (R112, R287) and TILE_RUN of a built-in thread (R113, R178). -/
def Obligations.CloseRunPhases : Prop :=
  (∀ (t : BitVec 10) (s : State), s.tileUp t.toNat = true → s.parClean t.toNat = true → s.phase t.toNat = 1 → s.drainDone t.toNat = true →
    ((s.tile t.toNat).liftEnd = true → ∃ u, exec (.tileDrainDone t) s = .next u ∧ u.phase t.toNat = 2 ∧
      (u.tile t.toNat).commitPos = some (s.f (CLU_LIFT_CTRL_ARM (clusterOf t.toNat))) ∧
      s.onlyTiles u (atReg (TILE_STEP_PHASE t.toNat)) (fun x => x = t.toNat)) ∧
    ((s.tile t.toNat).liftEnd = false → ∃ u, exec (.tileDrainDone t) s = .next u ∧ u.phase t.toNat = 3 ∧
      (u.tile t.toNat).step = (s.tile t.toNat).step ∧ u.flights = s.flights)) ∧
  (∀ (t : BitVec 10) (s : State), s.tileUp t.toNat = true → s.parClean t.toNat = true → s.phase t.toNat = 2 →
    ∃ u, exec (.tileCommit t) s = .next u ∧ u.phase t.toNat = 3 ∧ (u.tile t.toNat).commitPos = none ∧ u.flights = s.flights) ∧
  (∀ (t : BitVec 10) (s : State), s.tileUp t.toNat = true → s.phase t.toNat = 3 → (s.tile t.toNat).work = [] →
    (s.tile t.toNat).svc = [] → s.touching t.toNat = false → s.draining .tile t.toNat = false → (s.tile t.toNat).closeRec = none →
    ∃ u, exec (.tileRunEnd t) s = .next u ∧ u.phase t.toNat = 0 ∧ (u.tile t.toNat).post = (s.tile t.toNat).fired ∧
      (u.tile t.toNat).fired = 0 ∧ (u.tile t.toNat).runDone = true ∧
      s.onlyTiles u (fun a => a = (TILE_STEP_PHASE t.toNat).addr ∨ a = (TILE_QSTAT_NEXT_HWM t.toNat).addr) (fun x => x = t.toNat)) ∧
  (∀ (t : BitVec 10) (n : BitVec 4) (w : Work) (s : State), s.tileUp t.toNat = true → s.parClean t.toNat = true →
    s.phase t.toNat = 3 → s.custom t.toNat n.toNat = false → s.faulted t.toNat n.toNat = false → s.model t.toNat n.toNat < 6 →
    ((s.tile t.toNat).work.find? fun w => w.thread == n.toNat) = some w → w.quad < 4096 → (s.tile t.toNat).emitq.length ≤ 28 →
    let lanes := s.liveLanes t.toNat w.quad (w.due ||| w.sweep)
    ∃ u, exec (.tileRun t n) s = .next u ∧ (u.tile t.toNat).work = (s.tile t.toNat).work.erase w ∧
      (∀ j ∈ lanes, u.acc t.toNat (4 * w.quad + j) = 0 ∧ bmGet (u.tile t.toNat).active (4 * w.quad + j) = false) ∧
      (∀ i, i < 16384 → (∀ j ∈ lanes, i ≠ 4 * w.quad + j ∧ i ≠ s.secondWord t.toNat n.toNat (4 * w.quad + j)) →
        u.neu t.toNat i = s.neu t.toNat i) ∧
      (∀ j, lanes = [j] → bitAt w.sweep j = false → s.lifAlone t.toNat n.toNat (4 * w.quad + j) (s.runSteps t.toNat).1 = true →
        s.lifTouched u t.toNat n.toNat (4 * w.quad + j) (s.runSteps t.toNat).1 (s.runSteps t.toNat).2) ∧
      u.flights = s.flights ∧ ∀ x, x ≠ t.toNat → u.tile x = s.tile x)

/-- IMMEDIATE_TOUCH (R105, R178), EMIT_PACKET, EMISSION_FINISHED (R107–R110). -/
def Obligations.TouchesAndEmission : Prop :=
  (∀ (t : BitVec 10) (i : Nat) (rest : List Nat) (s : State), s.tileUp t.toNat = true → s.parClean t.toNat = true → s.phase t.toNat = 0 →
    (s.tile t.toNat).immq = i :: rest →
    (∀ n, s.ownerThread t.toNat i = some n → s.b (TILE_FIRE_IMM t.toNat n) = true → s.faulted t.toNat n = false →
      s.custom t.toNat n = false → s.lifAlone t.toNat n i (s.tile t.toNat).step.toNat = true → (s.tile t.toNat).emitq.length < 32 →
      ∃ u, exec (.immediateTouch t) s = .next u ∧
        (u.tile t.toNat).immq = rest ++ (s.tile t.toNat).immWait.take (32 - rest.length) ∧
        s.lifTouched u t.toNat n i (s.tile t.toNat).step.toNat (s.tile t.toNat).step.toNat ∧
        u.flights = s.flights ∧ ∀ x, x ≠ t.toNat → u.tile x = s.tile x) ∧
    ((∀ n, s.ownerThread t.toNat i = some n → s.b (TILE_FIRE_IMM t.toNat n) = false) →
      ∃ u, exec (.immediateTouch t) s = .next u ∧
        (u.tile t.toNat).immq = rest ++ (s.tile t.toNat).immWait.take (32 - rest.length) ∧
        s.onlyTiles u (fun _ => False) (fun x => x = t.toNat))) ∧
  (∀ (t : BitVec 10) (e : Emit) (q : List Emit) (p : Packet) (m w w0 : Nat) (s : State), s.tileUp t.toNat = true →
    s.parClean t.toNat = true → (s.tile t.toNat).emitq = e :: q →
    m = s.synW t.toNat (s.f (TILE_ROUTE_CFG_BASE t.toNat) * 512 + e.neuron / 16 / 2) /
      2 ^ ((e.neuron / 16 % 2) * 32) % 2 ^ 32 →
    bitAt m 15 = true → w = (if e.done = 0 then s.f (TILE_ROUTE_CFG_BASE t.toNat) * 512 + 512 + bits m 12 0 else e.next) →
    w0 = s.synW t.toNat w → w + 2 ≤ 32768 → s.templPacket t.toNat e (bits m 31 16) w0 (s.synW t.toNat (w + 1)) = some p →
    bitAt (s.f MTR_INJ_HOLD_CLUSTER) (clusterOf t.toNat) = false → s.roomFor t.toNat .loc p = true → s.draining .tile t.toNat = false →
    ∃ u, exec (.emitPacket t) s = .next u ∧ s.queuedAt u t.toNat .loc p ∧ u.mem = s.mem ∧
      u.f (tileInj t.toNat e.step) = (s.f (tileInj t.toNat e.step) + p.injWeight) % 2 ^ 32 ∧
      u.f (TILE_PKT_OUT t.toNat) = min (s.f (TILE_PKT_OUT t.toNat) + 1) (2 ^ 32 - 1) ∧
      ((u.tile t.toNat).emitq = q ∨ ∃ e', (u.tile t.toNat).emitq = e' :: q ∧ e'.neuron = e.neuron ∧ e'.done = e.done + 1) ∧
      ∀ x, x ≠ t.toNat → u.tile x = s.tile x) ∧
  (∀ (t : BitVec 10) (s : State), s.tileUp t.toNat = true → s.emissionDone t.toNat = true → s.draining .tile t.toNat = false →
    ∃ u, exec (.emissionFinished t) s = .next u ∧ u.f (TILE_STEP_STAT_EMITTED t.toNat) = 1 ∧
      (u.tile t.toNat).runDone = false ∧ s.onlyTiles u (atReg (TILE_STEP_STAT_EMITTED t.toNat)) (fun x => x = t.toNat))

/-- TILE_ENABLE (R117) and TILE_DISABLE (R115). -/
def Obligations.TileEnableDisable : Prop :=
  (∀ (t : BitVec 10) (s : State), s.tileUp t.toNat = true → s.en .tile t.toNat = false → s.draining .tile t.toNat = false →
    s.parClean t.toNat = true →
    ∃ u, exec (.tileEnable t) s = .next u ∧ u.en .tile t.toNat = true ∧ u.phase t.toNat = 0 ∧
      (u.tile t.toNat).step = s.ctl.step ∧ (u.tile t.toNat).half0 = [] ∧ (u.tile t.toNat).half1 = [] ∧
      (u.tile t.toNat).fired = 0 ∧ u.ctl = s.ctl ∧ ∀ x, x ≠ t.toNat → u.tile x = s.tile x) ∧
  (∀ (t : BitVec 10) (s : State), s.tileUp t.toNat = true → s.actv .tile t.toNat = true → (s.tile t.toNat).closeRec = none →
    ∃ u, exec (.tileDisable t) s = .next u ∧
      (u.tile t.toNat).half ((s.tile t.toNat).step.toNat + (if s.phase t.toNat = 0 then 1 else 0)) = [] ∧
      u.f (TILE_DROP_DISABLED t.toNat) = min (s.f (TILE_DROP_DISABLED t.toNat) +
        ((s.tile t.toNat).half ((s.tile t.toNat).step.toNat + (if s.phase t.toNat = 0 then 1 else 0))).length) (2 ^ 32 - 1) ∧
      (u.draining .tile t.toNat = true ∨
        (u.en .tile t.toNat = false ∧ u.phase t.toNat = 4 ∧
          u.f (TILE_STOP_LO t.toNat) + 2 ^ 32 * u.f (TILE_STOP_HI t.toNat) = (s.tile t.toNat).step.toNat)) ∧
      u.mem = s.mem ∧ ∀ x, x ≠ t.toNat → u.tile x = s.tile x)

/-- The register-writing neuron instructions (R180, R185, R186). -/
def Obligations.NeuronRegisterWrites : Prop :=
  let writesSat := fun (sat : Prop) (c : Instr) (t : BitVec 10) (n : BitVec 4) (pr : BitVec 2) (pn : Bool) (rd : BitVec 4)
      (ok : State → Touch → Prop) (val : State → Touch → Nat → BitVec 32) =>
    ∀ (s : State) (tc : Touch), s.inTouch t.toNat n.toNat tc → ok s tc →
      ∃ u, exec c s = .next u ∧ (u.thread t.toNat n.toNat).touch = some (touchNext tc false) ∧
        (∀ j, j < 4 → j ∈ s.execLanes t.toNat n.toNat pr.toNat pn →
          u.lane t.toNat n.toNat j = (s.lane t.toNat n.toNat j).setReg rd.toNat (val s tc j)) ∧
        (∀ j, j < 4 → j ∉ s.execLanes t.toNat n.toNat pr.toNat pn → u.lane t.toNat n.toNat j = s.lane t.toNat n.toNat j) ∧
        s.onlyTiles u (fun a => sat ∧ a = (TILE_MEM_SAT t.toNat).addr) (fun x => x = t.toNat)
  let writes := writesSat False
  let g := fun (s : State) (t : BitVec 10) (n : BitVec 4) (j : Nat) (r : BitVec 4) => (s.lane t.toNat n.toNat j).reg r.toNat
  (∀ t n rd ra rb fn pr pn, writes (.alu t n rd ra rb fn pr pn) t n pr pn rd (fun _ _ => (aluFn fn.toNat false 0 0).isSome = true)
    (fun s _ j => (aluFn fn.toNat (s.lane t.toNat n.toNat j).pr1 (g s t n j ra) (g s t n j rb)).getD 0)) ∧
  (∀ t n rd ra imm pr pn, writes (.addi t n rd ra imm pr pn) t n pr pn rd (fun _ _ => True)
    (fun s _ j => g s t n j ra + imm.signExtend 32)) ∧
  (∀ t n rd ra imm pr pn, writes (.andi t n rd ra imm pr pn) t n pr pn rd (fun _ _ => True)
    (fun s _ j => g s t n j ra &&& imm.signExtend 32)) ∧
  (∀ t n rd ra imm pr pn, writes (.shi t n rd ra imm pr pn) t n pr pn rd (fun _ _ => (shiFn imm 0).isSome = true)
    (fun s _ j => (shiFn imm (g s t n j ra)).getD 0)) ∧
  (∀ t n rd imm pr pn, writes (.ldi t n rd imm pr pn) t n pr pn rd (fun _ _ => True) (fun _ _ _ => imm.signExtend 32)) ∧
  (∀ t n rd imm pr pn, writes (.ldih t n rd imm pr pn) t n pr pn rd (fun _ _ => True)
    (fun s _ j => imm ++ (g s t n j rd).extractLsb' 0 16)) ∧
  (∀ t n rd ra imm pr pn, writes (.bfx t n rd ra imm pr pn) t n pr pn rd (fun _ _ => True) (fun s _ j => bfxFn imm (g s t n j ra))) ∧
  (∀ t n rd ra imm pr pn, writes (.bfi t n rd ra imm pr pn) t n pr pn rd (fun _ _ => True)
    (fun s _ j => bfiFn imm (g s t n j rd) (g s t n j ra))) ∧
  (∀ t n rd fn pr pn, writes (.ldn t n rd fn pr pn) t n pr pn rd
    (fun s tc => tc.service = false ∧ (fn.getLsbD 0 = true → s.thrTwo t.toNat n.toNat = true))
    (fun s tc j => BitVec.ofNat 32 (s.neu t.toNat (if fn.getLsbD 0 then s.secondWord t.toNat n.toNat (tc.neuron j) else tc.neuron j)))) ∧
  (∀ t n rd pr pn, writes (.ldacc t n rd pr pn) t n pr pn rd (fun _ tc => tc.service = false)
    (fun s tc j => BitVec.ofInt 32 (if (s.lane t.toNat n.toNat j).sweep then 0 else s.acc t.toNat (tc.neuron j)))) ∧
  (∀ t n rd ra imm pr pn, writes (.tlu t n rd ra imm pr pn) t n pr pn rd (fun _ _ => True)
    (fun s _ j => BitVec.ofNat 32 (s.prog t.toNat ((imm.toNat % 512 * 64 + (g s t n j ra).toNat % 256 * 4) % 32768 / 4)))) ∧
  (∀ t n rd ra imm pr pn, writes (.lds t n rd ra imm pr pn) t n pr pn rd (fun _ _ => True)
    (fun s _ j => BitVec.ofNat 32 (s.prog t.toNat ((g s t n j ra + imm.signExtend 32).toNat % 8192)))) ∧
  (∀ t n rd ra imm pr pn, writesSat True (.decayx t n rd ra imm pr pn) t n pr pn rd (fun _ tc => tc.service = false)
    (fun s _ j => if (s.lane t.toNat n.toNat j).delta = 0 then g s t n j ra
      else BitVec.ofNat 32 (withM16 (g s t n j ra).toNat (clamp16 (rnd15 (m16 (g s t n j ra).toNat *
        bits (s.prog t.toNat (decayEntry (imm.toNat % 32) (s.lane t.toNat n.toNat j).delta)) 31 16)))))) ∧
  (∀ (t : BitVec 10) (n : BitVec 4) (pr : BitVec 2) (pn : Bool) (s : State) (tc : Touch), s.inTouch t.toNat n.toNat tc →
    ∃ u, exec (.nop t n pr pn) s = .next u ∧ (u.thread t.toNat n.toNat).touch = some (touchNext tc false) ∧
      (∀ j, j < 4 → u.lane t.toNat n.toNat j = s.lane t.toNat n.toNat j) ∧ s.onlyTiles u (fun _ => False) (fun x => x = t.toNat))

/-- CMP, BR, END, WAITSTEP (R180, R181, R185, R186, R192) and two faults of R193. -/
def Obligations.NeuronControl : Prop :=
  (∀ (t : BitVec 10) (n rd ra rb : BitVec 4) (fn : BitVec 11) (pr : BitVec 2) (pn : Bool) (s : State) (tc : Touch),
    s.inTouch t.toNat n.toNat tc → 1 ≤ rd.toNat → rd.toNat < 4 → fn.toNat < 6 →
    ∃ u, exec (.cmp t n rd ra rb fn pr pn) s = .next u ∧ (u.thread t.toNat n.toNat).touch = some (touchNext tc false) ∧
      (∀ j, j < 4 → j ∈ s.execLanes t.toNat n.toNat pr.toNat pn →
        some ((u.lane t.toNat n.toNat j).pred rd.toNat) =
          cmpFn fn.toNat ((s.lane t.toNat n.toNat j).reg ra.toNat) ((s.lane t.toNat n.toNat j).reg rb.toNat) ∧
        (u.lane t.toNat n.toNat j).g = (s.lane t.toNat n.toNat j).g) ∧
      s.onlyTiles u (fun _ => False) (fun x => x = t.toNat)) ∧
  (∀ (t : BitVec 10) (n : BitVec 4) (mode prb : BitVec 2) (off : BitVec 19) (s : State) (tc : Touch), s.inTouch t.toNat n.toNat tc →
    let taken := brTaken mode.toNat ((s.activeLanes t.toNat n.toNat).map fun j => (s.lane t.toNat n.toNat j).pred prb.toNat)
    0 ≤ (tc.pc : Int) + off.toInt → (tc.pc : Int) + off.toInt < 8192 →
    ∃ u, exec (.br t n mode prb off) s = .next u ∧
      (u.thread t.toNat n.toNat).touch =
        some { tc with pc := if taken then ((tc.pc : Int) + off.toInt).toNat else tc.pc + 1, issued := tc.issued + 1, wait := false } ∧
      (∀ j, j < 4 → u.lane t.toNat n.toNat j = s.lane t.toNat n.toNat j) ∧ s.onlyTiles u (fun _ => False) (fun x => x = t.toNat)) ∧
  (∀ (t : BitVec 10) (n : BitVec 4) (pr : BitVec 2) (pn : Bool) (s : State) (tc : Touch), s.inTouch t.toNat n.toNat tc →
    tc.service = false → s.execLanes t.toNat n.toNat pr.toNat pn ≠ [] →
    (∀ j, j < 4 → (s.lane t.toNat n.toNat j).active = true →
      (s.lane t.toNat n.toNat j).decayed = true ∧ (s.lane t.toNat n.toNat j).folded = true ∧
      (s.lane t.toNat n.toNat j).raise = none) →
    ∃ u, exec (.endTouch t n pr pn) s = .next u ∧ (u.thread t.toNat n.toNat).touch = none ∧ u.regs = s.regs ∧
      (∀ j, j < 4 → (s.lane t.toNat n.toNat j).active = true → tc.neuron j < 16384 →
        bmGet (u.tile t.toNat).active (tc.neuron j) = false) ∧ ∀ x, x ≠ t.toNat → u.tile x = s.tile x) ∧
  (∀ (t : BitVec 10) (n : BitVec 4) (pr : BitVec 2) (pn : Bool) (s : State) (tc : Touch), s.inTouch t.toNat n.toNat tc →
    tc.service = true → s.execLanes t.toNat n.toNat pr.toNat pn ≠ [] →
    ∃ u, exec (.waitstep t n pr pn) s = .next u ∧ (u.thread t.toNat n.toNat).touch = none ∧
      (u.thread t.toNat n.toNat).resume = some (tc.pc + 1) ∧ n.toNat ∉ (u.tile t.toNat).svc ∧
      s.onlyTiles u (fun _ => False) (fun x => x = t.toNat)) ∧
  (∀ (t : BitVec 10) (n rd ra rb : BitVec 4) (fn : BitVec 11) (pr : BitVec 2) (pn : Bool) (s : State) (tc : Touch),
    s.inTouch t.toNat n.toNat tc → aluFn fn.toNat false 0 0 = none →
    ∃ u, exec (.alu t n rd ra rb fn pr pn) s = .next u ∧ u.faulted t.toNat n.toNat = true ∧
      u.f (TILE_THR_PROG_FCODE t.toNat n.toNat) = fILLEGAL ∧ (u.thread t.toNat n.toNat).touch = none) ∧
  (∀ (t : BitVec 10) (n : BitVec 4) (pr : BitVec 2) (pn : Bool) (s : State) (tc : Touch) (j : Nat), s.inTouch t.toNat n.toNat tc →
    tc.service = false → s.execLanes t.toNat n.toNat pr.toNat pn ≠ [] → j < 4 → (s.lane t.toNat n.toNat j).active = true →
    (s.lane t.toNat n.toNat j).folded = false →
    ∃ u, exec (.endTouch t n pr pn) s = .next u ∧ u.faulted t.toNat n.toNat = true ∧
      u.f (TILE_THR_PROG_FCODE t.toNat n.toNat) = fINCOMPLETE)

/-- STN, FOLD, DECAY, FIRE, EMITK, PEND, MULSH, SRND, STS (R42, R49, R98–R102, R185). -/
def Obligations.NeuronStateWrites : Prop :=
  let runs := fun (c : Instr) (t : BitVec 10) (n : BitVec 4) (pr : BitVec 2) (pn : Bool) (ok : State → Touch → Nat → Prop)
      (post : State → Touch → Nat → State → Prop) =>
    ∀ (s : State) (tc : Touch) (j : Nat), s.inTouch t.toNat n.toNat tc → s.execLanes t.toNat n.toNat pr.toNat pn = [j] →
      tc.service = false → (s.tile t.toNat).emitq.length < 32 → tc.neuron j < 16384 → ok s tc j →
      ∃ u, exec c s = .next u ∧ (u.thread t.toNat n.toNat).touch = some (touchNext tc false) ∧ post s tc j u ∧
        ∀ x, x ≠ t.toNat → u.tile x = s.tile x
  let g := fun (s : State) (t : BitVec 10) (n : BitVec 4) (j : Nat) (r : BitVec 4) => (s.lane t.toNat n.toNat j).reg r.toNat
  (∀ t n ra fn pr pn, runs (.stn t n ra fn pr pn) t n pr pn
    (fun s tc j => fn.getLsbD 0 = false ∧ (s.lane t.toNat n.toNat j).raise = none ∧ s.retiredWord t.toNat 1 (tc.neuron j) = false)
    (fun s tc j u => u.neu t.toNat (tc.neuron j) = (g s t n j ra).toNat ∧ u.regs = s.regs ∧
      ∀ i, i < 16384 → i ≠ tc.neuron j → u.neu t.toNat i = s.neu t.toNat i)) ∧
  (∀ t n rd ra pr pn, runs (.fold t n rd ra pr pn) t n pr pn
    (fun s tc j => (s.lane t.toNat n.toNat j).sweep = false ∧ s.retiredWord t.toNat 2 (tc.neuron j) = false)
    (fun s tc j u => (u.lane t.toNat n.toNat j).reg rd.toNat =
        BitVec.ofNat 32 (withM16 (g s t n j ra).toNat (clamp16 (m16 (g s t n j ra).toNat + s.acc t.toNat (tc.neuron j)))) ∧
      (u.lane t.toNat n.toNat j).folded = true ∧ u.acc t.toNat (tc.neuron j) = 0)) ∧
  (∀ t n rd ra pr pn, runs (.decay t n rd ra pr pn) t n pr pn (fun _ _ _ => True)
    (fun s tc j u =>
      let dc := s.decayBy t.toNat n.toNat (g s t n j ra).toNat (idle (g s t n j ra).toNat tc.stouch) tc.stouch (s.drawByte t.toNat j 0)
      (u.lane t.toNat n.toNat j).reg rd.toNat = BitVec.ofNat 32 dc.word ∧
      (u.lane t.toNat n.toNat j).delta = idle (g s t n j ra).toNat tc.stouch ∧
      (u.lane t.toNat n.toNat j).rf = some (rfOf dc.word) ∧ (u.lane t.toNat n.toNat j).decayed = true ∧ u.mem = s.mem)) ∧
  (∀ t n rd ra pr pn, runs (.fire t n rd ra pr pn) t n pr pn
    (fun s tc j => (s.lane t.toNat n.toNat j).sweep = false ∧ rfOf (g s t n j ra).toNat = 0 ∧
      bmGet (s.tile t.toNat).fired (tc.neuron j) = false ∧ s.postEn t.toNat n.toNat = false)
    (fun s tc j u =>
      let a := (g s t n j ra).toNat
      let th := s.theta t.toNat n.toNat
      let k : Nat := if m16 a < th then 0 else if s.b (TILE_FIRE_GRADED t.toNat n.toNat) then min 15 (m16 a / th).toNat else 1
      (u.lane t.toNat n.toNat j).reg rd.toNat =
        BitVec.ofNat 32 (withM16 (if k = 0 then a else putBits a 11 8 (s.f (TILE_FIRE_REFRAC t.toNat n.toNat))) (m16 a - k * th)) ∧
      (u.lane t.toNat n.toNat j).pr1 = decide (k ≠ 0) ∧
      (u.tile t.toNat).emitq = (s.tile t.toNat).emitq ++
        (if k = 0 then [] else [{ neuron := tc.neuron j, payload := k, step := tc.semit % 256 }]) ∧
      bmGet (u.tile t.toNat).pend (tc.neuron j) = (bmGet (s.tile t.toNat).pend (tc.neuron j) || decide (th ≤ m16 a - k * th)) ∧
      u.mem = s.mem)) ∧
  (∀ t n ra pr pn, runs (.emitk t n ra pr pn) t n pr pn
    (fun s tc j => 1 ≤ (g s t n j ra).toInt ∧ (s.lane t.toNat n.toNat j).sweep = false ∧
      s.gated t.toNat (tc.neuron j) (match (s.lane t.toNat n.toNat j).rf with | some r => r | none => rfOf (s.neu t.toNat (tc.neuron j)))
        false = false)
    (fun s tc j u => (u.tile t.toNat).emitq = (s.tile t.toNat).emitq ++
        [{ neuron := tc.neuron j, payload := min 15 (g s t n j ra).toNat, step := tc.semit % 256 }] ∧
      (u.lane t.toNat n.toNat j).pr1 = true ∧ bmGet (u.tile t.toNat).fired (tc.neuron j) = true ∧ u.mem = s.mem)) ∧
  (∀ t n pr pn, runs (.pend t n pr pn) t n pr pn (fun _ _ _ => True)
    (fun s tc j u => bmGet (u.tile t.toNat).pend (tc.neuron j) = true ∧ (u.lane t.toNat n.toNat j).pendSet = true ∧
      u.regs = s.regs ∧ u.mem = s.mem)) ∧
  (∀ t n rd ra fn pr pn, runs (.mulsh t n rd ra fn pr pn) t n pr pn (fun _ _ _ => fn.toNat % 4 = 0)
    (fun s _ j u => (u.lane t.toNat n.toNat j).reg rd.toNat =
        BitVec.ofInt 32 (s.convert t.toNat n.toNat .mulsh (g s t n j ra).toInt 0 15).2 ∧ u.mem = s.mem)) ∧
  (∀ t n rd ra imm pr pn, runs (.srnd t n rd ra imm pr pn) t n pr pn (fun _ _ _ => 1 ≤ imm.toNat % 16 ∧ imm.toNat % 16 ≤ 8)
    (fun s _ j u => (u.lane t.toNat n.toNat j).reg rd.toNat =
        BitVec.ofInt 32 (srnd (g s t n j ra).toInt (imm.toNat % 16) (s.drawByte t.toNat j 0)) ∧
      u.f (TILE_LFSR t.toNat) = lfsrAdv 1 (s.f (TILE_LFSR t.toNat)) % 2 ^ 32 ∧ u.mem = s.mem)) ∧
  (∀ t n rd ra imm pr pn, runs (.sts t n rd ra imm pr pn) t n pr pn
    (fun s _ j => s.retiredWord t.toNat 3 ((g s t n j ra + imm.signExtend 32).toNat % 8192) = false)
    (fun s _ j u => u.prog t.toNat ((g s t n j ra + imm.signExtend 32).toNat % 8192) = (g s t n j rd).toNat ∧ u.regs = s.regs))

/-- LDG, STG, THREAD_RESUME (R187), HOPEN, HSEND, HRECV (R191). -/
def Obligations.NeuronRequests : Prop :=
  let asks := fun (c : Instr) (t : BitVec 10) (n : BitVec 4) (pr : BitVec 2) (pn : Bool) (scalar : Bool) =>
    ∀ (s : State) (tc : Touch), s.inTouch t.toNat n.toNat tc → s.execLanes t.toNat n.toNat pr.toNat pn ≠ [] →
      ∃ u, exec c s = .next u ∧ (u.thread t.toNat n.toNat).touch = some (touchNext tc true) ∧
        (u.tile t.toNat).bufs.length = (s.tile t.toNat).bufs.length +
          (if scalar then 1 else (s.execLanes t.toNat n.toNat pr.toNat pn).length) ∧
        u.mem = s.mem ∧ ∀ x, x ≠ t.toNat → u.tile x = s.tile x
  (∀ t n rd ra rb pr pn, asks (.ldg t n rd ra rb pr pn) t n pr pn false) ∧
  (∀ t n rd ra rb pr pn, asks (.stg t n rd ra rb pr pn) t n pr pn false) ∧
  (∀ t n rd ra pr pn, asks (.hopen t n rd ra pr pn) t n pr pn true) ∧
  (∀ t n rd ra rb pr pn, asks (.hsend t n rd ra rb pr pn) t n pr pn true) ∧
  (∀ t n rd ra rb pr pn, asks (.hrecv t n rd ra rb pr pn) t n pr pn true) ∧
  (∀ (t : BitVec 10) (n : BitVec 4) (s : State) (tc : Touch), (s.thread t.toNat n.toNat).touch = some tc → tc.wait = true → tc.pc < 8192 →
    (∀ b ∈ (s.tile t.toNat).bufs, b.issued = true) →
    (∀ b ∈ (s.tile t.toNat).bufs, b.thread = n.toNat → b.dead = false → b.reply.isSome = true) →
    ∃ u, exec (.threadResume t n) s = .next u ∧ (u.thread t.toNat n.toNat).touch = some { tc with wait := false } ∧
      (u.tile t.toNat).bufs = (s.tile t.toNat).bufs.filter (fun b => !(b.thread == n.toNat && !b.dead)) ∧ u.flights = s.flights ∧
      ∀ (b : ReplyBuf) (rd hs : Nat) (d : List (BitVec 64)), (s.tile t.toNat).bufs.filter (fun b => b.thread == n.toNat && !b.dead) = [b] →
        b.kind = .load rd → b.reply = some (0, hs, d) →
        (u.lane t.toNat n.toNat b.lane).reg rd = BitVec.ofNat 32 (d.headD 0).toNat ∧ (u.lane t.toNat n.toNat b.lane).pr3 = true)

/-- R184, R185: no bit of an instruction word is dropped. -/
def Obligations.NeuronWordsRoundTrip : Prop :=
  ∀ i : NInstr, (∀ m p o, i.op = .br m p o → i.pr = 0 ∧ i.pn = false) → ninstrDecode (ninstrEncode i) = some i

/-- PLASTIC_EVENT (R282, R284), POST_PASS (R283). -/
def Obligations.LearningEvents : Prop :=
  (∀ (t : BitVec 10) (e : PlEvent) (rest : List PlEvent) (s : State), (s.tile t.toNat).plq = e :: rest →
    (s.tile t.toNat).passStep = none → s.phase t.toNat ≠ 4 → s.tileUp t.toNat = true →
    let d := Desc.ofWord e.desc.toNat
    let k := (d.addr - s.plBase t.toNat) / 2 ^ s.f (TILE_PL_DELTA_PSHIFT t.toNat)
    let v := ((s.tile t.toNat).dirAt k).toNat
    (1023 < k ∨ bits v 15 0 ≠ e.axon →
      ∃ u, exec (.plasticEvent t) s = .next u ∧ u.tile t.toNat = { s.tile t.toNat with plq := rest } ∧
        u.f (TILE_PL_EVENTS t.toNat) = min (s.f (TILE_PL_EVENTS t.toNat) + 1) (2 ^ 32 - 1) ∧
        u.f (TILE_PL_DIRMISS t.toNat) = min (s.f (TILE_PL_DIRMISS t.toNat) + 1) (TILE_PL_DIRMISS t.toNat).max ∧
        s.onlyTiles u (fun a => a = (TILE_PL_EVENTS t.toNat).addr ∨ a = (TILE_PL_DIRMISS t.toNat).addr) (fun x => x = t.toNat)) ∧
    (k ≤ 1023 → bits v 15 0 = e.axon → modOf (s.tile t.toNat).mod d.thread = 0 →
      ∃ u, exec (.plasticEvent t) s = .next u ∧ (u.tile t.toNat).plq = rest ∧
        (u.tile t.toNat).dirAt k = dirWord (bits v 31 28) (bits v 27 20) (min 15 (bits v 19 16 + e.payload)) (bits v 15 0) ∧
        u.f (TILE_PL_EVENTS t.toNat) = min (s.f (TILE_PL_EVENTS t.toNat) + 1) (2 ^ 32 - 1) ∧
        s.onlyTiles u (atReg (TILE_PL_EVENTS t.toNat)) (fun x => x = t.toNat))) ∧
  (∀ (t : BitVec 10) (st : Nat) (s : State), (s.tile t.toNat).passStep = some st → s.phase t.toNat ≤ 1 → s.tileUp t.toNat = true →
    s.parClean t.toNat = true →
    ∃ u, exec (.postPass t) s = .next u ∧ (u.tile t.toNat).passStep = none ∧
      ((∀ p ∈ (s.tile t.toNat).dir, bits ((s.tile t.toNat).dirAt p.1).toNat 15 0 = 0xFFFF) →
        u = s.modTile t.toNat fun x => { x with passStep := none }))

/-- R45, R280, for deltas of a synapse bank in service. -/
def Obligations.DeltaUpdate : Prop :=
  ∀ (s : State) (t : Nat) (x : Upd) (byte : Nat), t < 1024 → x.addr < 262144 → s.retiredWord t 0 (x.addr / 8) = false →
    let v := s.delta t x.addr + srnd (asr (x.a * x.tr8 * x.mod) (s.f (TILE_PL_RULE_ETA t))) 8 byte
    (s.update t x byte).delta t x.addr = clampI (-128) 127 v ∧
    (∀ a, a < 262144 → a ≠ x.addr → (s.update t x byte).delta t a = s.delta t a) ∧
    (s.update t x byte).f (TILE_PL_DSAT t) =
      (if -128 ≤ v ∧ v ≤ 127 then s.f (TILE_PL_DSAT t) else min (s.f (TILE_PL_DSAT t) + 1) (TILE_PL_DSAT t).max)

/-- TILE_PL_DIR_DATA (R311), TILE_PL_MOD_WRITE (R281, R310). -/
def Obligations.LearningRegisters : Prop :=
  let moved := fun (s u : State) (t : Nat) =>
    u.f (TILE_PL_DIR_IDX_IDX t) = (if s.b (TILE_PL_DIR_IDX_AUTO t) then (s.f (TILE_PL_DIR_IDX_IDX t) + 1) % 1024 else s.f (TILE_PL_DIR_IDX_IDX t))
  ∀ (t : BitVec 10) (s : State), s.tileUp t.toNat = true →
    (∃ u, exec (.tilePlDirData t none) s = .next u ∧ moved s u t.toNat ∧ s.onlyRegs u (atReg (TILE_PL_DIR_IDX_IDX t.toNat))) ∧
    (∀ v : BitVec 32, s.en .tile t.toNat = false →
      ∃ u, exec (.tilePlDirData t (some v)) s = .next u ∧ moved s u t.toNat ∧
        (u.tile t.toNat).dirAt (s.f (TILE_PL_DIR_IDX_IDX t.toNat)) = v ∧
        (∀ k, k ≠ s.f (TILE_PL_DIR_IDX_IDX t.toNat) → (u.tile t.toNat).dirAt k = (s.tile t.toNat).dirAt k) ∧
        s.onlyTiles u (atReg (TILE_PL_DIR_IDX_IDX t.toNat)) (fun x => x = t.toNat)) ∧
    (∀ v : BitVec 32, ∃ u, exec (.tilePlModWrite t false v) s = .next u ∧ u.rd (TILE_PL_MOD0 t.toNat).addr = v ∧
      s.onlyRegs u (atReg (TILE_PL_MOD0 t.toNat))) ∧
    (∀ v : BitVec 32, ∃ u, exec (.tilePlModWrite t true v) s = .next u ∧ u.rd (TILE_PL_MOD1 t.toNat).addr = v ∧
      s.onlyRegs u (atReg (TILE_PL_MOD1 t.toNat)))

/-- LIFT_END_WRITEBACK (R297, R298), LIFT_END_PROMOTION (R153–R156). -/
def Obligations.LiftEnds : Prop :=
  ∀ (c : BitVec 4) (s : State), s.cluRuns c.toNat = true → s.domOn (dCLU c.toNat) = true →
    let x := s.cluster c.toNat
    (∀ l, s.liftDue c.toNat x.liftDone = some l →
      let counts := fun (u : State) => (u.cluster c.toNat).liftCount = x.liftCount + 1 ∧ (u.cluster c.toNat).liftDone = l + 1 ∧
        ∀ t ∈ clusterTiles c.toNat, s.tileUp t = true → (u.tile t).dirty = 0
      (s.b (CLU_KILN_CFG_WB_EN c.toNat) = false →
        ∃ u, exec (.liftEndWriteback c) s = .next u ∧ counts u ∧ u.mem = s.mem ∧ u.regs = s.regs ∧ (u.cluster c.toNat).lifts = x.lifts + 1) ∧
      (∀ row, s.b (CLU_KILN_CFG_WB_EN c.toNat) = true → max 1 (s.f (CLU_KILN_CFG_K c.toNat)) ≤ x.lifts + 1 →
        x.kset = none → s.b (KILN_FREE_BUDGET c.toNat) = false → s.liftPast c.toNat l = false → x.cdirty = [] → s.dirtyRows c.toNat = [row] →
        s.reads (iCLU c.toNat) (s.mine (s.blockAt (Map.get 0 x.kmap row))) 64 (centreRouter c.toNat 0) = true →
        ∃ u k, exec (.liftEndWriteback c) s = .next u ∧ counts u ∧ (u.cluster c.toNat).kset = some k ∧
          k.set = (s.f (KILN_SEAL_SET c.toNat) + 1) % 65536 ∧ k.blocks = [row] ∧ k.lift = x.liftCount + 1 ∧ (u.cluster c.toNat).cdirty = [])) ∧
    (∀ l, s.liftDue c.toNat x.promoDone = some l → s.b (CLU_PROMO_CFG_EN c.toNat) = true → s.b (CLU_COLD_AGE_BUSY c.toNat) = false → x.bad = [] →
      (∀ p ∈ x.cdir, s.shmRetired c.toNat (s.hitOff c.toNat p.1) = false) →
      ((∀ t ∈ clusterTiles c.toNat, s.tileUp t = true → s.b (TILE_PROMO_CFG_EN t) = false) →
        (∀ p ∈ x.cdir, s.ldN 2 (shmBase c.toNat + s.hitOff c.toNat p.1) < s.f (CLU_PROMO_CFG_PROMOTE_MIN c.toNat)) →
        ∃ u, exec (.liftEndPromotion c) s = .next u ∧ u.f (CLU_COLD_AGE_BUSY c.toNat) = 1 ∧ u.tiles = s.tiles ∧
          u.cluster c.toNat = { x with promoDone := l + 1 }) ∧
      (∀ h t e, x.cdir = [(h, t * 32768 + e)] → e < 32768 → x.promo = [] → s.b (TILE_PROMO_CFG_EN t) = true →
        s.f (CLU_PROMO_CFG_PROMOTE_MIN c.toNat) ≤ s.ldN 2 (shmBase c.toNat + s.hitOff c.toNat h) →
        let d := Desc.ofWord (s.synW t e)
        let a := s.mine (s.coldLocal c.toNat d.addr)
        let w := s.poolBase t
        d.cold = true → d.len ≤ s.slotSize t → w + s.slotSize t ≤ 32768 → (∀ v, v < 32768 → s.retiredWord t 0 v = false) →
        s.reads (iCLU c.toNat) (s.mine (synBase t + 8 * e)) 8 (centreRouter c.toNat 0) = true →
        s.reads (iCLU c.toNat) a (ceilDiv d.len 16 * 128) (centreRouter c.toNat 0) = true →
        ∃ u, exec (.liftEndPromotion c) s = .next u ∧ s.counted u (CLU_PROMO_STAT_PROMOTED c.toNat) ∧
          (u.cluster c.toNat).promo = [(t * 16, { entry := e, cold := d.addr, hit := h })] ∧ (u.cluster c.toNat).promoDone = l + 1 ∧
          (Desc.ofWord (u.synW t e)).cold = false ∧ (Desc.ofWord (u.synW t e)).addr = w ∧
          (∀ i, i < d.len → w + i ≠ e →
            u.synW t (w + i) = ofLE (slice (s.readBytes a (ceilDiv d.len 16 * 128)) (8 * i) 8)) ∧
          u.ldN 2 (shmBase c.toNat + s.hitOff c.toNat h) = 0))

/-- KILN_RING_TAIL_WRITE (R295), KILN_MOUNT (R302), KILN_DISABLE (R314). -/
def Obligations.KilnRingAndUnit : Prop :=
  ∀ s : State, s.domOn dKILN = true →
    (∀ (c : BitVec 4) (v : BitVec 16), ∃ u, exec (.kilnRingTailWrite c v) s = .next u ∧
      u.f (KILN_RING_PTR_TAIL c.toNat) = v.toNat ∧ u.f (KILN_RING_PTR_HEAD c.toNat) = s.f (KILN_RING_PTR_HEAD c.toNat) ∧
      s.onlyRegs u (atReg (KILN_RING_PTR_TAIL c.toNat))) ∧
    (s.en .kiln 0 = false → ∃ u, exec .kilnMount s = .next u ∧ u.en .kiln 0 = true ∧ u.b KILN_STAT_MOUNTED = true ∧
      u.krows = s.krows ∧ u.mem = s.mem ∧ u.tiles = s.tiles) ∧
    (∃ u, exec .kilnDisable s = .next u ∧ u.en .kiln 0 = false ∧ u.draining .kiln 0 = false ∧
      s.onlyRegs u (fun a => a = (PAGE_EN .kiln 0).addr ∨ a = (PAGE_DRAINING .kiln 0).addr))

/-- KILN_WRITE, KILN_READ, KILN_SEAL (R293–R296, R300). -/
def Obligations.KilnDescriptors : Prop :=
  ∀ (s : State) (c : Nat), s.ringTurn = some c → (s.cluster c).bad = [] → (s.cluster c).kset = none →
    s.shmRetired c (s.ringAt c (s.f (KILN_RING_PTR_HEAD c))) = false →
    let d := (s.ringHead c).2
    let at_ := shmBase c + s.ringAt c (s.f (KILN_RING_PTR_HEAD c)) + 6
    let src := d.addr / 64 * 64
    let ended := fun (u : State) (code : Nat) => u.ldN 2 at_ = 0x8000 + code ∧ u.kring = c ∧
      u.f (KILN_RING_PTR_HEAD c) = (s.f (KILN_RING_PTR_HEAD c) + 1) % 65536
    let put := fun (u : State) (lrow r : Nat) => u.krow r =
        { data := lineOfBytes (s.readBytes src 64), tag := (u.krow r).tag, crc := kCrc (lineOfBytes (s.readBytes src 64)) (u.krow r).tag } ∧
      (u.krow r).slice = c ∧ (u.krow r).lrow = lrow ∧ (u.krow r).set = d.set ∧ ∀ q, q ≠ r → u.krow q = s.krow q
    let mayPut := fun (b r : Nat) (rest : List Nat) => s.setOk c d.set = true ∧ s.b (KILN_FREE_BUDGET c) = false ∧
      ((s.kslice c).opened = none ∨ (s.kslice c).opened = some d.set) ∧ (s.kslice c).turn = some b ∧ (s.kslice c).queue b = r :: rest ∧
      s.reads iENGINE src 64 sysRouter = true
    (∀ b r rest, d.op = 1 → s.lrowOk c 1 d.lrow = true → mayPut b r rest →
      ∃ u, exec .kilnWrite s = .next u ∧ ended u ksOK ∧ put u d.lrow r ∧ (u.kslice c).opened = some d.set ∧
        u.f (KILN_SEAL_SET c) = s.f (KILN_SEAL_SET c)) ∧
    (∀ b r rest, d.op = 3 → s.f (KILN_SLICE_SIZE16 c) ≠ 0 → mayPut b r rest →
      ∃ u, exec .kilnSeal s = .next u ∧ ended u ksOK ∧ put u 0 r ∧ (u.kslice c).opened = none ∧ (u.kslice c).hasSet = true ∧
        u.f (KILN_SEAL_SET c) = d.set) ∧
    (∀ r, d.op = 2 → s.lrowOk c 0 d.lrow = true → s.kilnCopy c d.lrow = some r → (s.krow r).good = true →
      s.writes iENGINE src 64 sysRouter = true →
      ∃ u, exec .kilnRead s = .next u ∧ ended u ksOK ∧ u.krows = s.krows ∧ s.counted u KILN_READS ∧
        ∀ i, i < 64 → src % 2 ^ 38 + i ≠ at_ → src % 2 ^ 38 + i ≠ at_ + 1 → u.ld8 (src % 2 ^ 38 + i) = (lineBytes (s.krow r).data).getD i 0) ∧
    (d.op = 2 → s.lrowOk c 0 d.lrow = true → s.kilnCopy c d.lrow = none →
      ∃ u, exec .kilnRead s = .next u ∧ ended u ksNOCOPY ∧ u.krows = s.krows ∧ u.tiles = s.tiles) ∧
    (∀ (i : Instr) (op : Nat), (i = .kilnWrite ∧ op = 1 ∨ i = .kilnSeal ∧ op = 3) → d.op = op →
      (s.setOk c d.set = false → ∃ u, exec i s = .next u ∧ ended u ksBAD ∧ u.krows = s.krows ∧ u.tiles = s.tiles) ∧
      (s.setOk c d.set = true → s.lrowOk c 1 d.lrow = true → s.f (KILN_SLICE_SIZE16 c) ≠ 0 → s.b (KILN_FREE_BUDGET c) = true →
        (s.kslice c).opened = some d.set → ∃ u, exec i s = .next u ∧ ended u ksBUDGET ∧ u.krows = s.krows))

/-- R293, R296, R299: an older copy stays in place. -/
def Obligations.KilnRowWritten : Prop :=
  ∀ (s : State) (c b r lrow set : Nat) (rest : List Nat) (data : BitVec 512), c < 16 → lrow < 2 ^ 18 → set < 2 ^ 16 →
    (s.kslice c).turn = some b → b < 4 → (s.kslice c).queue b = r :: rest →
    ∃ u, s.placeRow c lrow set data = some u ∧ (u.krow r).data = data ∧ (u.krow r).good = true ∧
      (u.krow r).wear = min 0xFFFFF ((s.krow r).wear + 1) ∧ (u.krow r).slice = c ∧ (u.krow r).lrow = lrow ∧ (u.krow r).set = set ∧
      (u.kslice c).queue b = rest ∧ (u.kslice c).used = (s.kslice c).used ++ [r] ∧
      u.f (KILN_FREE_FREE c) = s.f (KILN_FREE_FREE c) - 1 ∧ ∀ q, q ≠ r → u.krow q = s.krow q

/-- PORST_N_RELEASE (R31, R478, R590). -/
def Obligations.PortRelease : Prop :=
  ∀ (manager spi foot15 : Bool) (s : State), s.boot.run = none → s.f BOOT_STATUS_NEXT = 1 → s.f (BOOT_LOG_RESULT 0) = 0 →
    ∃ u, exec (.porstNRelease manager spi foot15) s = .next u ∧ u.boot.run = some 0 ∧ u.boot.method = mPRIMARY ∧
      u.f BOOT_STATUS_BUSY = 1 ∧ u.isManager = manager ∧ u.b SYS_CHIP_ID_ASSIGNED = manager ∧
      u.chipId = (if manager then 0 else 0x3FF) ∧ u.b TMR_STEP_STAT_RELAY = !manager ∧ u.b FOOT_STAT_SEL = foot15 ∧
      u.en .spi 0 = spi ∧ u = { s with regs := u.regs, boot := u.boot } ∧
      ∀ a, a ≠ BOOT_STATUS_BUSY.addr → a ≠ SYS_CHIP_ID.addr → a ≠ TMR_STEP_STAT_RELAY.addr → a ≠ FOOT_STAT_SEL.addr →
        a ≠ (PAGE_EN .spi 0).addr → u.rd a = s.rd a

/-- REGISTER_WRITE, W1C_WRITE, RC_READ (R9, R566, R569). -/
def Obligations.RegisterFields : Prop :=
  let field := fun (n : Nat) (x : FieldRow) => bits n x.hi x.lo
  let served := fun (s : State) (ini : BitVec 5) (addr : BitVec 26) (b : Block) (k o : Nat) (write : Bool) =>
    pageOf addr.toNat = some (b, k) ∧ b.decodeOff (addr.toNat % 0x1000) = o ∧ (b = .clk ∨ b = .crc ∨ b = .spi ∨ b = .rt) ∧
      0x01C ≤ o ∧ s.fwAllows ini.toNat addr.toNat write = true ∧ s.pageShut ini.toNat addr.toNat = none ∧ s.pageServes b k = true ∧
    (b = .rt → o = 0x044 → write = true → s.b (RT_CFG_CMB_EN k) = false ∨ s.en .rt k = true)
  let written := fun (s u : State) (b : Block) (k o : Nat) (v : BitVec 32) =>
    (∀ x ∈ b.fieldsAt o, field (u.rd (b.base k + o)).toNat x = match x.acc with
      | .rw => field v.toNat x
      | .rwd => if s.en b k then field (s.rd (b.base k + o)).toNat x else field v.toNat x
      | .w1c => field (s.rd (b.base k + o)).toNat x - (field (s.rd (b.base k + o)).toNat x &&& field v.toNat x)
      | _ => field (s.rd (b.base k + o)).toNat x) ∧
    s.onlyRegs u fun a => a = b.base k + o ∨ a = (CFG_REJECT_COUNT b k).addr ∨ a = (INT_STATUS b k).addr ∨
      a = (INT_STATUS .clu (clusterOf k)).addr
  (∀ (ini : BitVec 5) (addr : BitVec 26) (v : BitVec 32) (s : State) (b : Block) (k o : Nat), served s ini addr b k o true →
    (∃ u, exec (.registerWrite ini addr v) s = .next u ∧ written s u b k o v) ∧
    (∃ u, exec (.w1cWrite ini addr v) s = .next u ∧ written s u b k o v)) ∧
  (∀ (ini : BitVec 5) (addr : BitVec 26) (s : State) (b : Block) (k o : Nat), served s ini addr b k o false →
    ∃ u, exec (.rcRead ini addr) s = .next u ∧
      (∀ x ∈ b.fieldsAt o, field (u.rd (b.base k + o)).toNat x = if x.acc = .rc then x.rst else field (s.rd (b.base k + o)).toNat x) ∧
      s.onlyRegs u fun a => a = b.base k + o)

/-- REGISTER_WRITE, RC_READ where they are refused (R27, R269, R453, R472, R568, R575). -/
def Obligations.AccessRefused : Prop :=
  let denied := fun (s u : State) (ini : BitVec 5) (addr : BitVec 26) (write : Bool) =>
    u.f FWC_FW_DENIED = min (s.f FWC_FW_DENIED + 1) FWC_FW_DENIED.max ∧
    u.f (INT_STATUS .fwc 0) = s.f (INT_STATUS .fwc 0) ||| 4 ∧
    (s.b FWC_FW_LAST_VALID = false → u.f FWC_FW_LAST_VALID = 1 ∧ u.b FWC_FW_LAST_READ = (!write) ∧ u.f FWC_FW_LAST_INIT = ini.toNat ∧
      u.f FWC_FW_LAST_ADDR = addr.toNat / 8192) ∧
    s.onlyRegs u fun a => a = FWC_FW_DENIED.addr ∨ a = (INT_STATUS .fwc 0).addr ∨ a = FWC_FW_LAST_VALID.addr
  ∀ (ini : BitVec 5) (addr : BitVec 26) (v : BitVec 32) (s : State),
    (pageOf addr.toNat = none → exec (.registerWrite ini addr v) s = .next s ∧ exec (.rcRead ini addr) s = .next s) ∧
    (pageOf addr.toNat ≠ none → s.fwAllows ini.toNat addr.toNat true = false →
      ∃ u, exec (.registerWrite ini addr v) s = .next u ∧ denied s u ini addr true) ∧
    (pageOf addr.toNat ≠ none → s.fwAllows ini.toNat addr.toNat false = false →
      ∃ u, exec (.rcRead ini addr) s = .next u ∧ denied s u ini addr false) ∧
    (∀ b k, pageOf addr.toNat = some (b, k) → s.pageServes b k = false → s.pageShut ini.toNat addr.toNat = none →
      (s.fwAllows ini.toNat addr.toNat true = true → exec (.registerWrite ini addr v) s = .next s) ∧
      (s.fwAllows ini.toNat addr.toNat false = true → exec (.rcRead ini addr) s = .next s)) ∧
    (∀ b k, pageOf addr.toNat = some (b, k) → s.pageShut ini.toNat addr.toNat ≠ none →
      let shut := fun (u : State) => s.onlyRegs u fun a => a = MTR_CSINK_RQ.addr ∨ a = (INT_STATUS .mtr 0).addr
      (s.fwAllows ini.toNat addr.toNat true = true → ∃ u, exec (.registerWrite ini addr v) s = .next u ∧ shut u) ∧
      (s.fwAllows ini.toNat addr.toNat false = true → ∃ u, exec (.rcRead ini addr) s = .next u ∧ shut u))

/-- INT_SET (R564), INT_ENABLE_WRITE (R574), BLOCK_DISABLE, BLOCK_DRAIN_DONE, DRAIN_TIMEOUT_EXPIRE, FORCE (R571), BLOCK_ENABLE (R572), with
the summary of R579. -/
def Obligations.PageHeader : Prop :=
  let page := fun (p : BitVec 14) (s : State) (b : Block) (k : Nat) => pageOf (p.toNat * 0x1000) = some (b, k) ∧ s.pageServes b k = true
  let off := fun (u : State) (b : Block) (k : Nat) => u.en b k = false ∧ u.draining b k = false
  let follows := fun (u : State) => ∀ n, n < 16 → bitAt (u.f GPIO_IN_IN) n = u.pinLevel n
  let header := fun (b : Block) (k a : Nat) => a = (PAGE_EN b k).addr ∨ a = (PAGE_DRAINING b k).addr
  let forced := fun (c : Instr) (s : State) =>
    ∃ u, exec c s = .next u ∧ off u .spi 0 ∧ u.spi.queue = [] ∧ u.f (INT_STATUS .spi 0) = s.f (INT_STATUS .spi 0) ||| 2 ^ 30 ∧
      u.f (DISCARD_COUNT .spi 0) = min (s.f (DISCARD_COUNT .spi 0) + s.spi.queue.length) (2 ^ 32 - 1) ∧ u.mem = s.mem ∧ u.tiles = s.tiles
  (∀ (p : BitVec 14) (v : BitVec 32) (s : State) (b : Block) (k : Nat), page p s b k →
    (∃ u, exec (.intSet p v) s = .next u ∧ u.f (INT_STATUS b k) = s.f (INT_STATUS b k) ||| (v.toNat &&& pageInts b k) ∧
      s.onlyRegs u fun a => a = (INT_STATUS b k).addr ∨ (summaryBit b ≠ none ∧ a = (INT_STATUS .clu (clusterOf k)).addr)) ∧
    (∃ u, exec (.intEnableWrite p v) s = .next u ∧ u.f (INT_ENABLE b k) = v.toNat &&& pageInts b k ∧
      s.onlyRegs u fun a => a = (INT_ENABLE b k).addr ∨ (summaryBit b ≠ none ∧ a = (INT_STATUS .clu (clusterOf k)).addr)) ∧
    (b = .gpio → (s.actv b k = true → ∃ u, exec (.blockDisable p) s = .next u ∧ off u b k ∧ follows u) ∧
      (s.draining b k = false → s.en b k = false → ∃ u, exec (.blockEnable p) s = .next u ∧ u.en b k = true ∧ follows u)) ∧
    (b = .pwr ∨ b = .recd ∨ b = .crc → s.actv b k = true →
      ∃ u, exec (.blockDisable p) s = .next u ∧ off u b k ∧ s.onlyRegs u (header b k)) ∧
    (b = .mem → s.actv b k = true → s.memHeld k ≠ [] →
      ∃ u, exec (.blockDisable p) s = .next u ∧ u.draining .mem k = true ∧ u.en .mem k = true ∧ s.onlyRegs u (header .mem k)) ∧
    (b = .mem → s.draining b k = true → s.memHeld k = [] →
      ∃ u, exec (.blockDrainDone p) s = .next u ∧ off u .mem k ∧ s.onlyRegs u (header .mem k)) ∧
    (b = .spi → s.en b k = true → forced (.force p) s) ∧
    (b = .spi → s.draining b k = true → s.f (DRAIN_TIMEOUT .spi 0) ≠ 0 → forced (.drainTimeoutExpire p) s) ∧
    (b = .recd ∨ b = .spi ∨ b = .mem ∨ b = .clu ∨ b = .rt → s.draining b k = false → s.en b k = false →
      ∃ u, exec (.blockEnable p) s = .next u ∧ u.en b k = true ∧ s.onlyRegs u (atReg (PAGE_EN b k))))

/-- READ_REQ, WRITE_REQ (R240–R242, R359). -/
def Obligations.RequestsServed : Prop :=
  let here := fun (s : State) (ini : BitVec 5) (h : ReqHead) (write : Bool) =>
    h.dchip.toNat = s.chipId ∧ s.routerOn h.dtile.toNat = true ∧ s.fwAllows ini.toNat (reqAt h) write = true
  let port := fun (h : ReqHead) => if h.dgw then Port.gw else .loc
  let inTile := fun (s : State) (h : ReqHead) (t off : Nat) => s.place (reqAt h) = .tile t off ∧ s.tileServes t = true ∧
    ∀ w ∈ tileWords off (sizeBytes h.size), s.retiredWord t (tileMem off).1 w.1 = false
  let answered := fun (s u : State) (h : ReqHead) (p : Packet) => s.queuedAt u h.dtile.toNat (port h) p ∧ u.clusters = s.clusters ∧
    u.ext = s.ext ∧ u.memq = s.memq ∧ (h.dgw = false → ∀ a, a ≠ (RT_ESCAPE h.dtile.toNat).addr → u.rd a = s.rd a)
  (∀ (ini : BitVec 5) (h : ReqHead) (s : State) (t off : Nat), here s ini h false → inTile s h t off → s.parClean t = true →
    let p := Packet.readRsp (rspOf h .ok) (byteFlits (sizeBytes h.size) (s.bytes (sizeBytes h.size) (winBase t + off)))
    (s.roomFor h.dtile.toNat (port h) p = true →
      ∃ u, exec (.readReq ini h) s = .next u ∧ answered s u h p ∧ u.mem = s.mem ∧ u.tiles = s.tiles) ∧
    (s.sendReply h p = none →
      exec (.readReq ini h) s = .next { s with flights := s.flights ++
        [({ pkt := .readReq h, at_ := h.dtile.toNat, inp := port h, lane := .x, escape := false } : Flight)] })) ∧
  (∀ (ini : BitVec 5) (h : ReqHead) (d : List (BitVec 64)) (s : State) (t off : Nat), here s ini h true → inTile s h t off →
    (tileMem off).1 ≠ 2 → (∀ w ∈ tileWords off (sizeBytes h.size), s.writeWaits t (tileMem off).1 w.1 = false) →
    s.roomFor h.dtile.toNat (port h) (.writeAck (rspOf h .ok)) = true →
    ∃ u, exec (.writeReq ini h d) s = .next u ∧ answered s u h (.writeAck (rspOf h .ok)) ∧
      u.bytes (sizeBytes h.size) (winBase t + off) = flitBytes (sizeBytes h.size) d ∧
      (∀ a, a < winBase t + off ∨ winBase t + off + sizeBytes h.size ≤ a → u.ld8 a = s.ld8 a) ∧
      u.tile t = { s.tile t with bad := (u.tile t).bad, holds := (u.tile t).holds } ∧ ∀ x, x ≠ t → u.tile x = s.tile x) ∧
  (∀ (ini : BitVec 5) (h : ReqHead) (d : List (BitVec 64)) (s : State) (c l o : Nat), s.place (reqAt h) = .ext c l o → s.memUp c = true →
    (here s ini h false →
      exec (.readReq ini h) s = .next { s with memq := s.memq ++ [({ chan := c, line := l, head := h } : MemReq)] }) ∧
    (here s ini h true →
      exec (.writeReq ini h d) s = .next { s with memq := s.memq ++ [({ chan := c, line := l, head := h, data := some d } : MemReq)] })) ∧
  (∀ (ini : BitVec 5) (h : ReqHead) (s : State), h.dchip.toNat = s.chipId → s.routerOn h.dtile.toNat = true →
    (s.place (reqAt h) = .unmapped ∨ s.fwAllows ini.toNat (reqAt h) false = false) →
    ∃ u, exec (.readReq ini h) s = .next u ∧ u.mem = s.mem ∧ u.tiles = s.tiles ∧ u.ext = s.ext ∧ u.memq = s.memq)

/-- READ_RSP, WRITE_ACK (R187, R241, R466); how requesters use tags is the model's reading (notes/assumptions/128.md). -/
def Obligations.RepliesTaken : Prop :=
  let core := fun (h : RspHead) => decide (0x60 ≤ h.tag.toNat % 128) && decide (h.tag.toNat % 128 < 0x73)
  let hst := fun (h : RspHead) => if h.status = 0 then h.hstat.toNat else 6
  ∀ (h : RspHead) (d : List (BitVec 64)) (s : State),
    (h.dchip.toNat = s.chipId → (h.dgw = true ∨ (16 ≤ h.tag.toNat ∧ h.tag.toNat ≠ tagREFETCH ∧ coldPlace h.dtile.toNat h.tag.toNat = none)) →
      core h = false →
      exec (.readRsp h d) s = .next { s with answers := s.answers ++ [Packet.readRsp h d] } ∧
      exec (.writeAck h) s = .next { s with answers := s.answers ++ [Packet.writeAck h] }) ∧
    (h.dchip.toNat = s.chipId → h.tag.toNat < 16 → h.dgw = false →
      (∀ b ∈ (s.tile h.dtile.toNat).bufs, b.issued = true → b.reply = none → b.tag ≠ h.tag.toNat) →
      exec (.readRsp h d) s = .next s ∧ exec (.writeAck h) s = .next s) ∧
    (∀ b, h.dchip.toNat = s.chipId → h.tag.toNat < 16 → h.dgw = false →
      (s.tile h.dtile.toNat).bufs.find? (fun x => x.issued && x.reply == none && x.tag == h.tag.toNat) = some b → b.dead = false →
      (∀ x ∈ (s.tile h.dtile.toNat).bufs, x.issued = true) →
      let filled := fun (d : List (BitVec 64)) => s.modTile h.dtile.toNat fun x =>
        { x with bufs := x.bufs.map fun y => if y = b then { b with reply := some (h.status.toNat, h.hstat.toNat, d) } else y }
      exec (.readRsp h d) s = .next (filled d) ∧ exec (.writeAck h) s = .next (filled [])) ∧
    (h.dchip.toNat = s.chipId → 16 ≤ h.tag.toNat ∨ h.dgw = true → core h = true →
      let k := h.tag.toNat % 128 - 0x60
      (s.core k).busy = true →
      exec (.readRsp h d) s = .next (s.setCore k { s.core k with rsp := some (hst h, d) }) ∧
      exec (.writeAck h) s = .next (s.setCore k { s.core k with rsp := some (hst h, []) })) ∧
    (h.dchip.toNat ≠ s.chipId → exec (.readRsp h d) s = .next s ∧ exec (.writeAck h) s = .next s)

/-- ROUTER_HOP (R251–R253, R266), COLLAR_CROSSING (R267), PSUM_WINDOW_EXPIRE (R257). -/
def Obligations.PacketsMoveOn : Prop :=
  let way := fun (r d : Nat) => (xDir r d).getD ((yDir r d).getD .loc)
  let free := fun (s : State) (f : Flight) (d : Nat) =>
    f.at_ ≠ d ∧ s.routerOn f.at_ = true ∧ crossesCollar f.at_ (way f.at_ d) = false ∧ s.routerOn (portStep f.at_ (way f.at_ d)) = true ∧
      s.laneRoom (portStep f.at_ (way f.at_ d)) (portOpp (way f.at_ d)) f.pkt f.lane false = true
  let onward := fun (f : Flight) (d : Nat) =>
    ({ pkt := f.pkt, at_ := portStep f.at_ (way f.at_ d), inp := portOpp (way f.at_ d), lane := f.lane, escape := true, arr := f.arr } : Flight)
  let rest := fun (s u : State) =>
    u = { s with flights := u.flights, psums := u.psums, regs := u.regs, arb := u.arb, drainW := u.drainW, drainE := u.drainE } ∧
      ∀ a, a ≠ (INT_STATUS .mtr 0).addr → u.rd a = s.rd a
  (∀ (r : BitVec 10) (k : BitVec 8) (s : State) (f : Flight) (dt dc : BitVec 10) (ax : BitVec 16) (pl : BitVec 4) (pr : BitVec 2)
      (st : BitVec 8),
    s.flightAt r.toNat k.toNat = some f → f.at_ = r.toNat → f.pkt = .spikeUC dt dc ax pl pr st → f.escape = true → dc.toNat = s.chipId →
    s.isHead f = true → s.drainSync.granted f = f → (∀ b ∈ s.psums, b.at_ = r.toNat → b.due = false) → tieOfRouter r.toNat = none →
    free (s.dropFlight f) f dt.toNat →
    ∃ u, exec (.routerHop r k) s = .next u ∧ u.flights = s.flights.erase f ++ [onward f dt.toNat] ∧ u.psums = s.psums ∧ rest s u) ∧
  (∀ (row : BitVec 5) (toEast : Bool) (k : BitVec 8) (s : State) (f : Flight),
    let r := row.toNat * 32 + (if toEast then 16 else 15)
    let inp : Port := if toEast then .west else .east
    s.bridgeAt (collarFrom row.toNat toEast) k.toNat = some f → s.isHead f = true → f.escape = true →
    (f.pkt.cls = some .ev ∨ f.pkt.cls = some .rp) → s.routerOn r = true → (s.dropFlight f).laneRoom r inp f.pkt f.lane false = true →
    ∃ u, exec (.collarCrossing row toEast k) s = .next u ∧ u.psums = s.psums ∧ u.arb = s.arb ∧ rest s u ∧
      u.flights = s.flights.erase f ++ [({ pkt := f.pkt, at_ := r, inp := inp, lane := f.lane, escape := true, arr := f.arr } : Flight)]) ∧
  (∀ (r : BitVec 10) (k : BitVec 5) (s : State) (b : PsumBuf),
    let f : Flight := { pkt := b.packet, at_ := r.toNat, inp := b.inp, lane := b.lane, escape := true, arr := b.arr }
    b ∈ s.psums → b.at_ = r.toNat → b.buf = k.toNat → (∀ c ∈ s.psums, c.at_ = r.toNat → c.due = true ∨ c.buf = k.toNat → c = b) →
    b.dchip.toNat = s.chipId → free s f b.dtile.toNat →
    s.b (RT_CFG_CMB_EN (portStep r.toNat (way r.toNat b.dtile.toNat))) = false →
    ∃ u, exec (.psumWindowExpire r k) s = .next u ∧ u.psums = s.psums.filter (fun c => !(c.at_ == r.toNat && c.buf == k.toNat)) ∧
      u.flights = s.flights ++ [onward f b.dtile.toNat] ∧ u.arb = s.arb ∧ rest s u)

/-- MTR_INJ_HOLD_WRITE (R265), MTR_DRAINED (R275), RT_DISABLE (R270), COLLAR_SINK_PACKET (R269), BCAST_LOAD_DELIVER (R248, R451). -/
def Obligations.MortarControl : Prop :=
  let regs := fun (s u : State) (p : Nat → Prop) =>
    u = { s with regs := u.regs, drainW := u.drainW, drainE := u.drainE } ∧ ∀ a, ¬ p a → a ≠ (INT_STATUS .mtr 0).addr → u.rd a = s.rd a
  (∀ (v : BitVec 32) (s : State), ∃ u, exec (.mtrInjHoldWrite v) s = .next u ∧
    u.rd MTR_INJ_HOLD.addr = BitVec.ofNat 32 (v.toNat % 2 ^ 22) ∧ regs s u (atReg MTR_INJ_HOLD)) ∧
  (∀ (east : Bool) (s : State), s.wytheDrained east = true → s.rd MTR_INJ_HOLD.addr ≠ 0 →
    (if east then s.drainE else s.drainW) = false →
    ∃ u, exec (.mtrDrained east) s = .next u ∧ u.f (INT_STATUS .mtr 0) = s.f (INT_STATUS .mtr 0) ||| 1 ∧
      (if east then u.drainE else u.drainW) = true ∧ regs s u (fun _ => False)) ∧
  (∀ (t : BitVec 10) (s : State), s.routerOn t.toNat = true → s.en .rt t.toNat = true → (∀ b ∈ s.psums, b.at_ ≠ t.toNat) →
    ∃ u, exec (.rtDisable t) s = .next u ∧ u.en .rt t.toNat = s.rtBusy t.toNat ∧
      (s.rtBusy t.toNat = true → u.draining .rt t.toNat = true) ∧ (s.rtBusy t.toNat = false → u.draining .rt t.toNat = false) ∧
      regs s u fun a => a = (PAGE_EN .rt t.toNat).addr ∨ a = (PAGE_DRAINING .rt t.toNat).addr) ∧
  (∀ (row : BitVec 5) (toEast : Bool) (dt dc : BitVec 10) (ax : BitVec 16) (pl : BitVec 4) (pr : BitVec 2) (st : BitVec 8) (s : State),
    s.collarSinks toEast = true → (stepClass st.toNat s.collarStep).counted = true →
    ∃ u, exec (.collarSinkPacket row toEast (.spikeUC dt dc ax pl pr st)) s = .next u ∧
      u.f MTR_CSINK_PKTS = min (s.f MTR_CSINK_PKTS + 1) MTR_CSINK_PKTS.max ∧
      u.f (collarCon st.toNat) = (s.f (collarCon st.toNat) + 1) % 2 ^ 32 ∧
      u.f (INT_STATUS .mtr 0) = s.f (INT_STATUS .mtr 0) ||| 2 ∧
      s.onlyRegs u fun a => a = MTR_CSINK_PKTS.addr ∨ a = (collarCon st.toNat).addr ∨ a = (INT_STATUS .mtr 0).addr) ∧
  (∀ (c : BitVec 4) (o : BitVec 24) (d : List (BitVec 64)) (s : State), s.domOn (dCLU c.toNat) = true →
    (s.coreState (3 + c.toNat) = cLOAD → d ≠ [] → 8 * o.toNat + 8 * d.length ≤ 0x40000 → (s.cluster c.toNat).bad = [] →
      bitAt (s.f (CLU_RETIRE_BANK_BANK c.toNat)) 0 = false → s.b (CLU_SEC_WIN_WIPING 0) = false →
      ∃ u, exec (.bcastLoadDeliver c o d) s = .next u ∧
        u.bytes (8 * d.length) (shmBase c.toNat + 8 * o.toNat) = d.flatMap (fun w => bytesLE 8 w.toNat) ∧
        (∀ a, a < shmBase c.toNat + 8 * o.toNat ∨ shmBase c.toNat + 8 * o.toNat + 8 * d.length ≤ a → u.ld8 a = s.ld8 a) ∧
        u.regs = s.regs ∧ u.clusters = s.clusters) ∧
    (s.coreState (3 + c.toNat) ≠ cLOAD →
      ∃ u, exec (.bcastLoadDeliver c o d) s = .next u ∧ u.f (CLU_BCAST_DISC c.toNat) = min (s.f (CLU_BCAST_DISC c.toNat) + 1) (CLU_BCAST_DISC c.toNat).max ∧
        s.onlyRegs u (atReg (CLU_BCAST_DISC c.toNat))))

/-- R235–R248: no bit of a packet is dropped; R321: packets in one frame. -/
def Obligations.PacketsRoundTrip : Prop :=
  let fits : Packet → Prop := fun p => match p with
    | .raw _ => False
    | .writeReq h d => d.length = dataFlits h.size.toNat
    | .readRsp h d =>
      d.length = if h.status.toNat = 0 ∧ ¬ (h.size.toNat = 3 ∧ h.hstat.toNat ≠ 0) then dataFlits h.size.toNat else 0
    | .mgmt _ _ _ _ d => d.length ≤ 7
    | .bcast _ _ _ d => 1 ≤ d.length ∧ d.length ≤ 7
    | .hodMsg _ op _ d => d.length = if op = 1 then 4 else 0
    | .psum _ _ _ _ _ _ => True
    | _ => True
  (∀ p : Packet, fits p → Packet.ofFlits p.flits = p) ∧
  (∀ ps : List Packet, (∀ p ∈ ps, fits p) → Packet.split ps.length (ps.flatMap Packet.flits) = (ps, false))

/-- TIE_TOKEN (R343), TIE_TOKEN_DETECT (R318), TIE_TRAIN_ATTEMPT (R319), TIE_UP (R322, R336). -/
def Obligations.TieTraining : Prop :=
  ∀ (p : BitVec 2) (s : State), s.domOn dTIE = true →
    (s.actv .tie p.toNat = true → s.f (TIE_STAT_STATE p.toNat) = 1 ∨ s.f (TIE_STAT_STATE p.toNat) = 5 →
      ∃ u, exec (.tieToken p) s = .next u ∧ u.f (TIE_STAT_STATE p.toNat) = 1 ∧
        u.tieAt p.toNat = { s.tieAt p.toNat with token := true } ∧ (∀ q, q ≠ p.toNat → u.tieAt q = s.tieAt q) ∧
        u = { s with regs := u.regs, ties := u.ties } ∧ ∀ a, a ≠ (TIE_STAT_STATE p.toNat).addr → u.rd a = s.rd a) ∧
    (s.f (TIE_STAT_STATE p.toNat) = 1 → s.isManager = true → (s.tieAt p.toNat).token = true →
      ∃ u, exec (.tieTokenDetect p) s = .next u ∧ u.f (TIE_STAT_STATE p.toNat) = 2 ∧
        u.tieAt p.toNat = { s.tieAt p.toNat with got := true } ∧ (∀ q, q ≠ p.toNat → u.tieAt q = s.tieAt q) ∧
        u = { s with regs := u.regs, ties := u.ties } ∧ ∀ a, a ≠ (TIE_STAT_STATE p.toNat).addr → u.rd a = s.rd a) ∧
    (s.f (TIE_STAT_STATE p.toNat) = 1 → s.isManager = false →
      ∃ u, exec (.tieTokenDetect p) s = .next u ∧ u.f (TIE_STAT_STATE p.toNat) = 2 ∧ (u.tieAt p.toNat).token = true ∧
        u.f PWR_WAKE_SRC_SRC = 6 ∧ u.f PWR_WAKE_SRC_UNIT = p.toNat ∧ u.mem = s.mem ∧ u.tiles = s.tiles) ∧
    (∀ (w : BitVec 2) (lock err : BitVec 4) (n : Nat), s.f (TIE_STAT_STATE p.toNat) = 2 → (s.tieAt p.toNat).width = n → 1 ≤ n → n ≤ 3 →
      lock.toNat &&& widthLanes n = widthLanes n → err.toNat &&& widthLanes n = 0 →
      ∃ u, exec (.tieTrainAttempt p w true lock err) s = .next u ∧ u.f (TIE_STAT_STATE p.toNat) = 3 ∧ u.f (TIE_STAT_WIDTH p.toNat) = n ∧
        u.f (TIE_STAT_START p.toNat) = n ∧ u.f (TIE_LANES_LOCK p.toNat) = lock.toNat ∧ (u.tieAt p.toNat).token = false ∧
        bits (u.recWord 22) (2 * p.toNat + 1) (2 * p.toNat) = n ∧ (∀ q, q ≠ p.toNat → u.tieAt q = s.tieAt q) ∧ u.mem = s.mem ∧ u.tiles = s.tiles) ∧
    (∀ (w : BitVec 2) (lock err : BitVec 4) (n : Nat), s.f (TIE_STAT_STATE p.toNat) = 2 → (s.tieAt p.toNat).width = n → 2 ≤ n → n ≤ 3 →
      ∃ u, exec (.tieTrainAttempt p w false lock err) s = .next u ∧ u.f (TIE_STAT_STATE p.toNat) = 2 ∧
        u.tieAt p.toNat = { s.tieAt p.toNat with width := n - 1 } ∧
        u.f (TIE_LANES_ATTEMPTS p.toNat) = min (s.f (TIE_LANES_ATTEMPTS p.toNat) + 1) 255 ∧ u.mem = s.mem ∧ u.tiles = s.tiles) ∧
    (s.f (TIE_STAT_STATE p.toNat) = 3 → s.b SYS_CHIP_ID_ASSIGNED = false →
      ∃ u, exec (.tieUp p) s = .next u ∧ u.f (TIE_STAT_STATE p.toNat) = 4 ∧ (u.tieAt p.toNat).retry = [] ∧ (u.tieAt p.toNat).txSeq = 0 ∧
        (u.tieAt p.toNat).rxSeq = 0 ∧ bitAt (u.f (INT_STATUS .tie p.toNat)) 1 = true ∧ u.mem = s.mem ∧ u.tiles = s.tiles)

/-- ASSIGN, ACCEPT, CONFLICT (R336, R339). -/
def Obligations.TieEnumeration : Prop :=
  let sends := fun (s : State) (p : Nat) =>
    let x := s.tieAt p
    x.due = [] ∧ x.egress = [] ∧ x.tree = [] ∧ x.relay = [] ∧ x.linkq = [] ∧ x.ending = false ∧ x.retry.length < 256 ∧
      2 ≤ x.credits 8 ∧ s.reserved p 8 ≤ 62
  let conflicts := fun (s u : State) (p : Nat) =>
    u.f (TIE_STAT_STATE p) = 5 ∧ u.f (TIE_STAT_CAUSE p) = (if s.isManager then 6 else 4) ∧
      u.f (TIE_TX_FRAMES p) = min (s.f (TIE_TX_FRAMES p) + 1) (2 ^ 32 - 1) ∧ u.chipId = s.chipId ∧ u.mem = s.mem ∧ u.tiles = s.tiles
  ∀ (p : BitVec 2) (s : State), s.tieUp p.toNat = true →
    (∀ (pos sender : BitVec 10) (wm1 hm1 : BitVec 5), s.isManager = false → s.b SYS_CHIP_ID_ASSIGNED = false →
      ∃ u, exec (.assign p pos sender wm1 hm1) s = .next u ∧ u.chipId = pos.toNat ∧ u.b SYS_CHIP_ID_ASSIGNED = true ∧
        u.torusW = wm1.toNat + 1 ∧ u.torusH = hm1.toNat + 1 ∧ u.b (TIE_STAT_UPSTREAM p.toNat) = true ∧
        u.f (TIE_TREE_PARENT 0) = treeParentPort (wm1.toNat + 1) (hm1.toNat + 1) pos.toNat ∧
        u.f (TIE_TREE_CHILD 0) = treeChildPorts (wm1.toNat + 1) (hm1.toNat + 1) pos.toNat ∧
        u.f (TIE_STAT_NBR p.toNat) = sender.toNat ∧ u.mem = s.mem ∧ u.tiles = s.tiles) ∧
    (∀ (pos sender : BitVec 10) (wm1 hm1 : BitVec 5), s.isManager = false → s.b SYS_CHIP_ID_ASSIGNED = true → pos.toNat ≠ s.chipId →
      sends s p.toNat → ∃ u, exec (.assign p pos sender wm1 hm1) s = .next u ∧ conflicts s u p.toNat) ∧
    (∀ origin : BitVec 10, s.isManager = true →
      ∃ u, exec (.accept p origin) s = .next u ∧ u.f (TIE_ENUM_CHIPS 0) = min (s.f (TIE_ENUM_CHIPS 0) + 1) 65535 ∧
        u.f (TIE_STAT_NBR p.toNat) = neighbour s.torusW s.torusH s.chipId p.toNat % 1024 ∧
        s.onlyRegs u fun a => a = (TIE_ENUM_CHIPS 0).addr ∨ a = (TIE_STAT_NBR p.toNat).addr) ∧
    (sends s p.toNat → ∃ u, exec (.conflict p) s = .next u ∧ conflicts s u p.toNat)

/-- TIE_DATA_FRAME, TIE_TREE_FRAME, TIE_CTRL_FRAME, TIE_CTRL_SEND, TIE_RETX_TIMEOUT (R320–R324). -/
def Obligations.TieFrames : Prop :=
  let good := fun (s : State) (p ty : Nat) (hdr crc : BitVec 32) (data : List (BitVec 64)) =>
    bits hdr.toNat 31 28 = ty ∧ bits hdr.toNat 23 21 + 1 = data.length ∧ frameCrc (seqInit (s.tieAt p).rxSeq) hdr.toNat data = crc.toNat
  let fails := fun (c : Instr) (s : State) (p : Nat) =>
    let x := s.tieAt p
    ∃ u, exec c s = .next u ∧ u.f (TIE_CRC_ERR p) = min (s.f (TIE_CRC_ERR p) + 1) (2 ^ 32 - 1) ∧
      u.tieAt p = (if x.skip then x else { x with skip := true, ctrl := some { x with nak := true }.ctrlWords, since := 0, nak := false }) ∧
      (∀ q, q ≠ p → u.tieAt q = s.tieAt q) ∧ u = { s with regs := u.regs, ties := u.ties } ∧
      ∀ a, a ≠ (TIE_CRC_ERR p).addr → u.rd a = s.rd a
  let quiet := fun (s : State) (p : Nat) =>
    let x := s.tieAt p
    x.due = [] ∧ x.egress = [] ∧ x.tree = [] ∧ x.relay = [] ∧ x.linkq = [] ∧ x.ending = false
  ∀ (p : BitVec 2) (s : State), s.tieUp p.toNat = true →
    (∀ (hdr crc : BitVec 32) (data : List (BitVec 64)), ¬ good s p.toNat 1 hdr crc data → fails (.tieDataFrame p hdr crc data) s p.toNat) ∧
    (∀ (hdr crc : BitVec 32) (data : List (BitVec 64)), ¬ good s p.toNat 2 hdr crc data → fails (.tieTreeFrame p hdr crc data) s p.toNat) ∧
    (∀ (hdr crc : BitVec 32) (data : List (BitVec 64)), good s p.toNat 1 hdr crc data →
      ∃ u, exec (.tieDataFrame p hdr crc data) s = .next u ∧ (u.tieAt p.toNat).rxSeq = ((s.tieAt p.toNat).rxSeq + 1) % 65536) ∧
    (∀ (hdr crc : BitVec 32) (dt dc : BitVec 10) (ax : BitVec 16) (pl : BitVec 4) (pr : BitVec 2) (st : BitVec 8),
      let pk := Packet.spikeUC dt dc ax pl pr st
      good s p.toNat 1 hdr crc pk.flits → dc.toNat = s.chipId → (s.tieAt p.toNat).ingress = [] → quiet s p.toNat →
      s.b MTR_INJ_HOLD_TIES = false → s.roomFor (tieRouter p.toNat) .gw pk = true →
      ∃ u, exec (.tieDataFrame p hdr crc pk.flits) s = .next u ∧ s.queuedAt u (tieRouter p.toNat) .gw pk ∧
        (u.tieAt p.toNat).ingress = [] ∧ u.mem = s.mem ∧ u.tiles = s.tiles) ∧
    (∀ (hdr crc : BitVec 32) (data : List (BitVec 64)), good s p.toNat 2 hdr crc data → s.parentTie ≠ some p.toNat →
      (s.tieAt p.toNat).childDue = false →
      ∃ u, exec (.tieTreeFrame p hdr crc data) s = .next u ∧ (u.tieAt p.toNat).rxSeq = ((s.tieAt p.toNat).rxSeq + 1) % 65536) ∧
    (∀ (hdr crc : BitVec 32) (w0 w1 : BitVec 64),
      ¬ (bits hdr.toNat 31 28 = 3 ∧ bits hdr.toNat 23 21 = 1 ∧ frameCrc 0xFFFFFFFF hdr.toNat [w0, w1] = crc.toNat) →
      ∃ u, exec (.tieCtrlFrame p hdr crc w0 w1) s = .next u ∧ u.f (TIE_CRC_ERR p.toNat) = min (s.f (TIE_CRC_ERR p.toNat) + 1) (2 ^ 32 - 1) ∧
        s.onlyRegs u (atReg (TIE_CRC_ERR p.toNat))) ∧
    (∀ (hdr crc : BitVec 32) (w0 w1 : BitVec 64), bits hdr.toNat 31 28 = 3 → bits hdr.toNat 23 21 = 1 →
      frameCrc 0xFFFFFFFF hdr.toNat [w0, w1] = crc.toNat → bitAt w1.toNat 47 = false →
      quiet s p.toNat →
      ∃ u, exec (.tieCtrlFrame p hdr crc w0 w1) s = .next u ∧
        (u.tieAt p.toNat).retry = (s.tieAt p.toNat).retry.filter
          (fun x => decide ((x.seq + 65536 - bits w1.toNat 63 48) % 65536 < 32768)) ∧ u.regs = s.regs ∧ u.flights = s.flights) ∧
    (exec (.tieCtrlSend p) s = .next (s.setTie p.toNat
      { s.tieAt p.toNat with ctrl := some (s.tieAt p.toNat).ctrlWords, since := 0, nak := false })) ∧
    ((s.tieAt p.toNat).ending = false → (∀ x ∈ (s.tieAt p.toNat).retry, x.resends < max 1 (s.f (TIE_CFG_RETRY_MAX p.toNat))) →
      ∃ u, exec (.tieRetxTimeout p) s = .next u ∧ u.tieUp p.toNat = true ∧
        u.f (TIE_RETX p.toNat) = min (s.f (TIE_RETX p.toNat) + (s.tieAt p.toNat).retry.length) (2 ^ 32 - 1) ∧
        (u.tieAt p.toNat).retry.take (s.tieAt p.toNat).retry.length =
          (s.tieAt p.toNat).retry.map fun x => { x with resends := x.resends + 1 })

/-- TIE_LOS, TIE_DOWN (R325, R326, R344), TIE_DISABLE (R343). -/
def Obligations.TieGoesDown : Prop :=
  let down := fun (s u : State) (p cause : Nat) =>
    u.f (TIE_STAT_STATE p) = 5 ∧ u.f (TIE_STAT_CAUSE p) = cause ∧ u.f (TIE_DOWNS p) = min (s.f (TIE_DOWNS p) + 1) (TIE_DOWNS p).max ∧
      bitAt (u.f (INT_STATUS .tie p)) 0 = true ∧ ((u.tieAt p).retry = []) ∧ (u.tieAt p).tree = [] ∧ u.mem = s.mem ∧ u.tiles = s.tiles
  ∀ (p : BitVec 2) (s : State), s.domOn dTIE = true →
    (s.f (TIE_STAT_STATE p.toNat) = 4 ∨ s.f (TIE_STAT_STATE p.toNat) = 3 → ∃ u, exec (.tieLos p) s = .next u ∧ down s u p.toNat 2) ∧
    (∀ cause : BitVec 4, 1 ≤ cause.toNat → cause.toNat ≤ 6 → s.f (TIE_STAT_STATE p.toNat) ≠ 0 → s.f (TIE_STAT_STATE p.toNat) ≠ 5 →
      ∃ u, exec (.tieDown p cause) s = .next u ∧ down s u p.toNat cause.toNat) ∧
    (s.en .tie p.toNat = true → s.tieUp p.toNat = true → s.tieIdle p.toNat = false →
      ∃ u, exec (.tieDisable p) s = .next u ∧ u.draining .tie p.toNat = true ∧ s.onlyRegs u (atReg (PAGE_DRAINING .tie p.toNat))) ∧
    (s.en .tie p.toNat = true → s.tieUp p.toNat = true → s.tieIdle p.toNat = true →
      ∃ u, exec (.tieDisable p) s = .next u ∧ u.en .tie p.toNat = false ∧ u.draining .tie p.toNat = false ∧ down s u p.toNat 5)

/-- TIE_UNROUTABLE (R331), TIE_REQ_TIMEOUT, TIE_REPLY_MATCH (R332). -/
def Obligations.TieRequests : Prop :=
  ∀ (p : BitVec 2) (s : State), s.domOn dTIE = true →
    (∀ (dt dc : BitVec 10) (ax : BitVec 16) (pl : BitVec 4) (pr : BitVec 2) (st : BitVec 8), s.tieUp p.toNat = false →
      (∀ e ∈ (s.tieAt p.toNat).egress, e.2 ≠ .spikeUC dt dc ax pl pr st) →
      (stepClass st.toNat (s.tieAt p.toNat).step).counted = true →
      ∃ u, exec (.tieUnroutable p (.spikeUC dt dc ax pl pr st)) s = .next u ∧
        u.f (TIE_SINK_PKTS p.toNat) = min (s.f (TIE_SINK_PKTS p.toNat) + 1) (TIE_SINK_PKTS p.toNat).max ∧
        u.f (tieCon p.toNat st.toNat) = (s.f (tieCon p.toNat st.toNat) + 1) % 2 ^ 32 ∧
        s.onlyRegs u fun a => a = (TIE_SINK_PKTS p.toNat).addr ∨ a = (tieCon p.toNat st.toNat).addr) ∧
    (∀ (k : BitVec 8) (rp : Packet), (s.tieAt p.toNat).out[k.toNat]? = some rp → (rspKey rp).isSome = true →
      (s.tieAt p.toNat).egress = [] → (s.tieAt p.toNat).tree = [] → (s.tieAt p.toNat).relay = [] → (s.tieAt p.toNat).linkq = [] →
      (s.tieAt p.toNat).due = [] → (s.tieAt p.toNat).ending = false → s.roomFor (tieRouter p.toNat) .gw rp = true →
      ∃ u, exec (.tieReqTimeout p k) s = .next u ∧ u.tieAt p.toNat = { s.tieAt p.toNat with out := (s.tieAt p.toNat).out.eraseIdx k.toNat } ∧
        u.f (TIE_REQ_TO p.toNat) = min (s.f (TIE_REQ_TO p.toNat) + 1) (2 ^ 32 - 1) ∧
        u.f (INT_STATUS .tie p.toNat) = s.f (INT_STATUS .tie p.toNat) ||| 32 ∧ s.queuedAt u (tieRouter p.toNat) .gw rp ∧
        u.mem = s.mem ∧ u.tiles = s.tiles) ∧
    (∀ pkt : Packet, s.replyHere pkt = true →
      (∀ (q : Nat) (a b : List Packet) (o : Packet), q < 4 → (s.tieAt q).out = a ++ o :: b → rspKey o = rspKey pkt →
        (∀ x ∈ a, rspKey x ≠ rspKey pkt) → (∀ r, r < q → ∀ x ∈ (s.tieAt r).out, rspKey x ≠ rspKey pkt) →
        s.roomFor (tieRouter p.toNat) .gw pkt = true →
        ∃ u, exec (.tieReplyMatch p pkt) s = .next u ∧ s.queuedAt u (tieRouter p.toNat) .gw pkt ∧
          u.tieAt q = { s.tieAt q with out := a ++ b } ∧ (∀ r, r ≠ q → u.tieAt r = s.tieAt r) ∧ u.mem = s.mem ∧ u.tiles = s.tiles) ∧
      ((∀ r, r < 4 → ∀ x ∈ (s.tieAt r).out, rspKey x ≠ rspKey pkt) →
        ∃ u, exec (.tieReplyMatch p pkt) s = .next u ∧ u.f (TIE_LATE_RSP p.toNat) = min (s.f (TIE_LATE_RSP p.toNat) + 1) (2 ^ 32 - 1) ∧
          s.onlyRegs u (atReg (TIE_LATE_RSP p.toNat))))

/-- MGMT_REGISTER_FRAME, MGMT_MAILBOX_FRAME, MGMT_FORWARD_TIMEOUT (R337). -/
def Obligations.ManagementFrames : Prop :=
  (∀ (schip : BitVec 10) (seq : BitVec 8) (a : BitVec 38) (s : State), s.isManager = false → s.host.agent = [] → s.host.mgOut = [] →
    pageOf a.toNat = none → s.reads iHOST (s.mine a.toNat) 4 sysRouter = true →
    let pk := Packet.mgmt 0 schip (BitVec.ofNat 10 s.chipId) seq (mgReg false 0 1 a.toNat [ofLE (s.readBytes (s.mine a.toNat) 4)])
    s.roomFor sysRouter .gw pk = true →
    ∃ u, exec (.mgmtRegisterFrame schip seq (mgReg false 0 1 a.toNat [])) s = .next u ∧ s.queuedAt u sysRouter .gw pk ∧
      u.host = s.host ∧ u.mem = s.mem ∧ u.tiles = s.tiles) ∧
  (∀ (schip : BitVec 10) (seq msg : BitVec 8) (d : List (BitVec 64)) (n : Nat) (s : State), n < 64 →
    exec (.mgmtMailboxFrame schip seq (flit [(msg.toNat, 8), (0, 6), (0, 1), (n, 6), (0, 43)] :: d)) s =
      .next { s with host := { s.host with masm := (s.host.masm.filter fun x => x.1 != schip.toNat) ++
        [(schip.toNat, msg.toNat, 1, (d.flatMap fun w => bytesLE 8 w.toNat).take n)] } }) ∧
  (∀ s : State, s.isManager = true → s.host.jobs = [] → s.spi.await = none →
    (∀ (l : LongOp) (q : Nat), s.host.long = some l → l.await = some q →
      exec .mgmtForwardTimeout s = .next { s with host := { s.host with long := some { l with await := none, reply := some (4, 0) } } }) ∧
    (∀ (x : Nat × Nat × Nat × Nat) (r : List (Nat × Nat × Nat × Nat)), s.host.long = none → s.host.fwdMsgs = x :: r →
      ∃ u, exec .mgmtForwardTimeout s = .next u ∧ u.host.fwdMsgs = r ∧ u.mem = s.mem ∧ u.tiles = s.tiles))

/-- MEM_LINE_READ (R357), MEM_LINE_WRITE (R358), with the check of R356. -/
def Obligations.LineAccess : Prop :=
  ∀ (n : BitVec 6) (k : BitVec 8) (s : State) (q : MemReq), s.memNext n.toNat k.toNat = some q →
    let m := sizeBytes q.head.size
    let room := fun (p : Packet) => s.roomFor (mgwRouter (n.toNat / 6)) .gw p = true
    let answered := fun (u : State) (p : Packet) => s.queuedAt u (mgwRouter (n.toNat / 6)) .gw p ∧ u.memq = s.memq.erase q ∧
      u.mem = s.mem ∧ u.tiles = s.tiles
    let rsp := fun (st : Status) (d : List (BitVec 64)) => Packet.readRsp (rspOf q.head st) d
    (∀ e1 e2 st d, q.res = some (st, d) → q.data = none → room (rsp st d) →
      ∃ u, exec (.memLineRead n k e1 e2) s = .next u ∧ answered u (rsp st d) ∧ u.ext = s.ext) ∧
    (s.domOn (memDom n.toNat) = true → s.en .mem n.toNat = true → q.res = none →
      (∀ e2, let d := byteFlits m (slice (lineBytes (s.line n.toNat q.line).data) (reqAt q.head % 64) m)
        q.data = none → s.lineGood n.toNat q.line = true → room (rsp .ok d) →
        ∃ u, exec (.memLineRead n k false e2) s = .next u ∧ answered u (rsp .ok d) ∧ u.ext = s.ext ∧
          u.f (MEM_RD_LINES n.toNat) = min (s.f (MEM_RD_LINES n.toNat) + 1) (2 ^ 32 - 1)) ∧
      (q.data = none → room (rsp .dataFail []) →
        ∃ u, exec (.memLineRead n k true true) s = .next u ∧ answered u (rsp .dataFail []) ∧ u.ext = s.ext ∧
          u.f (MEM_DATA_FAIL n.toNat) = min (s.f (MEM_DATA_FAIL n.toNat) + 1) (2 ^ 32 - 1) ∧
          bitAt (u.f (INT_STATUS .mem n.toNat)) 1 = true) ∧
      (∀ d e2, q.data = some d → s.lineGood n.toNat q.line = true → room (.writeAck (rspOf q.head .ok)) →
        ∃ u, exec (.memLineWrite n k false e2) s = .next u ∧ answered u (.writeAck (rspOf q.head .ok)) ∧
          (u.line n.toNat q.line).data = lineMerge (s.line n.toNat q.line).data (reqAt q.head % 64) (flitBytes m d) ∧
          u.lineGood n.toNat q.line = true ∧ (∀ n' l', s.lineKey n' l' ≠ s.lineKey n.toNat q.line → u.line n' l' = s.line n' l') ∧
          u.f (MEM_WR_LINES n.toNat) = min (s.f (MEM_WR_LINES n.toNat) + 1) (2 ^ 32 - 1)))

/-- MEM_FILL_GO, MEM_FILL_DONE (R353, R360, R372). -/
def Obligations.FillEngine : Prop :=
  ∀ (n : BitVec 6) (s : State), n.toNat < 48 →
    (∀ v : BitVec 32, s.domOn (memDom n.toNat) = true → bitAt v.toNat 31 = true → s.b (MEM_FILL_CTRL_BUSY n.toNat) = false →
      s.en .mem n.toNat = true →
      ∃ u, exec (.memFillGo n v) s = .next u ∧ u.f (MEM_FILL_CTRL_BUSY n.toNat) = 1 ∧ u.f (MEM_FILL_CTRL_COUNT n.toNat) = bits v.toNat 22 0 ∧
        u.fillOf n.toNat = (s.f (MEM_FILL_START_LINE n.toNat), bits v.toNat 22 0) ∧ u = { s with regs := u.regs, fills := u.fills } ∧
        (∀ n', n' ≠ n.toNat → u.fillOf n' = s.fillOf n') ∧ ∀ a, a ≠ (MEM_FILL_CTRL_BUSY n.toNat).addr → u.rd a = s.rd a) ∧
    (s.b (MEM_FILL_CTRL_BUSY n.toNat) = true →
      ∃ u, exec (.memFillDone n) s = .next u ∧ u.f (MEM_FILL_CTRL_BUSY n.toNat) = 0 ∧ bitAt (u.f (INT_STATUS .mem n.toNat)) 0 = true ∧
        (∀ l, (s.fillOf n.toNat).1 ≤ l → l < (s.fillOf n.toNat).1 + (s.fillOf n.toNat).2 →
          l < s.chanLines n.toNat → u.lineGood n.toNat l = true ∧ (u.line n.toNat l).data = 0) ∧
        (∀ n' l, n' < 48 → l < 2 ^ 23 → n' ≠ n.toNat → u.line n' l = s.line n' l) ∧ u.mem = s.mem ∧ u.tiles = s.tiles)

/-- CRC_MESSAGE (R366, R368, R369), CRC_ENABLE (R365, R370). -/
def Obligations.CheckUnits : Prop :=
  ∀ (k : BitVec 2) (s : State),
    (∀ (own : BitVec 32) (bytes : List (BitVec 8)), s.en .crc k.toNat = true → s.b (PAGE_FAULT .crc k.toNat) = false →
      s.f (CRC_SRC_SRC k.toNat) ≠ 0 →
      let bs := bytes.map BitVec.toNat
      let w := ceilDiv (s.crcWidth k.toNat) 8
      let body := bs.take (bs.length - w)
      (s.crcMode k.toNat = 1 ∨ s.crcMode k.toNat = 2 →
        ∃ u, exec (.crcMessage k own bytes) s = .next u ∧ u.f (CRC_LAST k.toNat) = s.crcOver k.toNat (s.crcFold k.toNat own.toNat) bs ∧
          u.f (CRC_MSGS k.toNat) = min (s.f (CRC_MSGS k.toNat) + 1) (2 ^ 32 - 1) ∧
          u.f (CRC_SEQ k.toNat) = (s.f (CRC_SEQ k.toNat) + 1) % 2 ^ 32 ∧
          s.onlyRegs u fun a => a = (CRC_LAST k.toNat).addr ∨ a = (CRC_MSGS k.toNat).addr ∨ a = (CRC_SEQ k.toNat).addr) ∧
      (s.crcMode k.toNat = 3 → s.f (CRC_FMT_FOLD k.toNat) ≠ 1 →
        s.crcBytes k.toNat (s.crcOver k.toNat (s.crcFold k.toNat own.toNat) body) ≠ bs.drop (bs.length - w) →
        ∃ u, exec (.crcMessage k own bytes) s = .next u ∧ u.f (CRC_FAILS k.toNat) = min (s.f (CRC_FAILS k.toNat) + 1) (2 ^ 32 - 1) ∧
          u.f (INT_STATUS .crc k.toNat) = s.f (INT_STATUS .crc k.toNat) ||| 2 ∧ u.mem = s.mem)) ∧
    (s.en .crc k.toNat = false → (∀ j, j < 4 → j ≠ k.toNat → s.en .crc j = true → s.f (CRC_SRC_SRC j) ≠ s.f (CRC_SRC_SRC k.toNat)) →
      ∃ u, exec (.crcEnable k) s = .next u ∧ u.en .crc k.toNat = true ∧
        u.b (PAGE_FAULT .crc k.toNat) = (!crcSrcKnown (s.f (CRC_SRC_SRC k.toNat))) ∧
        s.onlyRegs u fun a => a = (PAGE_EN .crc k.toNat).addr ∨ a = (PAGE_FAULT .crc k.toNat).addr) ∧
    (∀ j, j < 4 → j ≠ k.toNat → s.en .crc k.toNat = false → s.en .crc j = true → s.f (CRC_SRC_SRC j) = s.f (CRC_SRC_SRC k.toNat) →
      s.f (CRC_SRC_SRC k.toNat) ≠ 0 → 2 ≤ s.crcMode j →
      ∃ u, exec (.crcEnable k) s = .next u ∧ u.en .crc k.toNat = false ∧ u.f (INT_STATUS .crc k.toNat) = s.f (INT_STATUS .crc k.toNat) ||| 1 ∧
        s.onlyRegs u (atReg (INT_STATUS .crc k.toNat)))

/-- PAR_PEND_DONE, PAR_PEND_FAIL, PAR_HOLD_TIMEOUT (R384, R385), HW_REFETCH_REPLY (R382), TILE_PAR_LOG_READ (R391), PAR_BUCKET_LEAK (R387). -/
def Obligations.HeldWords : Prop :=
  let ended := fun (u : State) (t : Nat) (h : Hold) => ∀ x ∈ (u.tile t).holds, x.mem = h.mem → x.word = h.word → x.failed = true
  let mended := fun (s u : State) (t : Nat) (h : Hold) =>
    ended u t h ∧ u.f (TILE_PAR_CORR t) = min (s.f (TILE_PAR_CORR t) + 1) (TILE_PAR_CORR t).max ∧ ∀ x, x ≠ t → u.tile x = s.tile x
  let failed := fun (s u : State) (t : Nat) (h : Hold) =>
    ended u t h ∧ u.f (TILE_PAR_UNCORR t) = min (s.f (TILE_PAR_UNCORR t) + 1) (TILE_PAR_UNCORR t).max ∧
      bitAt (u.f (INT_STATUS .tile t)) 0 = true ∧ bitAt (u.f (INT_STATUS .clu (clusterOf t))) 10 = true
  (∀ (t : BitVec 10) (s : State) (h : Hold), s.tileUp t.toNat = true → s.holdOf t.toNat true = some h → (s.tile t.toNat).rebasing = none →
    (s.badMask t.toNat h.mem h.word = 0 ∨ s.cluRuns (clusterOf t.toNat) = false →
      ∃ u, exec (.parPendDone t) s = .next u ∧ mended s u t.toNat h ∧ u.f (TILE_PAR_PEND_VALID t.toNat) = 0 ∧ u.mem = s.mem) ∧
    (∃ u, exec (.parPendFail t) s = .next u ∧ u.f (TILE_PAR_PEND_VALID t.toNat) = 0 ∧ failed s u t.toNat h) ∧
    (∃ u, exec (.parHoldTimeout t true) s = .next u ∧ u.f (TILE_PAR_PEND_VALID t.toNat) = 0 ∧ failed s u t.toNat h)) ∧
  (∀ (t : BitVec 10) (s : State) (h : Hold) (st : Nat) (d : List (BitVec 64)), s.tileServes t.toNat = true → s.holdOf t.toNat false = some h →
    h.rsp = some (st, d) → (s.tile t.toNat).rebasing = none →
    (st = 0 → h.mem = 0 → s.retiredWord t.toNat 0 h.word = false → h.word < 32768 →
      ∃ u, exec (.hwRefetchReply t) s = .next u ∧ mended s u t.toNat h ∧ u.synW t.toNat h.word = (d.headD 0).toNat ∧
        u.badMask t.toNat 0 h.word = 0 ∧
        ∀ a, a < synBase t.toNat + 8 * h.word ∨ synBase t.toNat + 8 * h.word + 8 ≤ a → u.ld8 a = s.ld8 a) ∧
    (st = 0 → h.mem = 3 → s.retiredWord t.toNat 3 h.word = false → h.word < 8192 →
      ∃ u, exec (.hwRefetchReply t) s = .next u ∧ mended s u t.toNat h ∧ u.prog t.toNat h.word = (d.headD 0).toNat % 2 ^ 32) ∧
    (st ≠ 0 → ∃ u, exec (.hwRefetchReply t) s = .next u ∧ failed s u t.toNat h)) ∧
  (∀ (t : BitVec 10) (s : State) (e : ParLog) (rest : List ParLog), s.tileUp t.toNat = true → (s.tile t.toNat).log = e :: rest →
    ∃ u, exec (.tileParLogRead t) s = .next u ∧ u.tile t.toNat = { s.tile t.toNat with log := rest } ∧
      u.f (TILE_PAR_LOG_T t.toNat) = e.time.toNat ∧ s.onlyTiles u (atReg (TILE_PAR_LOG_T t.toNat)) (fun x => x = t.toNat)) ∧
  (∀ (c : BitVec 4) (s : State), s.domOn (dCLU c.toNat) = true →
    ∃ u, exec (.parBucketLeak c) s = .next u ∧ u.f (CLU_PAR_LEVEL_LEVEL c.toNat) = s.f (CLU_PAR_LEVEL_LEVEL c.toNat) - 1 ∧
      s.onlyRegs u (atReg (CLU_PAR_LEVEL_LEVEL c.toNat)))

/-- REPOINT_REGION (R388), RETIREMENT_WRITE (R392), STOPPED_BANK_HOLD_EXPIRE, BANK_RETURN (R375, R376), CLU_SEC_WIN_WRITE (R394). -/
def Obligations.RepairAndRetire : Prop :=
  (∀ (t : BitVec 10) (s : State) (k n : Nat), s.tileServes t.toNat = true → s.b (TILE_PAR_CFG_REP_EN t.toNat) = true →
    (s.tile t.toNat).bad = [] → s.nextRegion t.toNat (s.tile t.toNat).repNext = some k → s.nextRegion t.toNat (k + 1) = some n →
    ∃ u, exec (.repointRegion false t false) s = .next u ∧ (u.tile t.toNat).repNext = n ∧
      u.f (TILE_REP_STAT_MEM t.toNat) = (regionAt k).1 ∧ u.f (TILE_REP_STAT_BANK t.toNat) = (regionAt k).2.1 ∧
      u.f (TILE_REP_STAT_REGION t.toNat) = (regionAt k).2.2 ∧
      s.onlyTiles u (atReg (TILE_REP_STAT_MEM t.toNat)) (fun x => x = t.toNat)) ∧
  (∀ (ini : BitVec 5) (t : BitVec 10) (addr : BitVec 26) (v : BitVec 32) (s : State), addr.toNat = Block.tile.base t.toNat + 0x368 →
    s.fwAllows ini.toNat addr.toNat true = true → s.pageShut ini.toNat addr.toNat = none → s.pageServes .tile t.toNat = true →
    s.en .tile t.toNat = false →
    let bank := fun (b : Nat) (a : Nat) => synBase t.toNat + b * 0x8000 ≤ a ∧ a < synBase t.toNat + (b + 1) * 0x8000
    ∃ u, exec (.retirementWrite ini addr v) s = .next u ∧ u.f (TILE_RETIRE_SYN t.toNat) = v.toNat % 256 ∧
      Map.get 0 u.kparts.retired (TILE_RETIRE_SYN t.toNat).addr = BitVec.ofNat 32 (v.toNat % 256) ∧
      (∀ w, w < 32768 → bitAt v.toNat (w / 4096) = true → u.synW t.toNat w = 0) ∧
      (∀ b a, b < 8 → bitAt v.toNat b = true → bank b a → u.ld8 a = 0) ∧
      (∀ a, (∀ b, b < 8 → bitAt v.toNat b = true → ¬ bank b a) → u.ld8 a = s.ld8 a) ∧
      u.tile t.toNat = { s.tile t.toNat with bad := (u.tile t.toNat).bad } ∧ (∀ x, x ≠ t.toNat → u.tile x = s.tile x) ∧
      u = { s with regs := u.regs, mem := u.mem, tiles := u.tiles, kparts := u.kparts }) ∧
  (∀ (t : BitVec 10) (s : State), s.tileUp t.toNat = true →
    (s.b (PWR_RET_STOP (clusterOf t.toNat)) = true → s.en .tile t.toNat = false → (s.tile t.toNat).asleep = false →
      ∃ u, exec (.stoppedBankHoldExpire t) s = .next u ∧ (u.tile t.toNat).asleep = true ∧ u.regs = s.regs ∧
        (∀ w, w < 32768 → bitAt (s.f (PWR_RET_SYN (clusterOf t.toNat))) (w / 4096) = true → u.synW t.toNat w = s.synW t.toNat w) ∧
        ∀ x, x ≠ t.toNat → u.tile x = s.tile x) ∧
    (s.b (PWR_RET_STOP (clusterOf t.toNat)) = false → (s.tile t.toNat).asleep = true →
      exec (.bankReturn t) s = .next (s.modTile t.toNat fun x => { x with asleep := false }))) ∧
  (∀ (ini : BitVec 5) (v : BitVec 32) (s : State),
    (s.fwAllows ini.toNat (CLU_SEC_WIN 0).addr true = true → s.domOn (dCLU 0) = true → s.b (CLU_SEC_WIN_LOCK 0) = false →
      ∃ u, exec (.cluSecWinWrite ini v) s = .next u ∧ u.f (CLU_SEC_WIN_LOCK 0) = v.toNat / 2 ^ 31 ∧
        u.f (CLU_SEC_WIN_SIZE 0) = bits v.toNat 11 8 ∧ u.f (CLU_SEC_WIN_EN 0) = bits v.toNat 7 7 ∧ u.f (CLU_SEC_WIN_BASE 0) = bits v.toNat 5 0 ∧
        s.onlyRegs u (atReg (CLU_SEC_WIN 0))) ∧
    (s.fwAllows ini.toNat (CLU_SEC_WIN 0).addr true = true → s.b (CLU_SEC_WIN_LOCK 0) = true → exec (.cluSecWinWrite ini v) s = .next s) ∧
    (ini.toNat ≠ iSEC → (∀ w, w < 32 → s.fwHolds w (CLU_SEC_WIN 0).addr = false) → s.fwAllows ini.toNat (CLU_SEC_WIN 0).addr true = false))

/-- CSI_LONG_PACKET, CSI_SHORT_PACKET (R408, R409), TOKEN_BUCKET_REFILL (R404), AER_WORD (R411), T1S_FRAME (R414, R415), PORT_INJECT,
SPILL_RING_WRITE, SPILL_RING_READ (R405), PORT_DISABLE (R406), MAP_TABLE_WRITE, MAP_DATA_ACCESS (R403, R407), ACTUATOR_TRIGGER_CLOSE, SEND,
ACTUATOR_FRAME_SENT (R416). The bytes of a ring entry are free values (log entry 2). -/
def Obligations.SensorInput : Prop :=
  let fifo := fun (u : State) (p : Nat) => (u.sport p).fifo
  (∀ (k : BitVec 2) (vc : BitVec 4) (dt : BitVec 6) (hdr : BitVec 2) (bad : Bool) (data : List (BitVec 8)) (s : State),
    s.domOn dCSI = true → s.en .csi k.toNat = true →
    (2 ≤ hdr.toNat → ∃ u, exec (.csiLongPacket k vc dt hdr bad data) s = .next u ∧ s.counted u (CSI_HDR_ERR k.toNat) ∧
      bitAt (u.f (INT_STATUS .csi k.toNat)) 0 = true ∧
      s.onlyRegs u fun a => a = (CSI_HDR_ERR k.toNat).addr ∨ a = (INT_STATUS .csi k.toNat).addr) ∧
    (hdr.toNat = 0 → (vc.toNat ≠ s.f (CSI_CFG_VC k.toNat) ∨ dt.toNat ≠ s.f (CSI_CFG_DT k.toNat) ∨ dt.toNat < 0x30 ∨ 0x37 < dt.toNat) →
      ∃ u, exec (.csiLongPacket k vc dt hdr bad data) s = .next u ∧ s.counted u (CSI_OTHER k.toNat) ∧
        s.onlyRegs u (atReg (CSI_OTHER k.toNat))) ∧
    (∀ w x y e, hdr.toNat = 0 → vc.toNat = s.f (CSI_CFG_VC k.toNat) → dt.toNat = s.f (CSI_CFG_DT k.toNat) → 0x30 ≤ dt.toNat →
      dt.toNat ≤ 0x37 → (∀ j, j < 4 → s.crcTakes j (0x10 + k.toNat) = false) → data.length = s.csiEW k.toNat →
      w = ofLE (data.map BitVec.toNat) → s.csiEvent k.toNat w = true → s.draining .csi k.toNat = false → s.f (CSI_FMT1_TMODE k.toNat) = 0 →
      s.b (CSI_FMT0_PEN k.toNat) = false → s.b (CSI_CFG_SPILL_EN k.toNat) = false → s.f (CSI_BUCKET_RATE k.toNat) = 0 →
      (fifo s k.toNat).length < 256 → x = field w (s.f (CSI_FMT0_XPOS k.toNat)) (pixWidth (s.f (CSI_FMT0_XW k.toNat))) →
      y = field w (s.f (CSI_FMT0_YPOS k.toNat)) (pixWidth (s.f (CSI_FMT0_YW k.toNat))) → s.mapPixel k.toNat x y 0 = some e →
      (s.mapAt k.toNat x y).any (fun j => (s.sport k.toNat).mapBad.contains j) = false →
      ∃ u, exec (.csiLongPacket k vc dt hdr false data) s = .next u ∧ fifo u k.toNat = fifo s k.toNat ++ [e] ∧
        s.counted u (CSI_PKTS k.toNat) ∧ s.counted u (CSI_EVENTS k.toNat) ∧ u.flights = s.flights ∧
        ∀ q, q ≠ k.toNat → u.sport q = s.sport q)) ∧
  (∀ (k : BitVec 2) (dt : BitVec 6) (num : BitVec 16) (s : State), s.domOn dCSI = true → s.en .csi k.toNat = true →
    (dt = 0 ∨ dt = 1 → ∃ u, exec (.csiShortPacket k (BitVec.ofNat 4 (s.f (CSI_CFG_VC k.toNat))) dt num) s = .next u ∧
      u.sports = (s.modSport k.toNat fun x => { x with frame := num.toNat }).sports ∧ (dt = 1 → u.regs = s.regs))) ∧
  (∀ (p : BitVec 4) (s : State),
    (p.toNat < 10 → s.portUp p.toNat = true → exec (.tokenBucketRefill p) s = .next (s.modSport p.toNat fun x =>
      { x with tokens := min (x.depth * 1600) (min x.tokens (x.depth * 1600) + x.rate) })) ∧
    (p = 10 → s.domOn dHOST = true → s.actv .host 0 = true → exec (.tokenBucketRefill p) s = .next { s with host := { s.host with
      itokens := min (s.host.idepth * 1600) (min s.host.itokens (s.host.idepth * 1600) + s.host.irate) } })) ∧
  (∀ (k : BitVec 1) (w : BitVec 16) (s : State) (x y : Nat) (e : PEvent), s.domOn dCSI = true → s.actv .aer 0 = true →
    s.b (AER_CFG_PEN k.toNat) = true → s.f (AER_BUCKET_RATE k.toNat) = 0 → (fifo s (4 + k.toNat)).length < 64 →
    s.b (AER_FMT_POLEN k.toNat) = false → x = field w.toNat (s.f (AER_FMT_XPOS k.toNat)) (pixWidth (s.f (AER_FMT_XW k.toNat))) →
    y = field w.toNat (s.f (AER_FMT_YPOS k.toNat)) (pixWidth (s.f (AER_FMT_YW k.toNat))) → s.mapPixel (4 + k.toNat) x y 0 = some e →
    (s.mapAt (4 + k.toNat) x y).any (fun j => (s.sport (4 + k.toNat)).mapBad.contains j) = false →
    ∃ u, exec (.aerWord k w) s = .next u ∧ fifo u (4 + k.toNat) = fifo s (4 + k.toNat) ++ [e] ∧ s.counted u (AER_EVENTS k.toNat) ∧
      u = { s with regs := u.regs, sports := u.sports }) ∧
  (∀ (p : BitVec 2) (sym fcs : Bool) (dst src : BitVec 48) (et : BitVec 16) (l : List (BitVec 8)) (s : State), s.domOn dT1S = true →
    (∃ u, exec (.t1sFrame p true fcs dst src et l) s = .next u ∧ s.counted u (T1S_SYM_ERR p.toNat) ∧
      s.onlyRegs u (atReg (T1S_SYM_ERR p.toNat))) ∧
    (∃ u, exec (.t1sFrame p false true dst src et l) s = .next u ∧ s.counted u (T1S_FCS_ERR p.toNat) ∧
      s.onlyRegs u (atReg (T1S_FCS_ERR p.toNat))) ∧
    (s.en .t1s p.toNat = false → ∃ u, exec (.t1sFrame p false false dst src et l) s = .next u ∧ s.counted u (T1S_RX_FRAMES p.toNat) ∧
      s.onlyRegs u (atReg (T1S_RX_FRAMES p.toNat))) ∧
    (s.en .t1s p.toNat = true → dst.toNat = s.f (T1S_MAC_HI_MAC p.toNat) * 2 ^ 32 + s.f (T1S_MAC_LO p.toNat) →
      (s.t1sSource p.toNat src.toNat = none → ∃ u, exec (.t1sFrame p false false dst src et l) s = .next u ∧
        s.counted u (T1S_STRANGER p.toNat) ∧ bitAt (u.f (INT_STATUS .t1s p.toNat)) 0 = true ∧ u.sports = s.sports) ∧
      (∀ j r v c, s.t1sSource p.toNat src.toNat = some j → s.f (T1S_SRC_TYPE_ETYPE p.toNat j) = 0 →
        s.f (T1S_RXCFG_FRAME_RATE p.toNat) = 0 → s.draining .t1s p.toNat = false →
        ((List.range 16).filter fun r => s.b (T1S_RULE_SEL_EN p.toNat r) && s.f (T1S_RULE_SEL_SRC p.toNat r) == j) = [r] →
        s.ruleField p.toNat r (l.map BitVec.toNat) = some v → s.b (T1S_RULE_SEL_NEG p.toNat r) = false →
        s.b (T1S_RULE_SEL_TBL p.toNat r) = false → c = rescale v (s.f (T1S_RULE_SCALE_M p.toNat r)) (s.f (T1S_RULE_SCALE_S p.toNat r)) 0 15 →
        c.y ≠ 0 → s.f (T1S_BUCKET_RATE p.toNat) = 0 → (fifo s (6 + p.toNat)).length < 64 →
        ∃ u, exec (.t1sFrame p false false dst src et l) s = .next u ∧ s.counted u (T1S_RX_FRAMES p.toNat) ∧
          s.counted u (T1S_CONV p.toNat) ∧ fifo u (6 + p.toNat) = fifo s (6 + p.toNat) ++
            [({ tile := s.f (T1S_RULE_TGT_TILE p.toNat r), axon := s.f (T1S_RULE_TGT_AXON p.toNat r), payload := c.y.toNat,
                prio := s.f (T1S_RULE_TGT_PRIO p.toNat r) } : PEvent)]))) ∧
  (∀ (p : BitVec 4) (s : State) (q : Nat) (e : PEvent) (r : List PEvent), p.toNat < 10 → fifo s p.toNat ≠ [] →
    s.domOn (portDom p.toNat) = true → s.portNext p.toNat = some q → fifo s q = e :: r → s.portHeld q = false → s.domOn (portDom q) = true →
    ((∀ t, e.rec? = some t → s.staleEvent q t = false) → s.roomFor (portRouter q) .gw (s.eventPacket e) = true →
      ∃ u, exec (.portInject p) s = .next u ∧ fifo u q = r ∧ s.queuedAt u (portRouter q) .gw (s.eventPacket e) ∧
        s.counted u (portInjCount q) ∧ ∀ x, x ≠ q → u.sport x = s.sport x) ∧
    (∀ t, e.rec? = some t → s.staleEvent q t = true →
      ∃ u, exec (.portInject p) s = .next u ∧ fifo u q = r ∧ u.flights = s.flights ∧ s.counted u (CSI_SPILL_STALE q))) ∧
  (∀ (s : State) (chip : Nat) (e : PEvent) (r : List (Nat × PEvent)), s.host.fifo = (chip, e) :: r → s.hostOn = true →
    s.b MTR_INJ_HOLD_HOST = false →
    let pk := Packet.spikeUC (BitVec.ofNat 10 e.tile) (BitVec.ofNat 10 chip) (BitVec.ofNat 16 e.axon) (BitVec.ofNat 4 e.payload)
      (BitVec.ofNat 2 e.prio) (BitVec.ofNat 8 s.stampStep.toNat)
    s.roomFor 0x000 .gw pk = true →
    ∃ u, exec (.portInject 10) s = .next u ∧ u.host = { s.host with fifo := r } ∧ s.queuedAt u 0x000 .gw pk ∧ s.counted u HOST_IN_INJ) ∧
  (∀ (k : BitVec 2) (s : State), s.domOn dCSI = true → 4 ≤ (s.sport k.toNat).buf.length →
    s.stores iENGINE (s.ringEntry k.toNat (s.sport k.toNat).head) 32 (portRouter k.toNat) = true →
    let x := s.sport k.toNat
    ∃ u, exec (.spillRingWrite k) s = .next u ∧ u.flights = s.flights ∧ (∀ q, q ≠ k.toNat → u.sport q = s.sport q) ∧
      u.sport k.toNat = { x with ring := x.ring ++ x.buf.take 4, buf := x.buf.drop 4, head := (x.head + 4) % 0x800000 }) ∧
  (∀ (k : BitVec 2) (s : State), s.domOn dCSI = true → s.spillNow k.toNat = false →
    let x := s.sport k.toNat
    let moved := fun (l : List (PEvent × Nat)) => x.fifo ++ l.map fun e => { e.1 with rec? := some e.2 }
    (x.ring ≠ [] → x.fifo.length + 4 ≤ 256 → s.reads iENGINE (s.ringEntry k.toNat x.tail) 32 (portRouter k.toNat) = true →
      ∃ u, exec (.spillRingRead k) s = .next u ∧ (∀ q, q ≠ k.toNat → u.sport q = s.sport q) ∧
        u.sport k.toNat = { x with ring := x.ring.drop 4, tail := (x.tail + 4) % 0x800000, fifo := moved (x.ring.take 4) }) ∧
    (x.ring = [] → x.buf.length < 4 → x.fifo.length + x.buf.length ≤ 256 →
      ∃ u, exec (.spillRingRead k) s = .next u ∧ (∀ q, q ≠ k.toNat → u.sport q = s.sport q) ∧
        u.sport k.toNat = { x with buf := [], fifo := moved x.buf })) ∧
  (∀ (p : BitVec 4) (s : State) (b : Block) (j : Nat), p.toNat < 10 → portPage p.toNat = (b, j) → s.domOn (portDom p.toNat) = true →
    s.actv b j = true →
    ∃ u, exec (.portDisable p) s = .next u ∧ u.en b j = !(s.portsIdle b j) ∧ u.draining b j = !(s.portsIdle b j) ∧
      s.onlyRegs u fun a => a = (PAGE_EN b j).addr ∨ a = (PAGE_DRAINING b j).addr) ∧
  (∀ (ini : BitVec 5) (p : BitVec 4) (addr : BitVec 26) (v : BitVec 32) (s : State), p.toNat < 6 → addr.toNat = (mapData p.toNat).addr →
    s.pageServes (portPage p.toNat).1 (portPage p.toNat).2 = true → s.pageShut ini.toNat (mapData p.toNat).addr = none →
    let v' := v &&& 0xBFFFFFFF
    let next := if s.b (mapAuto p.toNat) then (s.f (mapIdx p.toNat) + 1) % ((mapIdx p.toNat).max + 1) else s.f (mapIdx p.toNat)
    (s.fwAllows ini.toNat (mapData p.toNat).addr true = true → s.tableOpen p.toNat = true →
      ∃ u, exec (.mapDataAccess ini p (some v)) s = .next u ∧ exec (.mapTableWrite ini addr v) s = .next u ∧
        Map.get 0 (u.sport p.toNat).map (s.f (mapIdx p.toNat)) = v' ∧
        (∀ j, j ≠ s.f (mapIdx p.toNat) → Map.get 0 (u.sport p.toNat).map j = Map.get 0 (s.sport p.toNat).map j) ∧
        u.f (mapIdx p.toNat) = next ∧ u = { s with regs := u.regs, sports := u.sports } ∧
        ∀ a, a ≠ (mapIdx p.toNat).addr → u.rd a = s.rd a) ∧
    (s.fwAllows ini.toNat (mapData p.toNat).addr true = true → s.tableOpen p.toNat = false → s.mapEntry p.toNat ≠ v' →
      ∃ u, exec (.mapDataAccess ini p (some v)) s = .next u ∧ exec (.mapTableWrite ini addr v) s = .next u ∧ u.sports = s.sports ∧
        s.counted u (CFG_REJECT_COUNT (portPage p.toNat).1 (portPage p.toNat).2)) ∧
    (s.fwAllows ini.toNat (mapData p.toNat).addr false = true →
      ∃ u, exec (.mapDataAccess ini p none) s = .next u ∧ u.f (mapIdx p.toNat) = next ∧ s.onlyRegs u (atReg (mapIdx p.toNat)))) ∧
  (∀ (p j : BitVec 2) (step : BitVec 8) (short exh : Bool) (s : State), s.portUp (6 + p.toNat) = true →
    let n := (stepAfter (s.sport (6 + p.toNat)).step step.toNat).toNat + 2 ^ 64 - 1
    let a := (s.sport (6 + p.toNat)).act j.toNat
    let frame := fun (st b2 : Nat) => let l := [st % 256, st / 256 % 256, b2, a.frames % 256] ++ (s.actBuf p.toNat j.toNat).take (s.actLen p.toNat j.toNat)
      some ({ dst := s.f (T1S_ACT_DST_HI_MAC p.toNat j.toNat) * 2 ^ 32 + s.f (T1S_ACT_DST_LO p.toNat j.toNat),
              etype := s.f (T1S_ACT_DST_HI_ETYPE p.toNat j.toNat), body := l ++ List.replicate (46 - l.length) 0 } : ActFrame)
    (s.b (T1S_ACT_CTRL_EN p.toNat j.toNat) = true → s.f (T1S_ACT_CTRL_PERIOD p.toNat j.toNat) = 1 →
      ∃ u, exec (.actuatorTriggerClose p step short exh) s = .next u ∧
        (u.sport (6 + p.toNat)).act j.toNat =
          ⟨0, (a.frames + 1) % 256, frame (n % 65536) ((if short then 1 else 0) + (if exh then 2 else 0))⟩) ∧
    (s.b (T1S_ACT_CTRL_EN p.toNat j.toNat) = true →
      ∃ u, exec (.send p j) s = .next u ∧ (u.sport (6 + p.toNat)).act j.toNat =
          ⟨a.closes, (a.frames + 1) % 256, frame (s.ctl.step.toNat % 65536) 0⟩ ∧
        u = { s with regs := u.regs, sports := u.sports } ∧ ∀ q, q ≠ (T1S_TX_REPLACED p.toNat).addr → u.rd q = s.rd q) ∧
    (∀ f, s.b (T1S_CFG_TX_EN p.toNat) = true → a.waiting = some f →
      (∃ u, exec (.actuatorFrameSent p j 0) s = .next u ∧ (u.sport (6 + p.toNat)).act j.toNat = { a with waiting := none } ∧
        (u.sport (6 + p.toNat)).sent = (s.sport (6 + p.toNat)).sent ++ [f] ∧ s.counted u (T1S_TX_FRAMES p.toNat)) ∧
      (∃ u, exec (.actuatorFrameSent p j 3) s = .next u ∧ (u.sport (6 + p.toNat)).act j.toNat = { a with waiting := none } ∧
        s.counted u (T1S_EXC_COLL p.toNat)))) ∧
  (∀ (p j : BitVec 2) (s : State), s.domOn dT1S = true →
    (∃ u, exec (.actuatorFrameSent p j 1) s = .next u ∧ s.counted u (T1S_COLL p.toNat) ∧ s.onlyRegs u (atReg (T1S_COLL p.toNat))) ∧
    (∃ u, exec (.actuatorFrameSent p j 2) s = .next u ∧ s.counted u (T1S_COLL p.toNat) ∧ s.counted u (T1S_LATE_COLL p.toNat) ∧
      bitAt (u.f (INT_STATUS .t1s p.toNat)) 1 = true ∧ u.sports = s.sports))

/-- GPIO_EDGE, GPIO_SET, GPIO_CLR (R417), TB_OFFSET (R529), TB_LO_READ (R530), TIMER_ARM, TIMER_STOP, TIMER_MATCH (R531), TMR_ARM_MULTI
(R532), TIMER_CAPTURE, TMR_CAP_READ (R533). -/
def Obligations.PinsAndTimers : Prop :=
  (∀ (s : State), s.domOn dT1S = true →
    let follows := fun (u : State) => ∀ m, m < 16 → bitAt (u.f GPIO_IN_IN) m = u.pinLevel m
    let edges := fun (u : State) => ∀ m, m < 16 → bitAt (s.f GPIO_IN_IN) m ≠ u.pinLevel m →
      bitAt (s.rd GPIO_EDGE.addr).toNat (2 * m + (if u.pinLevel m then 0 else 1)) = true → bitAt (u.f (INT_STATUS .gpio 0)) m = true
    (∀ (n : BitVec 4) (level : Bool),
      ∃ u, exec (.gpioEdge n level) s = .next u ∧ follows u ∧ edges u ∧ (s.pinDrive n.toNat = none → u.pinLevel n.toNat = level) ∧
        (∀ m, m < 16 → m ≠ n.toNat → u.pinLevel m = s.pinLevel m) ∧ u.f GPIO_OUT_OUT = s.f GPIO_OUT_OUT ∧ u.sports = s.sports) ∧
    ∀ (v : BitVec 16),
      (∃ u, exec (.gpioSet v) s = .next u ∧ u.f GPIO_OUT_OUT = s.f GPIO_OUT_OUT ||| v.toNat ∧ follows u ∧ edges u ∧ u.pins = s.pins ∧
        (s.en .gpio 0 = false → (∀ m, m < 16 → bitAt (s.f GPIO_IN_IN) m = s.pinLevel m) → s.onlyRegs u (atReg GPIO_OUT_OUT))) ∧
      ∃ u, exec (.gpioClr v) s = .next u ∧ (∀ n, n < 16 → bitAt (u.f GPIO_OUT_OUT) n = (bitAt (s.f GPIO_OUT_OUT) n && !bitAt v.toNat n)) ∧
        follows u ∧ edges u ∧ u.pins = s.pins ∧
        (s.en .gpio 0 = false → (∀ m, m < 16 → bitAt (s.f GPIO_IN_IN) m = s.pinLevel m) → s.onlyRegs u (atReg GPIO_OUT_OUT))) ∧
  (∀ (v : BitVec 32) (s : State),
    (0 ≤ v.toInt → exec (.tbOffset v) s = .next { s with tb := BitVec.ofNat 64 (s.tb.toNat + v.toNat) }) ∧
    (v.toInt < 0 → ∃ u, exec (.tbOffset v) s = .next u ∧ u.f TB_SLEW = wrap 32 (sgn 32 (s.f TB_SLEW) + v.toInt) ∧
      s.onlyRegs u (atReg TB_SLEW))) ∧
  (∀ (ini : BitVec 5) (s : State), ∃ u, exec (.tbLoRead ini) s = .next u ∧
    (Map.get (0 : BitVec 32) u.snaps ini.toNat).toNat = s.tb.toNat / 2 ^ 32 ∧ u = { s with snaps := u.snaps } ∧
    ∀ j, j ≠ ini.toNat → Map.get (0 : BitVec 32) u.snaps j = Map.get (0 : BitVec 32) s.snaps j) ∧
  (∀ (k : BitVec 4) (s : State),
    let armed := fun (u : State) => u.f (TMRCH_STAT_ARMED k.toNat) = 1 ∧ u.f (TMRCH_STAT_MISSED k.toNat) = 0 ∧
      Map.get ({} : TmrLatch) u.tmr k.toNat = { mode := s.f (TMRCH_CTRL_MODE k.toNat), src := s.f (TMRCH_CTRL_SRC k.toNat) } ∧
      u.f (TMRCH_COMPARE k.toNat) = (if s.f (TMRCH_CTRL_MODE k.toNat) ≠ 2 ∧ s.b (TMRCH_CTRL_ABS k.toNat) = false then
        (s.tb.toNat + s.f (TMRCH_PHASE k.toNat)) % 2 ^ 32 else s.f (TMRCH_COMPARE k.toNat))
    (s.stepOwns k.toNat = false → s.f (TMRCH_CTRL_MODE k.toNat) ≠ 3 →
      (∃ u, exec (.timerArm k) s = .next u ∧ armed u ∧ u = { s with regs := u.regs, tmr := u.tmr } ∧
        ∀ a, a ≠ (TMRCH_STAT k.toNat).addr → a ≠ (TMRCH_COMPARE k.toNat).addr → u.rd a = s.rd a) ∧
      ∀ m : BitVec 16, bitAt m.toNat k.toNat = true → ∃ u, exec (.tmrArmMulti m) s = .next u ∧ armed u ∧ u.tb = s.tb ∧ u.mem = s.mem) ∧
    (∀ m : BitVec 16, bitAt m.toNat k.toNat = false → ∃ u, exec (.tmrArmMulti m) s = .next u ∧
      u.rd (TMRCH_STAT k.toNat).addr = s.rd (TMRCH_STAT k.toNat).addr) ∧
    (s.stepOwns k.toNat = true ∨ s.f (TMRCH_CTRL_MODE k.toNat) = 3 → exec (.timerArm k) s = .next s) ∧
    (s.stepOwns k.toNat = false → ∃ u, exec (.timerStop k) s = .next u ∧ u.f (TMRCH_STAT_ARMED k.toNat) = 0 ∧
      s.onlyRegs u (atReg (TMRCH_STAT k.toNat))) ∧
    (s.stepOwns k.toNat = true → exec (.timerStop k) s = .next s) ∧
    (∃ u, exec (.tmrCapRead k) s = .next u ∧ u.f (TMRCH_STAT_NEW k.toNat) = 0 ∧ u.f (TMRCH_CAP k.toNat) = s.f (TMRCH_CAP k.toNat) ∧
      s.onlyRegs u (atReg (TMRCH_STAT k.toNat))) ∧
    (s.stepOwns k.toNat = false → s.tmrCompares k.toNat = true → (k.toNat ≠ 1 ∨ s.f HOST_LEASE_STATE ≠ 1) →
      ∃ u, exec (.timerMatch k) s = .next u ∧ bitAt (u.f (INT_STATUS .tmr 0)) k.toNat = true ∧
        u.f (TMRCH_SEQ k.toNat) = (s.f (TMRCH_SEQ k.toNat) + 1) % 2 ^ 32 ∧ u.tb = BitVec.ofNat 64 (s.tb.toNat + s.tmrAhead k.toNat) ∧
        u.mem = s.mem ∧ u.host = s.host ∧
        ((Map.get ({} : TmrLatch) s.tmr k.toNat).mode = 1 → u.f (TMRCH_STAT_ARMED k.toNat) = 0) ∧
        ((Map.get ({} : TmrLatch) s.tmr k.toNat).mode = 0 → u.f (TMRCH_STAT_ARMED k.toNat) = 1 ∧
          (0 < s.tmrAhead k.toNat → u.f (TMRCH_STAT_MISSED k.toNat) = s.f (TMRCH_STAT_MISSED k.toNat) ∧
            u.f (TMRCH_COMPARE k.toNat) = (s.f (TMRCH_COMPARE k.toNat) + max 1 (s.f (TMRCH_INTERVAL k.toNat))) % 2 ^ 32))) ∧
    (∀ (src : BitVec 8) (rd : BitVec 16), captureSrc src.toNat = true →
      ∃ u, exec (.timerCapture src rd) s = .next u ∧ u = { s with regs := u.regs, refStart := u.refStart } ∧
        (if s.b (TMRCH_STAT_ARMED k.toNat) = true ∧ (Map.get ({} : TmrLatch) s.tmr k.toNat) = { mode := 2, src := src.toNat } then
          u.f (TMRCH_CAP k.toNat) = (s.tb.toNat + 2 ^ 64 - 2) % 2 ^ 32 ∧ u.f (TMRCH_STAT_NEW k.toNat) = 1 ∧
          u.f (TMRCH_SEQ k.toNat) = (s.f (TMRCH_SEQ k.toNat) + 1) % 2 ^ 32 ∧ bitAt (u.f (INT_STATUS .tmr 0)) k.toNat = true ∧
          (s.b (TMRCH_STAT_NEW k.toNat) = true → bitAt rd.toNat k.toNat = false → u.f (TMRCH_STAT_OVR k.toNat) = 1)
        else u.f (TMRCH_CAP k.toNat) = s.f (TMRCH_CAP k.toNat) ∧ u.f (TMRCH_SEQ k.toNat) = s.f (TMRCH_SEQ k.toNat))))

/-- RUN_START (R200), RUN_STOP, STEP (R201), FORCE_CLOSE, STEP_DEADLINE (R215), TMR_STEP_START_HI_WRITE (R229), TMR_STEP_LO_READ (R228),
STEP_PERIOD_END, SEAL (R211), START, WORKER_CLOSE (R198). -/
def Obligations.StepRun : Prop :=
  let quiet := fun (s : State) => s.domOn dTIE = false ∨ ∀ p, p < 4 → (s.tieAt p).ending = false ∧ (s.tieAt p).due = []
  let still := fun (s u : State) => u.mem = s.mem ∧ u.tiles = s.tiles ∧ u.clusters = s.clusters ∧
    (quiet s → u.flights = s.flights ∧ u.host = s.host)
  let closed := fun (s u : State) (cause : Nat) => u.ctl.step = s.ctl.step + 1 ∧ u.f TMR_STEP_STAT_CAUSE = cause ∧
    u.f TMR_STEP_STAT_SEALED = 0 ∧ u.f TMR_STEP_STAT_RUNNING = bn (!(s.ctl.holdNext || (s.ctl.stepped && !s.b TMR_STEP_CTRL_RUN))) ∧ u.ctl.confirmed = false ∧ still s u
  (∀ s : State, s.relay = false →
    (s.b TMR_STEP_CTRL_RUN = false →
      (s.running = true → s.ctl.held = false →
        ∃ u, exec .runStart s = .next u ∧ u.f TMR_STEP_CTRL_RUN = 1 ∧ u.ctl = { s.ctl with holdNext := false } ∧
          u.f (TMRCH_COMPARE 0) = (s.ctl.openT + s.ctl.period) % 2 ^ 32 ∧ u.f (TMRCH_STAT_ARMED 0) = bn (!s.ctl.periodOver) ∧
          u = { s with regs := u.regs, ctl := u.ctl, tmr := u.tmr } ∧
          ∀ a, a ≠ TMR_STEP_CTRL_RUN.addr → a ≠ (TMRCH_COMPARE 0).addr → a ≠ (TMRCH_STAT_ARMED 0).addr → u.rd a = s.rd a) ∧
      (s.running = false → s.b TMR_STEP_STAT_LOAD_ARMED = true →
        ∃ u, exec .runStart s = .next u ∧ u.f TMR_STEP_CTRL_RUN = 1 ∧ u.running = true ∧ u.f TMR_STEP_STAT_SEALED = 0 ∧
          u.f TMR_STEP_STAT_LOAD_ARMED = 0 ∧
          u.ctl.step.toNat = s.f TMR_STEP_START_HI * 2 ^ 32 + s.f TMR_STEP_START_LO ∧ u.ctl.openT = s.tb.toNat ∧
          u.ctl.account = s.stepPeriod * s.f TMR_STEP_BOUND_LAG_MAX / 16 ∧
          u.f TMR_STEP_ACCOUNT_A = min (s.stepPeriod * s.f TMR_STEP_BOUND_LAG_MAX / 16) (2 ^ 28 - 1) ∧ still s u) ∧
      (s.running = false → s.b TMR_STEP_STAT_LOAD_ARMED = false →
        ∃ u, exec .runStart s = .next u ∧ u.f TMR_STEP_CTRL_RUN = 1 ∧ u.running = true ∧ u.ctl.step = s.ctl.step ∧
          u.ctl.forced = s.ctl.forced ∧ u.f (TMRCH_COMPARE 0) = (s.tb.toNat + s.stepPeriod) % 2 ^ 32 ∧ u.f (TMRCH_STAT_ARMED 0) = 1 ∧
          still s u)) ∧
    (s.b TMR_STEP_CTRL_RUN = true → exec .runStart s = .next s ∧
      ∃ u, exec .runStop s = .next u ∧ u.f TMR_STEP_CTRL_RUN = 0 ∧ u.ctl.step = s.ctl.step ∧
        (s.running = true → u.ctl.holdNext = true) ∧ u = { s with regs := u.regs, ctl := u.ctl } ∧
        ∀ a, a ≠ TMR_STEP_CTRL_RUN.addr → u.rd a = s.rd a) ∧
    (s.b TMR_STEP_CTRL_RUN = false → s.ctl.held = true → s.ctl.forced = false →
      ∃ u, exec .step s = .next u ∧ u.f TMR_STEP_STAT_SEALED = 1 ∧ u.running = true ∧ u.ctl.held = false ∧ u.ctl.stepped = true ∧
        u.ctl.step = s.ctl.step ∧ still s u) ∧
    (s.running = true → s.b TMR_STEP_STAT_SEALED = true →
      ∃ u, exec .forceClose s = .next u ∧ closed s u 3 ∧ s.counted u TMR_STEP_SHORTS ∧ bitAt (u.f (INT_STATUS .tmr 0)) 16 = true) ∧
    (s.running = true → s.b TMR_STEP_STAT_SEALED = false →
      exec .forceClose s = .next { s with ctl := { s.ctl with forced := true } }) ∧
    (s.running = true → s.ctl.periodOver = false → s.ctl.stepped = false → s.b TMR_STEP_STAT_SEALED = false →
      ∃ u, exec .stepPeriodEnd s = .next u ∧ still s u ∧
        (s.b TMR_STEP_CTRL_RUN = true → u.f (TMRCH_STAT_ARMED 0) = 0 ∧ bitAt (u.f (INT_STATUS .tmr 0)) 0 = true) ∧
        (s.ctl.confirmed = false → u.ctl = { s.ctl with periodOver := true, gap := false } ∧ u.f TMR_STEP_STAT_SEALED = 0) ∧
        (s.ctl.confirmed = true → s.ctl.forced = false → s.ctl.overdue = false →
          u.ctl = { s.ctl with periodOver := true, gap := false } ∧ u.f TMR_STEP_STAT_SEALED = 1)) ∧
    (s.running = true → s.ctl.overdue = false → s.ctl.periodOver = true →
      (s.b TMR_STEP_STAT_SEALED = true →
        ∃ u, exec .stepDeadline s = .next u ∧ closed s u (if s.ctl.stepped = false ∧ s.ctl.allowance = s.ctl.account ∧
          s.ctl.account < s.ctl.stretch then 2 else 1) ∧ s.counted u TMR_STEP_SHORTS) ∧
      (s.b TMR_STEP_STAT_SEALED = false →
        ∃ u, exec .stepDeadline s = .next u ∧ u.ctl = { s.ctl with overdue := true } ∧ u.regs = s.regs ∧ still s u))) ∧
  (∀ (v : BitVec 32) (s : State), ∃ u, exec (.tmrStepStartHiWrite v) s = .next u ∧ u.f TMR_STEP_START_HI = v.toNat ∧
    u.f TMR_STEP_STAT_LOAD_ARMED = 1 ∧ u.running = s.running ∧
    s.onlyRegs u fun a => a = TMR_STEP_START_HI.addr ∨ a = TMR_STEP_STAT.addr) ∧
  (∀ s : State, ∃ u, exec .tmrStepLoRead s = .next u ∧ u.f TMR_STEP_HI_SNAP = s.ctl.step.toNat / 2 ^ 32 ∧
    s.onlyRegs u (atReg TMR_STEP_HI_SNAP)) ∧
  (∀ s : State, s.relay = true →
    (∀ v : BitVec 64, ∃ u, exec (.start v) s = .next u ∧ u.ctl = { s.ctl with step := v } ∧ u.running = true ∧
      u.f TMR_STEP_STAT_SEALED = 0 ∧ still s u) ∧
    (∀ t : BitVec 8, ∃ u, exec (.seal t) s = .next u ∧ u.f TMR_STEP_STAT_SEALED = 1 ∧ u.ctl = s.ctl ∧
      (s.domOn dCSI = true → ∀ k, k < 4 → u.f (CSI_TS_SEAL k) = s.f (CSI_TS_LAST k)) ∧ still s u) ∧
    (∀ (t : BitVec 8) (short exh : Bool), ∃ u, exec (.workerClose t short exh) s = .next u ∧ u.ctl.step.toNat % 256 = (t.toNat + 1) % 256 ∧
      u.f TMR_STEP_STAT_SEALED = 0 ∧ u.b TMR_STEP_STAT_EXH = exh ∧ still s u ∧
      (t.toNat = s.ctl.step.toNat % 256 → u.ctl.step = s.ctl.step + 1 ∧ u.f TMR_STEP_SYNC = s.f TMR_STEP_SYNC) ∧
      (t.toNat ≠ s.ctl.step.toNat % 256 → s.counted u TMR_STEP_SYNC ∧ bitAt (u.f (INT_STATUS .tmr 0)) 18 = true)) ∧
    exec .runStart s = .next s ∧ exec .forceClose s = .next s)

/-- POLL (R208, R261), COUNT (R262), ROUND_COMPLETE (R208, R210, R212), ROUND_TIMEOUT, ROUND_GAP_EXPIRE (R209), REPORTER_CLOSE (R205). -/
def Obligations.RoundsCount : Prop :=
  (∀ (t : BitVec 8) (n : BitVec 4) (s : State), s.roundDue = true → s.routerOn sysRouter = true →
    ∃ u, exec (.poll (BitVec.ofNat 10 sysRouter) t n) s = .next u ∧ u.ctl.active = true ∧ u.ctl.activeSealed = s.b TMR_STEP_STAT_SEALED ∧
      (u.countBuf sysRouter).valid = true ∧ (u.countBuf sysRouter).done = false ∧
      (u.countBuf sysRouter).step = BitVec.ofNat 8 s.ctl.step.toNat ∧ (u.countBuf sysRouter).round = s.ctl.round ∧ u.mem = s.mem ∧
      ∀ r, r ≠ sysRouter → u.countBuf r = s.countBuf r) ∧
  (∀ (r : BitVec 10) (t : BitVec 8) (n : BitVec 4) (s : State) (q : Nat), r.toNat ≠ sysRouter → treeParent r.toNat = some q →
    s.routerOn r.toNat = true → (s.countBuf q).valid = true → (s.countBuf r.toNat).valid = false →
    ∃ u, exec (.poll r t n) s = .next u ∧ (u.countBuf r.toNat).valid = true ∧ (u.countBuf r.toNat).done = false ∧
      (u.countBuf r.toNat).step = (s.countBuf q).step ∧ (u.countBuf r.toNat).round = (s.countBuf q).round ∧ u.ctl = s.ctl ∧
      ∀ x, x ≠ r.toNat → u.countBuf x = s.countBuf x) ∧
  (∀ (r : BitVec 10) (s : State) (q : Nat) (b p : CountBuf), treeParent r.toNat = some q → s.countBuf r.toNat = b → b.valid = true →
    b.done = false → b.left = 0 → s.countBuf q = p → p.valid = true → p.step = b.step → p.round = b.round → 0 < p.left →
    ∃ u, exec (.count r) s = .next u ∧ (u.countBuf r.toNat).done = true ∧ (u.countBuf q).left = p.left - 1 ∧
      (u.countBuf q).inj = p.inj + b.inj ∧ (u.countBuf q).con = p.con + b.con ∧ (u.countBuf q).missing = (p.missing || b.missing) ∧
      (u.countBuf q).notEmitted = sat21 (p.notEmitted + b.notEmitted) ∧ u = { s with counts := u.counts } ∧
      ∀ x, x ≠ r.toNat → x ≠ q → u.countBuf x = s.countBuf x) ∧
  (∀ (s : State) (b : CountBuf), s.relay = false → s.ctl.active = true → s.countBuf sysRouter = b → b.valid = true → b.done = false →
    b.left = 0 → b.step = BitVec.ofNat 8 s.ctl.step.toNat → b.round = s.ctl.round →
    (s.ctl.activeSealed = false → s.ctl.periodOver = false → (b.notEmitted = 0 ∨ b.missing = true) →
      ∃ u, exec .roundComplete s = .next u ∧ u.ctl.confirmed = true ∧ u.ctl.round = s.ctl.round + 1 ∧ u.ctl.active = false ∧
        s.counted u TMR_STEP_ROUNDS ∧ u.ctl.step = s.ctl.step) ∧
    (s.ctl.activeSealed = true → s.ctl.last = none →
      ∃ u, exec .roundComplete s = .next u ∧ s.counted u TMR_STEP_ROUNDS ∧ u.ctl.step = s.ctl.step ∧
        u.ctl.last = some { inj := b.inj, con := b.con, clean := b.notEmitted == 0 && b.notPassive == 0 && !b.missing }) ∧
    (∀ a, s.ctl.activeSealed = true → s.ctl.last = some a → a.clean = true → a.con = b.inj → b.notEmitted = 0 → b.notPassive = 0 →
      b.missing = false →
      ∃ u, exec .roundComplete s = .next u ∧ u.ctl.step = s.ctl.step + 1 ∧ u.f TMR_STEP_STAT_CAUSE = 0 ∧
        u.f TMR_STEP_SHORTS = s.f TMR_STEP_SHORTS ∧ s.counted u TMR_STEP_ROUNDS)) ∧
  (∀ s : State, s.relay = false → s.ctl.active = true →
    ∃ u, exec .roundTimeout s = .next u ∧ u.ctl.round = s.ctl.round + 1 ∧ s.counted u TMR_STEP_RTIMEOUT ∧ u.ctl.step = s.ctl.step ∧
      u.mem = s.mem) ∧
  (∀ s : State, s.ctl.gap = true →
    ∃ u, exec .roundGapExpire s = .next u ∧ u.ctl.gap = false ∧ u.ctl.round = s.ctl.round ∧ u.ctl.step = s.ctl.step ∧ u.mem = s.mem ∧
      u.ctl.active = (s.ctl.active || (({ s with ctl := { s.ctl with gap := false } } : State).roundDue && s.routerOn sysRouter))) ∧
  (∀ (t : BitVec 8) (s : State),
    (∀ r : BitVec 10, s.routerOn r.toNat = true → ∃ u, exec (.reporterClose (.sink r) t) s = .next u ∧ u.f (rtInj r.toNat t.toNat) = 0 ∧
      u.f (rtCon r.toNat t.toNat) = 0 ∧ u.sinkOpen r.toNat = stepAfter (s.sinkOpen r.toNat) t.toNat ∧
      u.f (rtInj r.toNat (t.toNat + 1)) = s.f (rtInj r.toNat (t.toNat + 1)) ∧ u.tiles = s.tiles) ∧
    (s.domOn dMTW = true → ∃ u, exec (.reporterClose .collar t) s = .next u ∧ u.f (collarInj t.toNat) = 0 ∧ u.f (collarCon t.toNat) = 0 ∧
      u.collarStep = stepAfter s.collarStep t.toNat ∧ u.sinkStep = s.sinkStep) ∧
    (s.domOn dHOST = true → ∃ u, exec (.reporterClose .host t) s = .next u ∧ u.f (hostInj t.toNat) = 0 ∧ u.f (hostCon t.toNat) = 0 ∧
      u.host = { s.host with step := stepAfter s.host.step t.toNat }) ∧
    (∀ k : BitVec 4, k.toNat < 10 → s.domOn (portDom k.toNat) = true → ∃ u, exec (.reporterClose (.port k) t) s = .next u ∧
      (u.sport k.toNat).inj t.toNat = 0 ∧ (u.sport k.toNat).inj (t.toNat + 1) = (s.sport k.toNat).inj (t.toNat + 1) ∧
      (u.sport k.toNat).step = stepAfter (s.sport k.toNat).step t.toNat ∧ u = { s with sports := u.sports }) ∧
    (∀ p : BitVec 2, s.domOn dTIE = true → ∃ u, exec (.reporterClose (.tie p) t) s = .next u ∧ u.f (tieCon p.toNat t.toNat) = 0 ∧
      (u.tieAt p.toNat).step = stepAfter (s.tieAt p.toNat).step t.toNat ∧ s.onlyRegs { u with ties := s.ties } (atReg (tieCon p.toNat t.toNat))))

/-- HOST_FRAME_RECEIVE (R430), GPTP_FRAME (R427), CLAIM, HOST_BIND_RELEASE (R431), REG_REQ (R435, R436), RESPONDER_BUCKET_REFILL (R432),
MBOX (R442), STREAM_IN (R441), OUTPUT_SPIKE (R437), STREAM_EARLY_FRAMES, STREAM_FINAL_FRAMES (R439, R440), HEARTBEAT_RECOGNISE (R445),
LEASE_LAPSE, GRACE_EXPIRE (R446), PN_LOW (R428), HOST_LINK_CHANGE, HOST_STREAM_DISABLE (R447). SEQ of a CLAIM_RSP is a free value. -/
def Obligations.HostPortServes : Prop :=
  let clear := fun (s : State) => s.hostOn = true ∧ s.txAssoc = none ∧ s.b HOST_SEC_REQUIRE = false
  let sends := fun (s u : State) (kind : Nat) (body : List Nat) => ∃ f : TxFrame, u.host.tx = s.host.tx ++ [f] ∧ f.kind = kind ∧ f.body = body
  let frame := fun (s : State) (k step flags : Nat) (l : List OutEntry) =>
    bytesBE 8 step ++ [k, flags + (if s.host.loss.contains k then 8 else 0)] ++ bytesBE 2 l.length ++ bytesBE 2 0 ++ [0, 0] ++
      bytesBE 4 s.tb.toNat ++ l.flatMap fun e => bytesBE 4 e.word
  (∀ (f : HFrame) (s : State), s.hostOn = true → s.b SYS_CHIP_ID_ASSIGNED = true →
    (f.fcs = false → ∃ u, exec (.hostFrameReceive f) s = .next u ∧ s.counted u HOST_FCS_ERR ∧ s.onlyRegs u (atReg HOST_FCS_ERR)) ∧
    (f.fcs = true → isGptp f = false → f.sec = none → s.b HOST_SEC_REQUIRE = false → f.dst.toNat = s.macAddr → s.tagOk f = true →
      headOk f = true → s.f HOST_RLIMIT_RATE = 0 →
      let body := f.body.take f.len.toNat
      let t := s.inc HOST_RX_FRAMES
      (f.kind = 1 → s.bound = false → ∃ u, exec (.hostFrameReceive f) s = .next u ∧
        exec (.claim f.src f.chip (BitVec.ofNat 64 (ofBE (slice (body.map BitVec.toNat) 0 8)))) t = .next u) ∧
      (s.bound = true → s.peer = f.src.toNat →
        (f.kind = 3 → rqBad (body.map BitVec.toNat) = false →
          ∃ u, exec (.hostFrameReceive f) s = .next u ∧ exec (.regReq f.seq f.chip body) t = .next u) ∧
        (f.kind = 5 → ∃ u, exec (.hostFrameReceive f) s = .next u ∧ exec (.mbox f.seq f.chip body) t = .next u) ∧
        (f.kind = 7 → ∃ u, exec (.hostFrameReceive f) s = .next u ∧ exec (.streamIn f.seq f.chip body) t = .next u)))) ∧
  (∀ s : State, s.hostOn = true → ∃ u, exec (.gptpFrame true) s = .next u ∧ exec (.timerCapture 0x30 0) s = .next u ∧
    exec (.gptpFrame false) s = .next s) ∧
  (∀ (src : BitVec 48) (chip : BitVec 16) (token : BitVec 64) (s : State), s.hostOn = true → s.b SYS_CHIP_ID_ASSIGNED = true →
    (clear s → s.bound = false → ∃ u, exec (.claim src chip token) s = .next u ∧ u.bound = true ∧ u.peer = src.toNat ∧
      s.counted u HOST_TX_FRAMES ∧ ∃ f : TxFrame, u.host = { s.host with hello := false, tx := s.host.tx ++ [f] } ∧ f.dst = src.toNat ∧
        f.kind = 2 ∧ f.seq = (Config.freeValue s.free).toNat % 65536 ∧ f.body.take 8 = bytesBE 8 token.toNat) ∧
    (s.bound = true → s.peer ≠ src.toNat → ∃ u, exec (.claim src chip token) s = .next u ∧ s.counted u HOST_STRANGER ∧
      bitAt (u.f (INT_STATUS .host 0)) 1 = true ∧ u.peer = s.peer ∧ u.bound = true ∧ u.host = s.host)) ∧
  (∀ (seq chip : BitVec 16) (body : List (BitVec 8)) (s : State), s.hostOn = true → s.bound = true → s.b SYS_CHIP_ID_ASSIGNED = true →
    let b := body.map BitVec.toNat
    (8 ≤ s.host.jobs.length → ∃ u, exec (.regReq seq chip body) s = .next u ∧ s.counted u HOST_RATE_DROP ∧
      s.onlyRegs u (atReg HOST_RATE_DROP)) ∧
    (clear s → s.host.jobs = [] → s.host.last = none → rqBad b = true →
      ∃ u, exec (.regReq seq chip body) s = .next u ∧ sends s u 4 (rspBody b rsBAD 0 []) ∧ u.host.jobs = []) ∧
    (clear s → s.host.jobs = [] → s.host.last = none → rqBad b = false → chipLocal chip.toNat = true → rqWrite b = false → rqWords b = 1 →
      (s.mortarInit || s.ringTarget (rqAt b 0)) = true → pageOf (rqAt b 0) = none → s.reads iHOST (s.mine (rqAt b 0)) 4 sysRouter = true →
      ∃ u, exec (.regReq seq chip body) s = .next u ∧ sends s u 4 (rspBody b 0 1 [ofLE (s.readBytes (s.mine (rqAt b 0)) 4)]) ∧
        u.host.jobs = [])) ∧
  (∀ s : State, s.hostOn = true → s.host.jobs = [] → exec .responderBucketRefill s = .next
    { s with host := { s.host with tokens := min (s.f HOST_RLIMIT_RATE) (s.host.tokens + s.f HOST_RLIMIT_RATE) } }) ∧
  (∀ (seq chip : BitVec 16) (msg : BitVec 8) (l : List (BitVec 8)) (s : State), s.hostOn = true → s.bound = true → s.host.asm = none →
    s.b SYS_CHIP_ID_ASSIGNED = true →
    let b := l.map BitVec.toNat
    exec (.mbox seq chip (msg :: 0 :: 0 :: 0 :: l)) s = .next { s with host := { s.host with asm := some (chip.toNat, msg.toNat, 1, b) } } ∧
    (16 ≤ l.length → l.length ≤ 3072 → chipLocal chip.toNat = true → ofBE (slice b 2 2) ≠ 2 →
      (s.host.msgs.length < 4 → s.schedRuns = false → exec (.mbox seq chip (msg :: 0 :: 1 :: 0 :: l)) s =
        .next { s with host := { s.host with msgs := s.host.msgs ++ [{ via := none, bytes := b, fseq := seq.toNat }] } }) ∧
      (4 ≤ s.host.msgs.length → ∃ u, exec (.mbox seq chip (msg :: 0 :: 1 :: 0 :: l)) s = .next u ∧ s.counted u HOST_MBOX_DROP ∧
        s.counted u FWC_MBOX_DROPPED ∧ u.host = s.host))) ∧
  (∀ (seq chip : BitVec 16) (b0 b1 b2 b3 : BitVec 8) (s : State), s.hostOn = true → s.bound = true → s.actv .host 0 = true →
    (∀ k, k < 4 → s.crcTakes k 1 = false) → s.f HOST_IBUCKET_RATE = 0 → s.host.fifo.length < 256 →
    let w := ofBE [b0.toNat, b1.toNat, b2.toNat, b3.toNat]
    exec (.streamIn seq chip [b0, b1, b2, b3]) s = .next { s with host := { s.host with irate := 0, idepth := s.f HOST_IBUCKET_DEPTH, fifo := s.host.fifo ++
      [(chipField chip.toNat, { tile := bits w 31 22, axon := bits w 21 6, payload := bits w 5 2, prio := bits w 1 0 })] } }) ∧
  (∀ (axon : BitVec 16) (pay : BitVec 4) (step : BitVec 8) (s : State), s.hostOn = true →
    let con := hostCon step.toNat
    let o := axon.toNat - s.f (RT_GWIN_BASE 0)
    (stepClass step.toNat s.host.step = .late →
      ∃ u, exec (.outputSpike axon pay step) s = .next u ∧ s.counted u HOST_OUT_LATE ∧ s.onlyRegs u (atReg HOST_OUT_LATE)) ∧
    ((stepClass step.toNat s.host.step).counted = true → s.b FOOT_STAT_ACTIVE = false → s.actv .host 0 = true →
      (s.streamOf o = none → ∃ u, exec (.outputSpike axon pay step) s = .next u ∧ s.counted u HOST_OUT_UNMAPPED ∧
        u.f con = (s.f con + 1) % (con.max + 1) ∧ s.onlyRegs u fun a => a = HOST_OUT_UNMAPPED.addr ∨ a = con.addr) ∧
      (∀ k, s.streamOf o = some k → s.strDense k = false → s.host.list.length < 16384 →
        ∃ u, exec (.outputSpike axon pay step) s = .next u ∧ s.counted u HOST_OUT_SPIKES ∧ u.f con = (s.f con + 1) % (con.max + 1) ∧
          u.host = { s.host with list := s.host.list ++ [⟨k, nearStep s.host.step step.toNat,
            (o - s.strFirst k) * 65536 + wrap 16 (s.strValue k pay.toNat)⟩] }))) ∧
  (∀ (k : Nat) (s : State), clear s → s.actv .host 0 = true → s.bound = true → s.f HOST_LEASE_STATE < 2 →
    (∀ j, j < 4 → s.crcTakes j 2 = false) → ((List.range 8).filter fun j => s.strOn j) = [k] → s.strDense k = false →
    let mine := fun (step : Nat) => s.host.list.filter fun e => e.stream == k && e.step == step
    (s.ctl.confirmed = true → 0 < (mine s.ctl.step.toNat).length → (mine s.ctl.step.toNat).length ≤ 367 →
      ∃ u, exec .streamEarlyFrames s = .next u ∧ sends s u 6 (frame s k s.ctl.step.toNat 0 (mine s.ctl.step.toNat)) ∧
        u.host.list = s.host.list.filter (fun e => !(e.stream == k && e.step == s.ctl.step.toNat)) ∧ s.counted u HOST_TX_FRAMES) ∧
    (∀ (step : BitVec 8) (short exh : Bool), (mine (closedStep s.host.step step.toNat)).length ≤ 367 →
      let t := closedStep s.host.step step.toNat
      ∃ u, exec (.streamFinalFrames step short exh) s = .next u ∧
        sends s u 6 (frame s k t (1 + (if short then 2 else 0) + (if exh then 4 else 0)) (mine t)) ∧
        u.host.list = s.host.list.filter (fun e => e.step != t) ∧ s.counted u HOST_TX_FRAMES)) ∧
  (∀ s : State, s.hostOn = true →
    (s.bound = true → (s.f HOST_LEASE_STATE = 1 ∨ (s.f HOST_LEASE_STATE = 2 ∧ s.host.ring = [])) →
      ∃ u, exec .heartbeatRecognise s = .next u ∧ u.f HOST_LEASE_STATE = 1 ∧ u.f (TMRCH_COMPARE 1) = (s.tb.toNat + s.host.interval) % 2 ^ 32 ∧
        u.f (TMRCH_STAT_ARMED 1) = 1 ∧ u.host = s.host) ∧
    (s.f HOST_LEASE_STATE = 1 → s.tmrCompares 1 = true →
      ∃ u, exec .leaseLapse s = .next u ∧ u.f HOST_LEASE_STATE = 2 ∧ u.host = { s.host with graceAt := u.tb.toNat + s.host.grace } ∧
        bitAt (u.f (INT_STATUS .tmr 0)) 1 = true) ∧
    (s.f HOST_LEASE_STATE = 2 →
      ∃ u, exec .graceExpire s = .next u ∧ u.f HOST_LEASE_STATE = 3 ∧ u.bound = false ∧ u.host = { s.host with ring := [] } ∧
        (s.b HOST_LEASE_AUTONOMOUS = false → s.schedRuns = true → s.step10Done = true → s.b FOOT_STAT_ACTIVE = false →
          u.b FOOT_STAT_ACTIVE = true ∧ u.f FOOT_STAT_TRIGGER = 1)) ∧
    (∃ u, exec .hostBindRelease s = .next u ∧ u.bound = false ∧ u.peer = 0 ∧
      s.onlyRegs u fun a => a = HOST_BIND.addr ∨ a = HOST_PEER_LO.addr) ∧
    (∀ up, s.b HOST_PHY_LINK ≠ up → ∃ u, exec (.hostLinkChange up) s = .next u ∧ u.b HOST_PHY_LINK = up ∧
      bitAt (u.f (INT_STATUS .host 0)) 0 = true ∧ (up = false → s.counted u HOST_LINK_DOWNS) ∧ u.host = s.host) ∧
    (s.actv .host 0 = true → ∃ u, exec .hostStreamDisable s = .next u ∧ u.en .host 0 = !s.hostIdle ∧ u.draining .host 0 = !s.hostIdle ∧
      s.onlyRegs u fun a => a = (PAGE_EN .host 0).addr ∨ a = (PAGE_DRAINING .host 0).addr)) ∧
  (∀ s : State, (s.txAssoc = none → exec .pnLow s = .next s) ∧
    ∀ a, s.txAssoc = some a → s.pnEnd ≤ a.pn + 2 ^ 30 → ∃ u, exec .pnLow s = .next u ∧ bitAt (u.f (INT_STATUS .host 0)) 6 = true ∧
      s.onlyRegs u (atReg (INT_STATUS .host 0)))

/-- HELLO, HEARTBEAT, LEASE_CFG, RELEASE (R443–R445), NET_LOAD (R491), NET_START, NET_STOP (R495), CHECKPOINT (R496), TABLE_UPDATE (R470),
FOOT_ENTER (R500), FOOT_EXIT (R508), ATTEST (R549), FUSE_PAIRING_KEY, INSTALL_RX_ASSOCIATION, INSTALL_TX_ASSOCIATION, RETIRE_ASSOCIATION,
SET_REQUIRE (R550), LINK_MAP (R443). The build number of HELLO, the body of LEASE_CFG and of LINK_MAP are free values. -/
def Obligations.MessagesServed : Prop :=
  let alone := fun (s : State) (m : Msg) (t : Nat) => s.schedRuns = true ∧ s.host.msgs = [m] ∧ m.type = t ∧ (t = 1 ∨ m.major = 2) ∧
    ofBE (slice m.bytes 6 2) = m.bytes.length ∧ s.host.long = none
  let key := fun (s : State) (m : Msg) (op : Nat) => alone s m 0x31 ∧ m.body.length = 76 ∧ m.op = op
  let took := fun (s : State) => { s with host := { s.host with msgs := [] } }
  (∀ (m : Msg) (st : Nat) (body : List Nat) (s : State), s.isManager = true → s.bound = true → s.hostOn = true → s.txAssoc = none →
    s.b HOST_SEC_REQUIRE = false → body.length ≤ 1472 →
    ∃ f : TxFrame, (s.answer m st body).host.tx = s.host.tx ++ [f] ∧ f.kind = 5 ∧ f.seq = m.fseq ∧ f.dst = s.peer ∧
      f.body = [s.host.mnum, 0, 1, 0] ++ [2, 3] ++ bytesBE 2 (0x8000 + m.type) ++ bytesBE 2 m.seq ++ bytesBE 2 (16 + body.length) ++
        bytesBE 2 st ++ bytesBE 6 0 ++ body) ∧
  (∀ (m : Msg) (s : State), alone s m 1 → m.body.length = 0 →
    ∃ u, exec .hello s = .next u ∧ u.host.hello = true ∧
      (s.f HOST_LEASE_STATE ≠ 2 → u.host.tx = (({ took s with free := s.free + 1 } : State).answer m 0
        ([1, 0, 0, 0, 2, 0, 3, 0] ++ bytesBE 4 (Config.freeValue s.free).toNat)).host.tx) ∧
      (s.isManager = true → s.hostOn = true → u.f HOST_LEASE_STATE = 1 ∧
        u.f (TMRCH_COMPARE 1) = (s.tb.toNat + s.host.interval) % 2 ^ 32 ∧ u.f (TMRCH_STAT_ARMED 1) = 1)) ∧
  (∀ (m : Msg) (s : State), alone s m 2 → m.body.length = 0 → exec .heartbeat s = .next ((took s).answer m 0 []).pumped) ∧
  (∀ (m : Msg) (s : State), alone s m 3 →
    exec .leaseCfg s = .next (match Config.leaseCfg m.body with
      | none => ((took s).answer m 2 []).pumped
      | some (i, g, a) =>
        if i < 1000000 ∨ 1000000000 < i ∨ 1000000000 < g then ((took s).answer m 7 []).pumped
        else
          let t := { took s with host := { (took s).host with interval := i, grace := g } }
          ((if s.hostOn then t.setF HOST_LEASE_AUTONOMOUS (bn a) else t).answer m 0 []).pumped)) ∧
  (∀ (m : Msg) (s : State), alone s m 4 → m.body.length = 0 → s.isManager = true → s.hostOn = true →
    ∃ u, exec .release s = .next u ∧ u.f HOST_LEASE_STATE = 0 ∧ u.f (TMRCH_STAT_ARMED 1) = 0 ∧ u.bound = false ∧
      u.host.tx = ((took s).answer m 0 []).host.tx) ∧
  (∀ (m : Msg) (s : State), alone s m 0x10 → m.body.length = 16 →
    let opts := ofBE (slice m.body 8 4)
    let w := ((if bitAt opts 2 then took s else (took s).stopAll).setLong (some { msg := m }))
    ((s.secRuns = false ∨ s.b FOOT_STAT_ACTIVE = true) → exec .netLoad s = .next ((took s).answer m 3 []).pumped) ∧
    (s.secRuns = true → s.b FOOT_STAT_ACTIVE = false →
      ((bitAt opts 2 = true ∨ w.allStopped = true) →
        let r := (w.setLong none).netLoad (ofBE (slice m.body 0 8) % 2 ^ 48) opts (ofBE (slice m.body 12 4))
        ∃ u, exec .netLoad s = .next u ∧ u = (r.1.answer m (loadStatus r.2.code) (loadBody r.2)).pumped) ∧
      (bitAt opts 2 = false → w.allStopped = false → exec .netLoad s = .next w.pumped))) ∧
  (∀ (m : Msg) (s : State), alone s m 0x11 → m.body.length = 0 →
    (s.net.ready = true → s.net.ran = false → s.running = false → s.relay = false → s.b TMR_STEP_CTRL_RUN = false →
      ∃ u, exec .netStart s = .next u ∧ u.running = true ∧ u.ctl.step = BitVec.ofNat 64 s.net.firstStep ∧ u.f TMR_STEP_CTRL_RUN = 1) ∧
    (s.net.ready = false → s.ctl.held = false → exec .netStart s = .next ((took s).answer m 3 []).pumped)) ∧
  (∀ (m : Msg) (s : State), alone s m 0x12 → m.body.length = 0 →
    (s.relay = true → exec .netStop s = .next ((took s).answer m 3 []).pumped) ∧
    (s.relay = false → s.running = false →
      exec .netStop s = .next ((took s).runStop.answer m 0 (bytesBE 8 s.ctl.step.toNat)).pumped) ∧
    (s.relay = false → s.running = true → s.b TMR_STEP_CTRL_RUN = true →
      ∃ u, exec .netStop s = .next u ∧ u.f TMR_STEP_CTRL_RUN = 0 ∧ u.host.msgs = [m] ∧ u.ctl.holdNext = true)) ∧
  (∀ (m : Msg) (s : State), alone s m 0x13 → 17 ≤ m.body.length → s.relay = false → s.running = true → s.b TMR_STEP_CTRL_RUN = true →
    ∃ u, exec .checkpoint s = .next u ∧ u.f TMR_STEP_CTRL_RUN = 0 ∧ u.host.long = some { msg := m } ∧ u.host.msgs = []) ∧
  (∀ (l : LongOp) (s : State), s.schedRuns = true → s.host.msgs = [] → s.host.long = some l →
    (l.msg.type = 0x13 → l.stage = 2 → (∀ t ∈ l.tiles, s.en .tile t = false) → exec .checkpoint s = .next (s.ckptEnd l).pumped) ∧
    (l.msg.type = 0x14 → l.stage = 5 → exec .tableUpdate s = .next ((s.runStart.setLong none).answer l.msg
      (if l.ndone < tuCount l.msg.body then 7 else 0) (bytesBE 2 l.ndone ++ [l.code, 0] ++ bytesBE 8 s.ctl.step.toNat)).pumped)) ∧
  (∀ (m : Msg) (s : State), alone s m 0x14 → m.body.length = 8 + 12 * tuCount m.body → 1 ≤ tuCount m.body → tuCount m.body ≤ 254 →
    (s.isManager = false → exec .tableUpdate s = .next ((took s).answer m 3 []).pumped) ∧
    (s.isManager = true → s.relay = false → s.running = true → s.b TMR_STEP_CTRL_RUN = true →
      ∃ u, exec .tableUpdate s = .next u ∧ u.f TMR_STEP_CTRL_RUN = 0 ∧ u.host.long = some { msg := m } ∧ u.host.msgs = [])) ∧
  (∀ (m : Msg) (s : State), alone s m 0x20 → m.body.length = 0 →
    (s.step10Done = true → s.b FOOT_STAT_ACTIVE = false → ∃ u, exec .footEnter s = .next u ∧ u.b FOOT_STAT_ACTIVE = true ∧
      u.f FOOT_STAT_TRIGGER = 6 ∧ u.foot.entering = true ∧ u.host.tx = ((took s).answer m 0 []).host.tx) ∧
    (s.step10Done = false → exec .footEnter s = .next ((took s).answer m 3 []).pumped)) ∧
  (∀ (m : Msg) (pin band : Bool) (v f : BitVec 48) (d l : BitVec 16) (s : State), alone s m 0x21 → 12 ≤ m.body.length →
    ((took s).footExitOk pin band = false → exec (.footExit pin band v f d l) s = .next ((took s).answer m 3 []).pumped) ∧
    ((took s).footExitOk pin band = true → (took s).bcastHeld ((took s).recMethod 9) = true →
      exec (.footExit pin band v f d l) s = .next s) ∧
    ((took s).footExitOk pin band = true → (took s).bcastHeld ((took s).recMethod 9) = false → ofBE (slice m.body 0 8) = 0 →
      let a := (List.range 30).foldl (fun s d => s.rise d) (took s).footLeave
      let b := (List.range 48).foldl (fun s n => if s.domOn (memDom n) then s.setF (MEM_CFG_PRESERVE n) 1 else s) a
      let r := b.trainMemory (b.recMethod 6 == mSTORED) v.toNat f.toNat
      let t := (r.1.broadcastFw (r.1.recMethod 9 == mALT) d.toNat l.toNat).1
      exec (.footExit pin band v f d l) s = .next (t.answer m (if r.2 = rFAILED then 7 else 0) []).pumped)) ∧
  (∀ (m : Msg) (s : State), alone s m 0x30 → m.body.length = 44 → s.secRuns = true → 50240 ≤ ofBE (slice m.body 40 4) →
    let ga := ofBE (slice m.body 32 8) % 2 ^ 48
    let report := (took s).attestReport (slice m.body 0 32)
    report.length = 50240 ∧
      (s.stores iSEC ga 50240 sysRouter = true →
        ∃ u, exec .attest s = .next u ∧ u.host.tx = ((took s).answer m 0 (bytesBE 4 50240)).host.tx ∧ u.host.msgs = [] ∧
          (s.writes iSEC ga 50240 sysRouter = true → u.readBytes ga 50240 = report))) ∧
  (∀ (m : Msg) (s : State), key s m 1 →
    (s.secRuns = true → s.fuse.lc = 2 → s.fuse.pair = none →
      exec .fusePairingKey s = .next ((({ took s with fuse := { s.fuse with
        pair := some (BitVec.ofNat 256 (ofBE (slice m.body 36 32))) } } : State).setF SEC_LC_PAIRED 1).answer m 0 []).pumped) ∧
    ((s.secRuns = false ∨ s.fuse.lc ≠ 2 ∨ s.fuse.pair ≠ none) → exec .fusePairingKey s = .next ((took s).answer m 3 []).pumped)) ∧
  (∀ (m : Msg) (s : State), s.keysOk = true → keyAn m < 4 →
    (key s m 2 → exec .installRxAssociation s = .next (match Config.keyUnwrap (s.fuse.pair.getD 0) (slice m.body 36 40) with
      | none => ((took s).answer m 5 []).pumped
      | some k => match withAssoc s.host.rx (keyAssoc m k) with
        | none => ((took s).answer m 3 []).pumped
        | some l => (({ took s with host := { (took s).host with rx := l } } : State).answer m 0 []).pumped)) ∧
    (key s m 3 → bitAt (m.body.getD 1 0) 7 = false →
      exec .installTxAssociation s = .next (match Config.keyUnwrap (s.fuse.pair.getD 0) (slice m.body 36 40) with
        | none => ((took s).answer m 5 []).pumped
        | some k => match withAssoc s.host.txa (keyAssoc m k) with
          | none => ((took s).answer m 3 []).pumped
          | some l => (({ took s with host := { (took s).host with txa := l } } : State).answer m 0 []).pumped)) ∧
    (key s m 3 → bitAt (m.body.getD 1 0) 7 = true →
      exec .installTxAssociation s = .next (match Config.keyUnwrap (s.fuse.pair.getD 0) (slice m.body 36 40) with
        | none => ((took s).answer m 5 []).pumped
        | some k => match withAssoc s.host.txa (keyAssoc m k) with
          | none => ((took s).answer m 3 []).pumped
          | some l => ((({ took s with host := { (took s).host with txa := l, txOn := true } } : State).setF HOST_SEC_TX_AN
              (keyAn m)).answer m 0 []).pumped)) ∧
    (key s m 4 →
      let keep := fun (a : Assoc) => !(a.an == keyAn m && a.sci == ofBE (slice m.body 4 8))
      ∃ u, exec .retireAssociation s = .next u ∧ u.host.rx = s.host.rx.filter keep ∧
        (∀ a ∈ u.host.txa, a.an = keyAn m → a.sci ≠ ofBE (slice m.body 4 8)) ∧
        u.host.txOn = (s.host.txOn && (s.host.txa.filter keep).any fun a => a.an == s.f HOST_SEC_TX_AN)) ∧
    (key s m 5 → s.hostOn = true → exec .setRequire s = .next (((took s).setF HOST_SEC_REQUIRE 1).answer m 0 []).pumped)) ∧
  (∀ (m : Msg) (s : State), alone s m 0x40 → m.body.length = 0 →
    exec .linkMap s = .next ((took s).answer m 0 ((Config.linkMapBytes s.linkmap).take 3056)).pumped)

/-- CORE_CRASH, WATCHDOG_EXPIRE, FATAL_TRAP, PANIC, KICK (R457–R459), CORE_RELEASE (R473), FWC_FW_LOCK (R456), HOD_OPEN, HOD_SEND, HOD_RECV
(R463), HOD_BLOCKED_RECORD_EXPIRE (R467), HPCMD_OPEN, HPCMD_SEND, HPCMD_RECV, HOD_SEND_RETRY, HOD_SEND_TIMEOUT, HOD_PORT_COMPLETE (R466),
REGISTER (R461), HOD_CLOSE, CLOSE_OWNER (R468), CLU_HOD_WSET_SEL_READ (R465). -/
def Obligations.CoresAndHods : Prop :=
  (∀ (k : BitVec 5) (s : State), k.toNat < 19 → s.coreState k.toNat = cRUN →
    let crashed := fun (u : State) (cause : Nat) => u.f (FWC_CORE_STAT_CAUSE k.toNat) = cause ∧ s.counted u (FWC_CORE_STAT_CRASHES k.toNat) ∧
      bitAt (u.f (INT_STATUS .fwc 0)) 0 = true ∧ u.coreState k.toNat = (if k.toNat = 0 then cHELD else cRESTARTING) ∧
      (k.toNat = 0 → bitAt (u.f (INT_STATUS .fwc 0)) 1 = true) ∧ (k.toNat = 1 → u.f PWR_LEVEL_CLAMP = 1) ∧ u.clusters = s.clusters
    (s.b (FWC_WDOG_EN k.toNat) = true → ∃ u, exec (.watchdogExpire k) s = .next u ∧ crashed u 1) ∧
    (∃ u, exec (.fatalTrap k) s = .next u ∧ crashed u 2) ∧ (∃ u, exec (.panic k) s = .next u ∧ crashed u 3) ∧
    (∀ cause : BitVec 3, 1 ≤ cause.toNat → cause.toNat ≤ 3 → k.toNat ≠ 0 →
      (s.crashRepeats k.toNat = false → ∃ u, exec (.coreCrash k cause) s = .next u ∧ u.coreState k.toNat = cRUN ∧
        u.f (FWC_CORE_STAT_CAUSE k.toNat) = cause.toNat ∧ s.counted u (FWC_CORE_STAT_CRASHES k.toNat) ∧
        (u.core k.toNat).crash1 = some s.tb.toNat ∧ (u.core k.toNat).crash2 = (s.core k.toNat).crash1 ∧ (u.core k.toNat).busy = false) ∧
      (s.crashRepeats k.toNat = true → k.toNat ≠ 2 → ∃ u, exec (.coreCrash k cause) s = .next u ∧ u.coreState k.toNat = cHELD ∧
        bitAt (u.f (INT_STATUS .fwc 0)) 1 = true) ∧
      (s.crashRepeats k.toNat = true → k.toNat = 2 → s.step10Done = true → s.b FOOT_STAT_ACTIVE = false →
        ∃ u, exec (.coreCrash k cause) s = .next u ∧ u.b FOOT_STAT_ACTIVE = true ∧ u.f FOOT_STAT_TRIGGER = 2))) ∧
  (∀ (k : BitVec 5) (s : State), k.toNat < 19 →
    exec (.kick k) s = .next (s.modCore k.toNat fun c => { c with kick := s.tb.toNat }) ∧
    (s.coreState k.toNat = cLOAD → ∃ u, exec (.coreRelease k) s = .next u ∧ u.coreState k.toNat = cRUN ∧
      u = { s with regs := u.regs, cores := u.cores } ∧ ∀ a, a ≠ (FWC_CORE_STAT_STATE k.toNat).addr → u.rd a = s.rd a) ∧
    (s.coreState k.toNat ≠ cLOAD → exec (.coreRelease k) s = .next s)) ∧
  (∀ (ini : BitVec 5) (s : State),
    (s.fwAllows ini.toNat FWC_FW_LOCK.addr true = true → ∃ u, exec (.fwcFwLock ini) s = .next u ∧ u.f FWC_FW_LOCK_LOCK = 1 ∧
      s.onlyRegs u (atReg FWC_FW_LOCK_LOCK)) ∧
    (s.fwAllows ini.toNat FWC_FW_LOCK.addr true = false → ∃ u, exec (.fwcFwLock ini) s = .next u ∧ s.counted u FWC_FW_DENIED ∧
      u.f FWC_FW_LOCK_LOCK = s.f FWC_FW_LOCK_LOCK)) ∧
  (∀ (h : ReqHead) (arg : BitVec 16) (d : List (BitVec 64)) (s : State) (c r : Nat), r = h.dtile.toNat → c = clusterOf r →
    s.domOn (dCLU c) = true →
    let answers := fun (u : State) (p : Packet) => s.queuedAt u r .loc p ∧ u.mem = s.mem ∧ u.host = s.host ∧ u.tiles = s.tiles
    (∀ k x, ((s.cluster c).openSlots.find? fun p => p.2.svc == arg.toNat) = some (k, x) →
      let p := Packet.readRsp (rspOf h .ok 0) [BitVec.ofNat 64 (x.handle k)]
      s.roomFor r .loc p = true → ∃ u, exec (.hodOpen h arg) s = .next u ∧ answers u p ∧ u.clusters = s.clusters) ∧
    (((s.cluster c).openSlots.find? fun p => p.2.svc == arg.toNat) = none →
      let p := Packet.readRsp (rspOf h .ok hsNoService) [0]
      s.roomFor r .loc p = true → ∃ u, exec (.hodOpen h arg) s = .next u ∧ answers u p ∧ u.clusters = s.clusters) ∧
    (∀ k, (s.cluster c).lookup arg.toNat = (hsOk, some k) → bitAt h.tag.toNat 7 = false →
      let x := (s.cluster c).slot k
      (x.entries.length < x.depth → s.roomFor r .loc (.writeAck (rspOf h .ok hsOk)) = true →
        ∃ u, exec (.hodSend h arg d) s = .next u ∧ answers u (.writeAck (rspOf h .ok hsOk)) ∧
          u.clusters = (s.modCluster c fun y => y.setSlot k { x with entries := x.entries ++ [hodEntry d] }).clusters ∧
          s.counted u (CLU_HOD_SENDS c)) ∧
      (x.depth ≤ x.entries.length → s.roomFor r .loc (.writeAck (rspOf h .ok hsFull)) = true →
        ∃ u, exec (.hodSend h arg d) s = .next u ∧ answers u (.writeAck (rspOf h .ok hsFull)) ∧ u.clusters = s.clusters ∧
          s.counted u (CLU_HOD_FULLS c))) ∧
    (∀ k e es, (s.cluster c).lookup arg.toNat = (hsOk, some k) → ((s.cluster c).slot k).entries = e :: es →
      s.hodOwns c ((s.cluster c).slot k) (.remote h.schip.toNat h.stile.toNat h.sgw) = true →
      s.roomFor r .loc (.readRsp (rspOf h .ok hsOk) (hodFlits e)) = true →
      ∃ u, exec (.hodRecv h arg) s = .next u ∧ answers u (.readRsp (rspOf h .ok hsOk) (hodFlits e)) ∧
        u.clusters = (s.modCluster c fun y => y.setSlot k { (s.cluster c).slot k with entries := es }).clusters)) ∧
  (∀ (c : BitVec 4) (k : BitVec 7) (s : State), exec (.hodBlockedRecordExpire c k) s =
    .next (s.modCluster c.toNat fun x => { x with blocked := x.blocked.eraseIdx k.toNat })) ∧
  (∀ (k : BitVec 5) (tgt buf : BitVec 32) (arg : BitVec 16) (s : State), k.toNat < 19 → s.coreState k.toNat = cRUN →
    (s.core k.toNat).busy = false →
    (∀ c, k.toNat = c + 3 → tgt.toNat % 16 = c → s.hpChip tgt.toNat = s.chipId →
      (∃ u, exec (.hpcmdOpen k tgt arg) s = .next u ∧ (u.core k.toNat).busy = true ∧ u.clusters = s.clusters ∧
        (u.core k.toNat).rsp = some ((s.hodOpen c arg.toNat).st, [BitVec.ofNat 64 (s.hodOpen c arg.toNat).handle])) ∧
      (∀ j, (s.cluster c).lookup arg.toNat = (hsOk, some j) →
        let x := (s.cluster c).slot j
        (x.entries.length < x.depth → ∃ u, exec (.hpcmdSend k tgt buf false arg) s = .next u ∧ (u.core k.toNat).busy = true ∧
          (u.core k.toNat).rsp = some (hsOk, []) ∧ ((u.cluster c).slot j).entries.length = x.entries.length + 1 ∧
          ∀ y ∈ x.entries, y ∈ ((u.cluster c).slot j).entries) ∧
        (∀ e es, x.kind = 0 → x.entries = e :: es → ∃ u, exec (.hpcmdRecv k tgt buf arg) s = .next u ∧ (u.core k.toNat).busy = true ∧
          (u.core k.toNat).rsp = some (hsOk, hodFlits e) ∧ ((u.cluster c).slot j).entries = es))) ∧
    (k.toNat < 2 → ∃ u, exec (.hpcmdSend k tgt buf true arg) s = .next u ∧ (u.core k.toNat).busy = false ∧
      (u.core k.toNat).hpstat = BitVec.ofNat 32 hsIllegal ∧ (u.core k.toNat).irq16 = true ∧ u.clusters = s.clusters)) ∧
  (∀ (k : BitVec 5) (s : State), (s.core k.toNat).busy = true →
    let x := s.core k.toNat
    let v := x.hpcmd.toNat
    let op := bits v 30 29 - 1
    let sound := k.toNat < 3 ∨ (s.shmRetired (k.toNat - 3) (s.hpBufAddr k.toNat - shmBase (k.toNat - 3)) = false ∧
      (s.cluster (k.toNat - 3)).bad = [])
    let gw := (corePlace k.toNat).2
    let pk := s.hpPacket k.toNat op (bits v 15 0) (bitAt v 28 && op == 1)
      (if op = 1 then hodFlits (BitVec.ofNat 256 (s.ldN 32 (s.hpBufAddr k.toNat))) else [])
    (x.retry = true → sound → (k.toNat < 3 ∨ x.hptgt.toNat % 16 ≠ k.toNat - 3 ∨ s.hpChip x.hptgt.toNat ≠ s.chipId) →
      s.roomFor (corePlace k.toNat).1 (if gw then .gw else .loc) pk = true →
      ∃ u, exec (.hodSendRetry k) s = .next u ∧ s.queuedAt u (corePlace k.toNat).1 (if gw then .gw else .loc) pk ∧
        u.core k.toNat = { x with retry := false } ∧ u.mem = s.mem ∧ u.clusters = s.clusters) ∧
    (x.retry = true → bitAt v 28 = true → ∃ u, exec (.hodSendTimeout k) s = .next u ∧ (u.core k.toNat).busy = false ∧
      (u.core k.toNat).hpstat = BitVec.ofNat 32 hsTimeout ∧ (u.core k.toNat).irq16 = true ∧ u = { s with cores := u.cores }) ∧
    (∀ st d, x.rsp = some (st, d) →
      (bits v 30 29 = 1 → st = hsOk → ∃ u, exec (.hodPortComplete k) s = .next u ∧ (u.core k.toNat).busy = false ∧
        (u.core k.toNat).hpstat = BitVec.ofNat 32 ((d.headD 0).toNat % 65536 * 65536) ∧ u = { s with cores := u.cores }) ∧
      (bits v 30 29 = 2 → bitAt v 28 = true → st = hsFull → ∃ u, exec (.hodPortComplete k) s = .next u ∧ (u.core k.toNat).busy = true ∧
        (u.core k.toNat).retry = true ∧ u = { s with cores := u.cores }) ∧
      (bits v 30 29 = 3 → st = hsOk → sound → ∃ u, exec (.hodPortComplete k) s = .next u ∧ (u.core k.toNat).busy = false ∧
        u.ldN 32 (s.hpBufAddr k.toNat) = (hodEntry d).toNat ∧ u = { s with cores := u.cores, mem := u.mem } ∧
        ∀ a, a < s.hpBufAddr k.toNat ∨ s.hpBufAddr k.toNat + 32 ≤ a → u.ld8 a = s.ld8 a))) ∧
  (∀ (c : BitVec 4) (s : State), s.domOn (dCLU c.toNat) = true →
    let rsp := fun (u : State) => u.rd (CLU_HOD_REG_RSP c.toNat).addr
    (∀ (depth : BitVec 6) (svc : BitVec 16), s.f (CLU_HOD_REG_OWNER_KIND c.toNat) ≠ 3 → 4 ≤ depth.toNat → depth.toNat ≤ 32 →
      (((s.cluster c.toNat).openSlots.any fun p => p.2.svc == svc.toNat) = true → ∃ u, exec (.register c depth svc) s = .next u ∧
        rsp u = BitVec.ofNat 32 (hsDuplicate * 65536) ∧ u.clusters = s.clusters) ∧
      (∀ k, ((s.cluster c.toNat).openSlots.any fun p => p.2.svc == svc.toNat) = false → depth.toNat ≤ (s.cluster c.toNat).freeEntries →
        (s.cluster c.toNat).freeSlot = some k → ∃ u, exec (.register c depth svc) s = .next u ∧
          let x := (u.cluster c.toNat).slot k
          x.opened = true ∧ x.svc = svc.toNat ∧ x.depth = depth.toNat ∧ x.entries = [] ∧
          x.kind = s.f (CLU_HOD_REG_OWNER_KIND c.toNat) ∧ rsp u = BitVec.ofNat 32 (x.handle k) ∧
          ∀ j, j ≠ k → (u.cluster c.toNat).slot j = (s.cluster c.toNat).slot j)) ∧
    (∀ (handle : BitVec 16) (k : Nat), (s.cluster c.toNat).lookup handle.toNat = (hsOk, some k) →
      ∃ u, exec (.hodClose c handle) s = .next u ∧ ((u.cluster c.toNat).slot k).opened = false ∧ rsp u = 0 ∧
        u.f (CLU_HOD_CLOSED_DISC c.toNat) = min (s.f (CLU_HOD_CLOSED_DISC c.toNat) + ((s.cluster c.toNat).slot k).entries.length)
          (CLU_HOD_CLOSED_DISC c.toNat).max ∧ ∀ j, j ≠ k → (u.cluster c.toNat).slot j = (s.cluster c.toNat).slot j) ∧
    (s.f (CLU_HOD_REG_OWNER_KIND c.toNat) = 0 → ∃ u, exec (.closeOwner c) s = .next u ∧
      rsp u = BitVec.ofNat 32 ((s.cluster c.toNat).openSlots.filter fun p => p.2.kind == 0).length ∧
      ∀ k, ((u.cluster c.toNat).slot k).opened = true → ((u.cluster c.toNat).slot k).kind ≠ 0) ∧
    (∀ k : BitVec 2,
      (s.wsetReady c.toNat k.toNat = [] → ∃ u, exec (.cluHodWsetSelRead c k) s = .next u ∧
        u.rd (CLU_HOD_WSET_SEL c.toNat k.toNat).addr = BitVec.ofNat 32 (hsEmpty * 65536) ∧
        s.onlyRegs u (atReg (CLU_HOD_WSET_SEL c.toNat k.toNat))) ∧
      (∀ p r j, s.wsetReady c.toNat k.toNat = p :: r → s.b (CLU_HOD_WSET_CTRL_ROT c.toNat k.toNat) = false →
        (s.wsetSlots c.toNat k.toNat)[p]?.join = some j → ∃ u, exec (.cluHodWsetSelRead c k) s = .next u ∧
          u.rd (CLU_HOD_WSET_SEL c.toNat k.toNat).addr = BitVec.ofNat 32 (((s.cluster c.toNat).slot j).handle j) ∧
          ((u.cluster c.toNat).slot j).entries = ((s.cluster c.toNat).slot j).entries ∧ Map.get 7 (u.cluster c.toNat).rot k.toNat = p)))

/-- BOOT_CMD (R478), BOOT_STEP0_AON to BOOT_STEP12_START, BOOT_STEP_TIMEOUT (R479, R483, R485, R486, R491, R495), BOOT_RECORD_MIRROR
(R482), BOOT_REC_WRITE (R481), BOOT_REC_CLEAR (R484). -/
def Obligations.BootSequence : Prop :=
  let ended := fun (s u : State) (n r e : Nat) => u.f (BOOT_LOG_RESULT n) = r ∧ u.f (BOOT_LOG_ERR n) = e ∧
    u.f (BOOT_LOG_METHOD n) = s.boot.method % 16 ∧ u.f BOOT_STATUS_RESULT = r ∧ u.f BOOT_STATUS_STEP = n ∧
    u.f BOOT_STATUS_NEXT = (if r = rFAILED then n else n + 1) ∧
    (r = rFAILED ∨ s.boot.last ≤ n → u.boot.run = none ∧ u.f BOOT_STATUS_BUSY = 0) ∧
    (r ≠ rFAILED → n < s.boot.last → (n < 10 ∨ s.b FOOT_STAT_ACTIVE = false) → u.boot.run = some (n + 1) ∧ u.f BOOT_STATUS_BUSY = 1)
  (∀ (v : BitVec 32) (s : State),
    let n := bits v.toNat 3 0
    let m := bits v.toNat 11 8
    let due := n = s.f BOOT_STATUS_NEXT ∨ (s.f BOOT_STATUS_RESULT = rFAILED ∧ n = s.f BOOT_STATUS_STEP)
    (s.b BOOT_STATUS_BUSY = true → ∃ u, exec (.bootCmd v) s = .next u ∧ u.f BOOT_STATUS_ERR = eBUSY ∧ s.onlyRegs u (atReg BOOT_STATUS)) ∧
    (s.b BOOT_STATUS_BUSY = false → (13 ≤ n ∨ ¬ due) → ∃ u, exec (.bootCmd v) s = .next u ∧ u.f BOOT_STATUS_ERR = eORDER ∧
      s.onlyRegs u (atReg BOOT_STATUS)) ∧
    (s.b BOOT_STATUS_BUSY = false → n < 13 → due → m ≠ 0 → permitted n m = false → ∃ u, exec (.bootCmd v) s = .next u ∧
      u.f BOOT_STATUS_ERR = eMETHOD ∧ s.onlyRegs u (atReg BOOT_STATUS)) ∧
    (s.b BOOT_STATUS_BUSY = false → n < 13 → due → (m = 0 ∨ permitted n m = true) → (n < 11 ∨ s.b FOOT_STAT_ACTIVE = false) →
      ∃ u, exec (.bootCmd v) s = .next u ∧ u.boot.run = some n ∧ u.boot.method = (if m = 0 then s.recMethod n else m) ∧
        u.boot.last = min 12 (max n (bits v.toNat 15 12)) ∧ u.f BOOT_STATUS_BUSY = 1 ∧ u.f BOOT_STATUS_ERR = 0 ∧ u.mem = s.mem)) ∧
  (∀ s : State,
    (s.stepIs 0 = true → ∃ u, exec .bootStep0Aon s = .next u ∧ ended s u 0 rOK 0 ∧ u.b BOOT_REC_CTRL_VALID = s.recValid ∧
      (s.boot.spi = false → u.domOn dHOST = true)) ∧
    (s.stepIs 1 = true → ∃ u, exec .bootStep1Fuses s = .next u ∧ ended s u 1 rOK 0 ∧ u.domOn dREC = true ∧ u.domOn dSEC = true ∧
      u.domOn dKILN = true ∧ u.coreState 0 = cHELD ∧ u.f SEC_LC_STATE = s.fuse.lc % (SEC_LC_STATE.max + 1) ∧ u.boot.pon = false) ∧
    (s.stepIs 2 = true →
      (∃ u, exec (.bootStep2Pll true) s = .next u ∧ ended s u 2 rOK 0 ∧ u.domOn dPLL = true ∧ u.domOn dTIE = true) ∧
      (∃ u, exec (.bootStep2Pll false) s = .next u ∧ ended s u 2 rFAILED eHW)) ∧
    (s.stepIs 3 = true →
      (∃ u, exec (.bootStep3Power true true) s = .next u ∧ ended s u 3 rOK 0 ∧ u.domOn dMTW = true ∧ u.domOn dMTE = true ∧
        u.domOn dMEMW = true ∧ u.domOn dMEME = true ∧ u.domOn dFW = true ∧
        ∀ c, c < 16 → bitAt (s.recWord 23) c = false → u.domOn (dCLU c) = true) ∧
      ∀ w e, (w && e) = false → ∃ u, exec (.bootStep3Power w e) s = .next u ∧ ended s u 3 rFAILED eHW) ∧
    (s.stepIs 4 = true → s.keptClusters ≠ [] → s.kparts.retired = [] → ∀ verify, ∃ u, exec (.bootStep4Bist verify 0 []) s = .next u ∧
      ended s u 4 (doneBy s.boot.method) 0) ∧
    (s.stepIs 5 = true → ∃ u, exec .bootStep5Mortar s = .next u ∧ ended s u 5 rOK 0 ∧ u.flights = [] ∧ u.psums = [] ∧ u.counts = []) ∧
    (s.stepIs 6 = true → ∀ vfail fail : BitVec 48,
      let p := s.trainMemory (s.boot.method == mSTORED) vfail.toNat fail.toNat
      exec (.bootStep6Memory vfail fail) s =
        .next (p.1.stepEnd 6 (if p.2 = rOK then doneBy s.boot.method else p.2) (if p.2 = rFAILED then eHW else 0))) ∧
    (s.stepIs 7 = true →
      (s.boot.method = mSKIP → ∃ u, exec .bootStep7Ties s = .next u ∧ ended s u 7 rSKIPPED 0 ∧ u.f (TIE_ENUM_CHIPS 0) = 1) ∧
      (s.boot.method ≠ mSKIP →
        let n := s.f (TIE_ENUM_CHIPS 0)
        (s.torusW * s.torusH ≤ n → ∃ u, exec .bootStep7Ties s = .next u ∧ ended s u 7 (doneBy s.boot.method) 0) ∧
        (n < s.torusW * s.torusH → n = 0 → ∃ u, exec .bootStep7Ties s = .next u ∧ ended s u 7 rFAILED eTIMEOUT) ∧
        (n < s.torusW * s.torusH → n ≠ 0 → ∃ u, exec .bootStep7Ties s = .next u ∧ ended s u 7 rPARTIAL 0)) ∧
      exec .bootStepTimeout s = exec .bootStep7Ties s) ∧
    (∀ n, n < 13 → n ≠ 7 → s.boot.run = some n → ∃ u, exec .bootStepTimeout s = .next u ∧ ended s u n rFAILED eTIMEOUT) ∧
    (s.stepIs 8 = true → s.secure.stuck = false → exec .bootStep8Auth s = .next (match s.lifecycle with
      | (t, true) => t.fwAuth.1.stepEnd 8 (if t.fwAuth.2 = 0 then rOK else rFAILED) t.fwAuth.2
      | (t, false) => t.stepEnd 8 rFAILED eAUTH)) ∧
    (s.stepIs 9 = true → s.bcastReady = true → ∀ differ lost,
      let p := s.broadcastFw (s.boot.method == mALT) differ.toNat lost.toNat
      (s.bcastHeld s.boot.method = false →
        exec (.bootStep9FwBroadcast differ lost) s = .next (p.1.stepEnd 9 (if p.2 = 0 then doneBy s.boot.method else rPARTIAL) 0)) ∧
      (s.bcastHeld s.boot.method = true → exec (.bootStep9FwBroadcast differ lost) s = .next s)) ∧
    (s.stepIs 10 = true → s.schedRuns = true → s.foot.held = [] → ∀ still,
      (s.boot.method = mSKIP → ∃ u, exec (.bootStep10Mount still) s = .next u ∧ ended s u 10 rSKIPPED 0) ∧
      (s.boot.method ≠ mSKIP → s.domOn dKILN = true → ∃ u, exec (.bootStep10Mount still) s = .next u ∧ ended s u 10 rOK 0 ∧
        u.en .kiln 0 = true) ∧
      (s.boot.method ≠ mSKIP → s.domOn dKILN = false → ∃ u, exec (.bootStep10Mount still) s = .next u ∧ ended s u 10 rFAILED eMOUNT)) ∧
    (s.stepIs 11 = true → s.schedRuns = true →
      (s.b FOOT_STAT_ACTIVE = true → ∃ u, exec .bootStep11Load s = .next u ∧ ended s u 11 rFAILED eFOOTING) ∧
      (s.b FOOT_STAT_ACTIVE = false → s.boot.method = mSKIP → ∃ u, exec .bootStep11Load s = .next u ∧ ended s u 11 rSKIPPED 0) ∧
      (s.b FOOT_STAT_ACTIVE = false → s.boot.method ≠ mSKIP → s.boot.method ≠ mALT → s.secRuns = true →
        let p := s.stopAll.netLoad (s.mine (baseAddr (s.f BOOT_IMG_BASE_BASE))) 8 (s.f BOOT_STAGE_BASE_BASE)
        exec .bootStep11Load s =
          .next (if p.2.code = lcOK then p.1.stepEnd 11 (doneBy s.boot.method) 0 else p.1.stepEnd 11 rFAILED eLOAD))) ∧
    (s.stepIs 12 = true → s.schedRuns = true → s.b FOOT_STAT_ACTIVE = false → ∃ u, exec .bootStep12Start s = .next u ∧ ended s u 12 rOK 0 ∧
      u.ready = true ∧ u.f BOOT_STATUS_DONE = 1 ∧ u.ctl = s.netStart.1.ctl ∧ u.tiles = s.netStart.1.tiles)) ∧
  (∀ s : State, s.boot.mirror = true → s.domOn dKILN = true → ∃ u, exec .bootRecordMirror s = .next u ∧
    (if s.kparts.mirrorNext then u.kparts.mirrorB = some s.recWords ∧ u.kparts.mirrorA = s.kparts.mirrorA
      else u.kparts.mirrorA = some s.recWords ∧ u.kparts.mirrorB = s.kparts.mirrorB) ∧
    u.kparts.mirrorNext = !s.kparts.mirrorNext ∧ u = { s with kparts := u.kparts, boot := { s.boot with mirror := false } }) ∧
  (∀ (w : BitVec 6) (v : BitVec 32) (s : State),
    (w.toNat < 63 → ∃ u, exec (.bootRecWrite w v) s = .next u ∧ u.rd (BOOT_REC w.toNat).addr = v ∧ u.recValid = true ∧
      u.recWord 63 / 65536 = (s.recWord 63 / 65536 + 1) % 65536 ∧
      (if s.boot.run.isSome then u.boot.hostw = true else u.boot.mirror = true) ∧ u = { s with regs := u.regs, boot := u.boot } ∧
      ∀ a, a ≠ (BOOT_REC w.toNat).addr → a ≠ (BOOT_REC 63).addr → u.rd a = s.rd a) ∧
    (w.toNat = 63 → exec (.bootRecWrite w v) s = .next s)) ∧
  (∀ (v : BitVec 32) (s : State),
    (bits v.toNat 31 16 = 0xB0C1 → bitAt v.toNat 0 = true → ∃ u, exec (.bootRecClear v) s = .next u ∧ u.recValid = true ∧
      (∀ w, w < 63 → u.recWord w = 0) ∧
      (s.domOn dKILN = true → u.kparts.mirrorA = some u.recWords ∧ u.kparts.mirrorB = some u.recWords)) ∧
    (¬ (bits v.toNat 31 16 = 0xB0C1 ∧ bitAt v.toNat 0 = true) → exec (.bootRecClear v) s = .next s))

/-- FOOTING_TRIGGER, THERMAL_FOOTING, FOOT_N_FOOTING (R500, R501), SUPPLY_BAND_FOOTING (R594), FOOT_CTRL_ENTER (R510), FOOT_CTRL_EXIT (R508),
FOOTING_ENTRY (R502, R506), FOOT_PIN_UPDATE (R504), FOOT_STATUS (R505). SEQ of the status frame is a free value. -/
def Obligations.FootingMode : Prop :=
  (∀ (code : Nat) (c : Instr) (s : State),
    (c = .footingTrigger (BitVec.ofNat 4 code) ∧ 1 ≤ code ∧ code ≤ 6) ∨ (c = .thermalFooting ∧ code = 3) ∨ (c = .footNFooting ∧ code = 5) ∨
      ((c = .supplyBandFooting true ∨ c = .supplyBandFooting false) ∧ code = 4) ∨
      (c = .footCtrlEnter ∧ code = if s.b FOOT_STAT_CMD_CAUSE then 1 else 6) →
    (s.b FOOT_STAT_ACTIVE = false → s.step10Done = true → ∃ u, exec c s = .next u ∧ u.f FOOT_STAT_ACTIVE = 1 ∧ u.f FOOT_STAT_UNAVAIL = 0 ∧
      u.f FOOT_STAT_TRIGGER = code ∧ u.f FOOT_STAT_SEEN = 2 ^ (code - 1) ∧ u.f FOOT_STAT_PINS = s.f FOOT_CFG_SAFE &&& s.footPins ∧
      s.counted u FOOT_STAT_ENTRIES ∧ bitAt (u.f (INT_STATUS .boot 0)) 2 = true ∧ u.running = false ∧ u.f TMR_STEP_CTRL_RUN = 0 ∧
      u.ready = false ∧ u.foot.entering = true ∧ u.foot.since = s.tb.toNat ∧ u.ctl.step = s.ctl.step ∧ u.mem = s.mem ∧ u.tiles = s.tiles) ∧
    (s.b FOOT_STAT_ACTIVE = true → ∃ u, exec c s = .next u ∧ u.f FOOT_STAT_SEEN = s.f FOOT_STAT_SEEN ||| 2 ^ (code - 1) ∧
      u.f FOOT_STAT_TRIGGER = s.f FOOT_STAT_TRIGGER ∧ s.onlyRegs u (atReg FOOT_STAT)) ∧
    (s.b FOOT_STAT_ACTIVE = false → s.step10Done = false →
      (code = 3 ∨ code = 4 ∨ code = 5 → ∃ u, exec c s = .next u ∧ code ∈ u.foot.held ∧ u = { s with foot := { s.foot with held := u.foot.held } }) ∧
      (code ≠ 3 → code ≠ 4 → code ≠ 5 → exec c s = .next s))) ∧
  (∀ s : State, s.b FOOT_STAT_ACTIVE = true → ∃ u, exec .footCtrlExit s = .next u ∧ u.b FOOT_STAT_ACTIVE = false ∧ u.f FOOT_STAT_UNAVAIL = 0 ∧
    u.f FOOT_STAT_PINS = 0 ∧ u.relay = !s.isManager ∧ u.foot = {} ∧ ∀ d, d < 30 → bitAt (u.f (PWR_VOTE_CLIENTS d)) 7 = false) ∧
  (∀ s : State, s.b FOOT_STAT_ACTIVE = false → exec .footCtrlExit s = .next s) ∧
  (∀ (supply : Bool) (s : State), s.b FOOT_STAT_ACTIVE = true → s.foot.entering = true →
    (s.footBad supply = true → ∃ u, exec (.footingEntry supply) s = .next u ∧ u.f FOOT_STAT_UNAVAIL = 1 ∧ u.foot.entering = false) ∧
    (s.footBad supply = false → exec (.footingEntry supply) s = .next (match s.footPrep.footImage with
      | (t, none) => t.footNone
      | (t, some (g, l)) => t.footRun s.footCluster g l))) ∧
  (∀ (step : BitVec 8) (short exh : Bool) (s : State), s.b FOOT_STAT_ACTIVE = true → s.b FOOT_STAT_UNAVAIL = false →
    s.foot.entering = false →
    let odd := step.toNat % 2
    (∃ u, exec (.footPinUpdate step) s = .next u ∧
      u.f FOOT_STAT_PINS = (((if odd = 0 then s.foot.hits0 else s.foot.hits1) ^^^ s.f FOOT_CFG_INV) &&& s.footPins) ∧
      (if odd = 0 then u.foot = { s.foot with hits0 := 0 } else u.foot = { s.foot with hits1 := 0 }) ∧
      (s.domOn dT1S = true → ∀ m, m < 16 → bitAt (u.f GPIO_IN_IN) m = u.pinLevel m) ∧
      u = { s with regs := u.regs, foot := u.foot, refStart := u.refStart } ∧
      (s.rd GPIO_EDGE.addr = 0 → ∀ a, a ≠ FOOT_STAT.addr → a ≠ GPIO_IN.addr → u.rd a = s.rd a)) ∧
    (s.hostOn = true → s.txAssoc = none → s.b HOST_SEC_REQUIRE = false → ∃ u, exec (.footStatus step short exh) s = .next u ∧
      ∃ f : TxFrame, u.host.tx = s.host.tx ++ [f] ∧ f.kind = 8 ∧ f.dst = (if s.bound then s.peer else 0xFFFFFFFFFFFF) ∧
        f.seq = (Config.freeValue s.free).toNat % 65536 ∧
        f.body = bytesBE 8 (closedStep s.host.step step.toNat) ++ [s.f FOOT_STAT_TRIGGER, 1, s.f FOOT_STAT_PINS, bn short + 2 * bn exh] ++
          bytesBE 4 ((s.tb.toNat - s.foot.since) / 100000) ++ bytesBE 2 (s.f PWR_THERM_TJ) ++ [0, 0] ++
          bytesBE 4 (if odd = 0 then s.foot.spikes0 else s.foot.spikes1)))

/-- PWR_VSET, PWR_VCLR (R517), DOMAIN_RISE, DOMAIN_HOLD_EXPIRE (R512–R515), WAKE (R519), LEVEL_CHANGE, LEVEL_CHANGE_DONE (R525),
GOVERNOR_WINDOW (R526), THERMAL_SAMPLE (R527), PLL_LOSS (R522). -/
def Obligations.PowerAndClocks : Prop :=
  (∀ (d : BitVec 5) (s : State), d.toNat < 30 →
    (∀ v : BitVec 16,
      (s.frozen = false → (∃ u, exec (.pwrVset d v) s = .next u ∧ u.f (PWR_VOTE_CLIENTS d.toNat) = s.f (PWR_VOTE_CLIENTS d.toNat) ||| v.toNat ∧
          s.onlyRegs u (atReg (PWR_VOTE d.toNat))) ∧
        ∃ u, exec (.pwrVclr d v) s = .next u ∧
          (∀ n, n < 16 → bitAt (u.f (PWR_VOTE_CLIENTS d.toNat)) n = (bitAt (s.f (PWR_VOTE_CLIENTS d.toNat)) n && !bitAt v.toNat n)) ∧
          s.onlyRegs u (atReg (PWR_VOTE d.toNat))) ∧
      (s.frozen = true → exec (.pwrVset d v) s = .next s ∧ exec (.pwrVclr d v) s = .next s)) ∧
    (s.domOn d.toNat = false → s.heldDom d.toNat = true → s.en .pwr 0 = true →
      (d.toNat < 14 ∨ bitAt (s.f (BOOT_REC 23)) (d.toNat - 14) = false) → (d.toNat = dPLL → s.b CLK_STAT_REF_OK = true) →
      ∃ u, exec (.domainRise d) s = .next u ∧ u.domOn d.toNat = true ∧ s.counted u (PWR_RISES d.toNat) ∧
        (∀ e, e < 30 → e ≠ d.toNat → u.domOn e = s.domOn e) ∧ u.mem = s.mem ∧
        (d.toNat < 14 → u.tiles = s.tiles) ∧ (14 ≤ d.toNat → u.coreState (3 + (d.toNat - 14)) = cLOAD ∧
          ∀ t, clusterOf t = d.toNat - 14 → u.tileUp t = true → (u.tile t).step = s.ctl.step)) ∧
    (d.toNat = dPLL → s.domOn dPLL = false → s.heldDom dPLL = true → s.en .pwr 0 = true → s.b CLK_STAT_REF_OK = false →
      ∃ u, exec (.domainRise d) s = .next u ∧ u.refStart.isSome = true ∧ u = { s with refStart := u.refStart }) ∧
    (d.toNat ≠ 0 → s.domOn d.toNat = true → s.heldDom d.toNat = false → s.frozen = false → s.en .pwr 0 = true →
      (d.toNat = 4 → s.mortarQuiet false = true) → (d.toNat = 5 → s.mortarQuiet true = true) →
      ∃ u, exec (.domainHoldExpire d) s = .next u ∧ u.domOn d.toNat = false ∧ ∀ e, e < 30 → e ≠ d.toNat → u.domOn e = s.domOn e)) ∧
  (∀ (src unit : BitVec 4) (s : State),
    (s.wakeOn src.toNat unit.toNat = true → ∃ u, exec (.wake src unit) s = .next u ∧ u.f PWR_WAKE_SRC_SRC = src.toNat ∧
      u.f PWR_WAKE_SRC_UNIT = unit.toNat ∧ u.f PWR_WAKE_T = s.tb.toNat % 2 ^ 32 ∧ bitAt (u.f (PWR_VOTE_CLIENTS dFW)) 6 = true ∧
      bitAt (u.f (PWR_VOTE_CLIENTS dPLL)) 6 = true ∧ (src = 6 → bitAt (u.f (PWR_VOTE_CLIENTS dTIE)) 6 = true) ∧
      bitAt (u.f (INT_STATUS .pwr 0)) 0 = true ∧ u = { s with regs := u.regs, refStart := u.refStart }) ∧
    (s.wakeOn src.toNat unit.toNat = false → exec (.wake src unit) s = .next s)) ∧
  (∀ (east : Bool) (s : State),
    let goal := fun (u : State) => if east then u.power.toE else u.power.toW
    (goal s = none → s.levelTarget east ≠ s.f (levelApp east) → ∃ u, exec (.levelChange east) s = .next u ∧
      goal u = some (s.levelTarget east) ∧ u.f (levelBusy east) = 1 ∧ u.f (levelApp east) = s.f (levelApp east) ∧
      s.onlyRegs { u with power := s.power } (atReg PWR_LEVEL)) ∧
    (∀ l, goal s = some l → l < 4 → s.levelTarget east = l → ∃ u, exec (.levelChangeDone east) s = .next u ∧ goal u = none ∧
      u.f (levelApp east) = l ∧ u.f (levelBusy east) = 0 ∧ bitAt (u.f (INT_STATUS .pwr 0)) 1 = true ∧
      u.f (levelApp (!east)) = s.f (levelApp (!east)))) ∧
  (∀ (avg : BitVec 9) (east : Bool) (s : State),
    let w := s.f PWR_GOV_CAP_W
    let e := s.f PWR_GOV_CAP_E
    (s.powerLimit < avg.toNat → ∃ u, exec (.governorWindow avg east) s = .next u ∧ u.f PWR_GOV_AVG = avg.toNat ∧ u.power.quiet = 0 ∧
      bitAt (u.f (INT_STATUS .pwr 0)) 2 = true ∧
      (if w < 3 ∨ e < 3 then u.f PWR_GOV_PSTRETCH = s.f PWR_GOV_PSTRETCH ∧
          u.f PWR_GOV_CAP_E = (if east then min 3 (e + 1) else e) ∧ u.f PWR_GOV_CAP_W = (if east then w else min 3 (w + 1))
        else u.f PWR_GOV_PSTRETCH = min 16 (s.f PWR_GOV_PSTRETCH + 1) ∧ u.f PWR_GOV_CAP_E = e ∧ u.f PWR_GOV_CAP_W = w)) ∧
    (avg.toNat * 16 ≤ s.powerLimit * 15 → s.power.quiet < 9 → ∃ u, exec (.governorWindow avg east) s = .next u ∧
      u.f PWR_GOV_AVG = avg.toNat ∧ u.power = { s.power with quiet := s.power.quiet + 1 } ∧ u.f PWR_GOV_PSTRETCH = s.f PWR_GOV_PSTRETCH ∧
      u.f PWR_GOV_CAP_E = e ∧ u.f PWR_GOV_CAP_W = w) ∧
    (avg.toNat * 16 ≤ s.powerLimit * 15 → 9 ≤ s.power.quiet → 0 < s.f PWR_GOV_PSTRETCH → ∃ u, exec (.governorWindow avg east) s = .next u ∧
      u.power.quiet = 0 ∧ u.f PWR_GOV_PSTRETCH = s.f PWR_GOV_PSTRETCH - 1 ∧ bitAt (u.f (INT_STATUS .pwr 0)) 2 = true)) ∧
  (∀ (tj : BitVec 16) (s : State), ∃ u, exec (.thermalSample tj) s = .next u ∧ u.f PWR_THERM_TJ = tj.toNat ∧
    sgn 16 (u.f PWR_THERM_TJ_MAX) = max (sgn 16 (s.f PWR_THERM_TJ_MAX)) tj.toInt ∧ u.f PWR_GOV_TCAP = s.thermalCap tj.toInt ∧
    (s.f PWR_GOV_TCAP < s.thermalCap tj.toInt → bitAt (u.f (INT_STATUS .pwr 0)) 3 = true) ∧
    s.onlyRegs u fun a => a = PWR_THERM.addr ∨ a = PWR_GOV.addr ∨ a = (INT_STATUS .pwr 0).addr) ∧
  (∀ (k : BitVec 3) (s : State), k.toNat < 7 → s.domOn dPLL = true → bitAt (s.f CLK_STAT_PLL) k.toNat = true →
    ∃ u, exec (.pllLoss k) s = .next u ∧ bitAt (u.f CLK_STAT_PLL) k.toNat = false ∧
      (∀ n, n < 7 → n ≠ k.toNat → bitAt (u.f CLK_STAT_PLL) n = bitAt (s.f CLK_STAT_PLL) n) ∧
      bitAt (u.f (INT_STATUS .clk 0)) 0 = true ∧ s.onlyRegs u fun a => a = CLK_STAT.addr ∨ a = (INT_STATUS .clk 0).addr)

/-- SECURITY_MASKS (R542), HASH_JOB, HASH_JOB_DONE (R546), TAMPER_EVENT (R551–R553), SEC_WDOG_KICK (R554), RECORDER_SAMPLE,
RECORDER_WINDOW_END (R555), RECORDER_PERSIST (R558), OPERATING_MINUTE (R556), REC_CLR (R559), SPI_WRITE, SPI_READ, SPI_STATUS, IDENT,
SPI_UNKNOWN_COMMAND (R581–R583). -/
def Obligations.SecurityAndRecords : Prop :=
  (∀ s : State, s.secRuns = true → s.b FWC_FW_LOCK_LOCK = false → ∃ u, exec .securityMasks s = .next u ∧ u.f FWC_FW_LOCK_LOCK = 1 ∧
    (∀ w, 20 ≤ w → w < 32 → u.f (FWC_FWW_SIZE_SIZE w) = 0) ∧
    u.fwMask (Block.fwc.base 0 / 0x1000) = (if s.debugOk then 0x000027 else 0x000007) ∧ u.mem = s.mem) ∧
  (∀ (fw : Bool) (go : BitVec 32) (s : State), s.domOn dSEC = true → s.domOn (jobDom fw) = true →
    ∃ u, exec (.hashJob fw go) s = .next u ∧ u.ldN 4 (jobArea fw) = go.toNat ∧
      (∀ a, a < jobArea fw ∨ jobArea fw + 4 ≤ a → u.ld8 a = s.ld8 a) ∧ u.regs = s.regs ∧
      (go ≠ 0 → s.secure.jobs.contains fw = false → u.secure.jobs = s.secure.jobs ++ [fw]) ∧ (go = 0 → u.secure = s.secure)) ∧
  (∀ (fw : Bool) (s : State), s.secure.jobs.contains fw = true → bitAt (s.ldN 4 (jobArea fw + 24)) 4 = false →
    let (a, n) := (s.ldN 6 (jobArea fw + 8), s.ldN 8 (jobArea fw + 16))
    s.reads iENGINE a n sysRouter = true →
    ∃ u, exec (.hashJobDone fw) s = .next u ∧ u.bytes 32 (jobArea fw + 32) = digest (s.readBytes a n) ∧ u.ldN 4 (jobArea fw + 4) = 1 ∧
      u.ldN 4 (jobArea fw) = 0 ∧ s.counted u SEC_HASH_JOBS ∧
      u.secure = { s.secure with jobs := s.secure.jobs.filter (· != fw) }) ∧
  (∀ (src : BitVec 3) (s : State),
    (src.toNat < 4 → (src.toNat ≠ 0 ∨ s.b SEC_TAMPER_CFG_PIN_EN = true) → ∃ u, exec (.tamperEvent src) s = .next u ∧
      u.f SEC_TAMPER_SEEN = 1 ∧ bitAt (u.f SEC_TAMPER_SRC) src.toNat = true ∧ s.counted u SEC_TAMPER_WIPES ∧ u.secure.vault = none ∧
      u.secure.stuck = true ∧ bitAt (u.f (INT_STATUS .fwc 0)) 1 = true ∧ u.host.rx = [] ∧ u.host.txa = [] ∧ (∀ a, 0x300010000 ≤ a → a < 0x300050000 → u.ld8 a = 0) ∧
      (s.domOn dSEC = true → u.coreState 0 = cHELD)) ∧
    (4 ≤ src.toNat ∨ (src.toNat = 0 ∧ s.b SEC_TAMPER_CFG_PIN_EN = false) → exec (.tamperEvent src) s = .next s)) ∧
  (∀ s : State, s.domOn dSEC = true → exec .secWdogKick s = .next { s with secure := { s.secure with kick := s.tb.toNat } }) ∧
  (∀ (id : BitVec 6) (v : BitVec 32) (port : BitVec 2) (s : State),
    (s.recActive = true → id.toNat < 34 → ∃ u, exec (.recorderSample id v port) s = .next u ∧
      Map.get ({} : Rec) u.recs id.toNat = (Map.get ({} : Rec) s.recs id.toNat).update v.toNat (s.recBin id.toNat v.toNat port.toNat)
        (s.rd REC_MINUTES.addr).toNat (s.rd REC_CYCLES.addr).toNat ∧
      (∀ j, j ≠ id.toNat → Map.get ({} : Rec) u.recs j = Map.get ({} : Rec) s.recs j) ∧ u = { s with regs := u.regs, recs := u.recs, refStart := u.refStart }) ∧
    (s.recActive = false → exec (.recorderSample id v port) s = .next s)) ∧
  (∀ s : State, s.recActive = true → ∃ u, exec .recorderWindowEnd s = .next u ∧ u.recWin = [] ∧
    ∀ id ∈ windowIds, (Map.get ({} : Rec) u.recs id).count = sat32 ((Map.get ({} : Rec) s.recs id).count + 1) ∧
      (Map.get ({} : Rec) u.recs id).last = s.windowSample id % 2 ^ 32) ∧
  (∀ s : State, s.domOn dREC = true → s.en .recd 0 = true → s.f REC_CFG_PERSIST ≠ 0 →
    (∃ u, exec (.recorderPersist false) s = .next u ∧ s.counted u REC_STAT_PFAIL ∧ bitAt (u.f (INT_STATUS .recd 0)) 4 = true ∧
      u.kparts = s.kparts) ∧
    (s.domOn dKILN = true →
      (s.kparts.copyA = none → ∃ u c, exec (.recorderPersist true) s = .next u ∧ u.kparts = { s.kparts with copyA := some c } ∧
        c.recs = s.recs ∧ c.minutes = (s.rd REC_MINUTES.addr).toNat ∧ u.f REC_STAT_COPY = 0) ∧
      (∀ a, s.kparts.copyA = some a → s.kparts.copyB = none → ∃ u c, exec (.recorderPersist true) s = .next u ∧
        u.kparts = { s.kparts with copyB := some c } ∧ c.recs = s.recs ∧ c.seq = (a.seq + 1) % 65536 ∧ u.f REC_STAT_COPY = 1))) ∧
  (∀ s : State, ∃ u, exec .operatingMinute s = .next u ∧ u.rd REC_MINUTES.addr = s.rd REC_MINUTES.addr + 1 ∧
    s.onlyRegs u (atReg REC_MINUTES)) ∧
  (∀ (v : BitVec 32) (s : State), s.domOn dREC = true →
    (bits v.toNat 31 16 = 0xC1EA → bitAt v.toNat 0 = true → exec (.recClr v) s =
      .next { s with recs := [], recWin := [], kparts := { s.kparts with copyA := none, copyB := none } }) ∧
    (¬ (bits v.toNat 31 16 = 0xC1EA ∧ bitAt v.toNat 0 = true) → exec (.recClr v) s = .next s)) ∧
  (∀ s : State, s.actv .spi 0 = true → s.spi.queue = [] → s.spi.await = none →
    (∀ addr : BitVec 48, ∃ u, exec (.spiWrite addr [] true) s = .next u ∧ s.counted u SPI_XFERS ∧ s.counted u SPI_ERRS ∧
      u.f SPI_STAT_NDONE = 0 ∧ u.f SPI_STAT_BUSY = 0) ∧
    (∀ (addr : BitVec 48) (v : BitVec 32),
      let a := addr.toNat % 2 ^ 38 / 4 * 4
      (s.b SYS_CHIP_ID_ASSIGNED = false → ∃ u, exec (.spiWrite addr [v] false) s = .next u ∧ u.spi.queue = [(addr.toNat, v.toNat)] ∧
        u.b SPI_STAT_BUSY = true ∧ u.mem = s.mem) ∧
      (s.b SYS_CHIP_ID_ASSIGNED = true → (addr.toNat / 2 ^ 38 = 0x3FF ∨ addr.toNat / 2 ^ 38 = s.chipId) → pageOf a = none →
        (s.mortarInit || s.ringTarget a) = true →
        (s.writes iHOST (s.mine a) 4 sysRouter = true → ∃ u, exec (.spiWrite addr [v] false) s = .next u ∧ u.spi.queue = [] ∧
          u.ldN 4 a = v.toNat ∧ u.f SPI_STAT_NDONE = 1 ∧ u.f SPI_STAT_LAST = 0 ∧ s.counted u SPI_XFERS) ∧
        (s.reads iHOST (s.mine a) 4 sysRouter = true → ∃ u, exec (.spiRead addr 1) s = .next u ∧
          u.spi.out = [0xA5, 0] ++ bytesBE 4 (ofLE (s.readBytes (s.mine a) 4)) ∧ u.mem = s.mem))) ∧
    (∀ addr : BitVec 48, ∃ u, exec (.spiRead addr 0) s = .next u ∧ s.counted u SPI_XFERS ∧ u.spi.out = [] ∧ u.mem = s.mem) ∧
    (∃ u, exec .spiStatus s = .next u ∧ s.counted u SPI_XFERS ∧ u.spi.out = bytesBE 4 (u.regView iHOST .spi 0 0x040)) ∧
    (∃ u, exec .ident s = .next u ∧ s.counted u SPI_XFERS ∧ u.spi.out = bytesBE 4 (u.regView iHOST .sys 0 0x040)) ∧
    (∀ cmd : BitVec 8, cmd ≠ 0x02 → cmd ≠ 0x0B → cmd ≠ 0x05 → cmd ≠ 0x9F → ∃ u, exec (.spiUnknownCommand cmd) s = .next u ∧
      s.counted u SPI_XFERS ∧ s.counted u SPI_ERRS ∧ u.mem = s.mem))

/-- The canonical form of the stores (notes/assumptions/1.md) is an invariant of every step; that reset has it is part of `ResetState`. -/
def Obligations.CanonicalKept : Prop :=
  ∀ s t : State, s.canonical = true → s.stepsTo t → t.canonical = true
end

