-- ==== Sys2Proof/Laws/Map.lean ====
section
/-! SUPPORT. What reading, erasing, inserting and setting do to a sparse store, and that each keeps the canonical form. -/

namespace Sys2Proof.Machine

variable {α : Type}

theorem Map.get_erase_same (d : α) (m : List (Nat × α)) (k : Nat) : Map.get d (Map.erase m k) k = d := by
  induction m with
  | nil => rfl
  | cons p t ih =>
    by_cases h : p.1 = k
    · simp [Map.erase, h, ih]
    · simp [Map.erase, Map.get, h, ih]

theorem Map.get_erase_ne (d : α) (m : List (Nat × α)) {k j : Nat} (h : j ≠ k) :
    Map.get d (Map.erase m k) j = Map.get d m j := by
  induction m with
  | nil => rfl
  | cons p t ih =>
    by_cases hk : p.1 = k
    · have : p.1 ≠ j := fun e => h (e ▸ hk)
      simp [Map.erase, Map.get, hk, ih, show k ≠ j from fun e => h e.symm]
    · by_cases hj : p.1 = j
      · simp [Map.erase, Map.get, hk, hj, show j ≠ k from h]
      · simp [Map.erase, Map.get, hk, hj, ih]

theorem Map.get_insert_ne (d : α) (m : List (Nat × α)) {k j : Nat} (v : α) (h : j ≠ k) :
    Map.get d (Map.insert k v m) j = Map.get d m j := by
  induction m with
  | nil => simp [Map.insert, Map.get, h.symm]
  | cons p t ih =>
    by_cases hk : k < p.1
    · simp [Map.insert, Map.get, hk, h.symm]
    · by_cases hj : p.1 = j
      · rw [Map.insert, if_neg hk, Map.get, Map.get, if_pos hj, if_pos hj]
      · rw [Map.insert, if_neg hk, Map.get, Map.get, if_neg hj, if_neg hj, ih]

theorem Map.get_insert_same (d : α) (m : List (Nat × α)) (k : Nat) (v : α) (hm : ∀ p ∈ m, p.1 ≠ k) :
    Map.get d (Map.insert k v m) k = v := by
  induction m with
  | nil => simp [Map.insert, Map.get]
  | cons p t ih =>
    have hp := hm p (by simp)
    by_cases hk : k < p.1
    · simp [Map.insert, Map.get, hk]
    · simp [Map.insert, Map.get, hk, hp, ih (fun q hq => hm q (by simp [hq]))]

theorem Map.mem_erase {m : List (Nat × α)} {k : Nat} {p : Nat × α} (h : p ∈ Map.erase m k) : p ∈ m ∧ p.1 ≠ k := by
  induction m with
  | nil => simp [Map.erase] at h
  | cons q t ih =>
    by_cases hq : q.1 = k
    · simp [Map.erase, hq] at h
      exact ⟨by simp [(ih h).1], (ih h).2⟩
    · simp [Map.erase, hq] at h
      rcases h with rfl | h
      · exact ⟨by simp, hq⟩
      · exact ⟨by simp [(ih h).1], (ih h).2⟩

variable [DecidableEq α]

/-- A key just set reads back. -/
@[simp] theorem Map.get_set_same (d : α) (m : List (Nat × α)) (k : Nat) (v : α) : Map.get d (Map.set d m k v) k = v := by
  unfold Map.set
  split
  · next h => rw [Map.get_erase_same, h]
  · exact Map.get_insert_same _ _ _ _ fun p hp => (Map.mem_erase hp).2

/-- Setting one key leaves every other as it was. -/
theorem Map.get_set_ne (d e : α) (m : List (Nat × α)) {k j : Nat} (v : α) (h : j ≠ k) :
    Map.get e (Map.set d m k v) j = Map.get e m j := by
  unfold Map.set
  split
  · exact Map.get_erase_ne _ _ h
  · rw [Map.get_insert_ne _ _ _ h, Map.get_erase_ne _ _ h]

/-! ## The canonical form -/

theorem Map.wfFrom_mono {d : Nat → α} {m : List (Nat × α)} {lo lo' : Option Nat}
    (h : ∀ l, lo' = some l → ∀ p ∈ m.head?, l < p.1) (hm : Map.wfFrom d lo m = true) : Map.wfFrom d lo' m = true := by
  cases m with
  | nil => rfl
  | cons p t =>
    simp only [Map.wfFrom, Bool.and_eq_true] at hm ⊢
    refine ⟨⟨?_, hm.1.2⟩, hm.2⟩
    cases lo' with
    | none => rfl
    | some l => simpa using h l rfl p (by simp)

theorem Map.wfFrom_none {d : Nat → α} {m : List (Nat × α)} {lo : Option Nat} (hm : Map.wfFrom d lo m = true) :
    Map.wfFrom d none m = true := Map.wfFrom_mono (by simp) hm

/-- Every key of a canonical tail lies above its bound. -/
theorem Map.wfFrom_above {d : Nat → α} {m : List (Nat × α)} {l : Nat} (hm : Map.wfFrom d (some l) m = true) :
    ∀ p ∈ m, l < p.1 := by
  induction m generalizing l with
  | nil => simp
  | cons q t ih =>
    simp only [Map.wfFrom, Bool.and_eq_true, decide_eq_true_eq] at hm
    intro p hp
    rcases List.mem_cons.mp hp with rfl | hp
    · exact hm.1.1
    · exact lt_trans hm.1.1 (ih hm.2 p hp)

theorem Map.wfFrom_erase {d : Nat → α} {m : List (Nat × α)} {lo : Option Nat} (k : Nat) (hm : Map.wfFrom d lo m = true) :
    Map.wfFrom d lo (Map.erase m k) = true := by
  induction m generalizing lo with
  | nil => rfl
  | cons p t ih =>
    have hm' := hm
    simp only [Map.wfFrom, Bool.and_eq_true] at hm
    by_cases hk : p.1 = k
    · simp only [Map.erase, hk, if_true]
      refine Map.wfFrom_mono ?_ (ih hm.2)
      intro l hl q hq
      have hq' : q ∈ Map.erase t k := List.mem_of_mem_head? hq
      have h1 := Map.wfFrom_above hm.2 q (Map.mem_erase hq').1
      subst hl
      simp only [decide_eq_true_eq] at hm
      omega
    · simp only [Map.erase, hk, if_false, Map.wfFrom, Bool.and_eq_true]
      exact ⟨hm.1, ih hm.2⟩

theorem Map.wfFrom_insert {d : Nat → α} {m : List (Nat × α)} {lo : Option Nat} {k : Nat} {v : α} (hv : v ≠ d k)
    (hlo : ∀ l, lo = some l → l < k) (hk : ∀ p ∈ m, p.1 ≠ k) (hm : Map.wfFrom d lo m = true) :
    Map.wfFrom d lo (Map.insert k v m) = true := by
  induction m generalizing lo with
  | nil =>
    cases lo with
    | none => simp [Map.insert, Map.wfFrom, hv]
    | some l => simp [Map.insert, Map.wfFrom, hv, hlo l rfl]
  | cons p t ih =>
    have hp := hk p (by simp)
    simp only [Map.wfFrom, Bool.and_eq_true] at hm
    by_cases h : k < p.1
    · simp only [Map.insert, h, if_true, Map.wfFrom, Bool.and_eq_true]
      refine ⟨⟨?_, by simpa using hv⟩, ⟨by simpa using h, hm.1.2⟩, hm.2⟩
      cases lo with
      | none => rfl
      | some l => simpa using hlo l rfl
    · simp only [Map.insert, h, if_false, Map.wfFrom, Bool.and_eq_true]
      refine ⟨hm.1, ih ?_ (fun q hq => hk q (by simp [hq])) hm.2⟩
      intro l hl
      cases hl
      omega

/-- Setting a key keeps the canonical form, whatever default each key has. -/
theorem Map.wf_set {d : Nat → α} {m : List (Nat × α)} (k : Nat) (v : α) (hm : Map.wf d m = true) :
    Map.wf d (Map.set (d k) m k v) = true := by
  unfold Map.set
  split
  · exact Map.wfFrom_erase k hm
  · next h => exact Map.wfFrom_insert h (by simp) (fun p hp => (Map.mem_erase hp).2) (Map.wfFrom_erase k hm)

theorem Map.wfFrom_filter {d : Nat → α} {m : List (Nat × α)} {lo : Option Nat} (q : Nat × α → Bool)
    (hm : Map.wfFrom d lo m = true) : Map.wfFrom d lo (m.filter q) = true := by
  induction m generalizing lo with
  | nil => rfl
  | cons p t ih =>
    simp only [Map.wfFrom, Bool.and_eq_true] at hm
    by_cases hq : q p = true
    · simp only [List.filter_cons, hq, if_true, Map.wfFrom, Bool.and_eq_true]
      exact ⟨hm.1, ih hm.2⟩
    · simp only [List.filter_cons, hq, if_false]
      refine Map.wfFrom_mono ?_ (ih hm.2)
      intro l hl r hr
      have hr' : r ∈ t := List.mem_of_mem_filter (List.mem_of_mem_head? hr)
      have := Map.wfFrom_above hm.2 r hr'
      subst hl
      simp only [decide_eq_true_eq] at hm
      omega

/-- Dropping entries keeps the canonical form. -/
theorem Map.wf_filter {d : Nat → α} {m : List (Nat × α)} (q : Nat × α → Bool) (hm : Map.wf d m = true) :
    Map.wf d (m.filter q) = true := Map.wfFrom_filter q hm

theorem Map.get_of_above {d : Nat → α} {m : List (Nat × α)} {l j : Nat} (e : α) (hm : Map.wfFrom d (some l) m = true) (h : j ≤ l) :
    Map.get e m j = e := by
  induction m with
  | nil => rfl
  | cons p t ih =>
    have hp := Map.wfFrom_above hm p (by simp)
    have ht : Map.wfFrom d (some l) t = true := by
      simp only [Map.wfFrom, Bool.and_eq_true] at hm
      exact Map.wfFrom_mono (fun x hx q hq => by
        cases hx; exact lt_trans hp (Map.wfFrom_above hm.2 q (List.mem_of_mem_head? hq))) hm.2
    simp [Map.get, show p.1 ≠ j by omega, ih ht]

/-- Two canonical stores that read the same everywhere are the same data. -/
theorem Map.ext_of_wf {d : Nat → α} {m n : List (Nat × α)} (hm : Map.wf d m = true) (hn : Map.wf d n = true)
    (h : ∀ k, Map.get (d k) m k = Map.get (d k) n k) : m = n := by
  suffices H : ∀ (m n : List (Nat × α)) (lo : Option Nat), Map.wfFrom d lo m = true → Map.wfFrom d lo n = true →
      (∀ k, Map.get (d k) m k = Map.get (d k) n k) → m = n from H m n none hm hn h
  intro m
  induction m with
  | nil =>
    intro n lo _ hn h
    cases n with
    | nil => rfl
    | cons q t =>
      simp only [Map.wfFrom, Bool.and_eq_true, decide_eq_true_eq] at hn
      exact absurd (by simpa [Map.get] using (h q.1).symm) hn.1.2
  | cons p t ih =>
    intro n lo hm hn h
    cases n with
    | nil =>
      simp only [Map.wfFrom, Bool.and_eq_true, decide_eq_true_eq] at hm
      exact absurd (by simpa [Map.get] using h p.1) hm.1.2
    | cons q u =>
      simp only [Map.wfFrom, Bool.and_eq_true, decide_eq_true_eq] at hm hn
      have hpq : p.1 = q.1 := by
        rcases lt_trichotomy p.1 q.1 with hlt | he | hgt
        · have h1 := h p.1
          rw [show Map.get (d p.1) (p :: t) p.1 = p.2 by simp [Map.get]] at h1
          have h2 : Map.get (d p.1) (q :: u) p.1 = d p.1 := by
            simp [Map.get, show q.1 ≠ p.1 by omega, Map.get_of_above (d p.1) hn.2 (Nat.le_of_lt hlt)]
          exact absurd (h1.trans h2) hm.1.2
        · exact he
        · have h1 := h q.1
          rw [show Map.get (d q.1) (q :: u) q.1 = q.2 by simp [Map.get]] at h1
          have h2 : Map.get (d q.1) (p :: t) q.1 = d q.1 := by
            simp [Map.get, show p.1 ≠ q.1 by omega, Map.get_of_above (d q.1) hm.2 (Nat.le_of_lt hgt)]
          exact absurd (h1.symm.trans h2) hn.1.2
      have hv : p.2 = q.2 := by
        have h1 := h p.1
        simpa [Map.get, hpq] using h1
      have hpq' : p = q := Prod.ext hpq hv
      subst hpq'
      congr 1
      refine ih u (some p.1) hm.2 hn.2 fun k => ?_
      by_cases hk : p.1 = k
      · rw [Map.get_of_above (d k) hm.2 (by omega), Map.get_of_above (d k) hn.2 (by omega)]
      · simpa [Map.get, hk] using h k

end Sys2Proof.Machine
end

