-- ==== Sys2Proof/Laws/State.lean ====
section
/-! SUPPORT. One lemma per field per update: what the named updates of `State` leave as it was, and what they write. -/

namespace Sys2Proof.Machine
open Sys2Proof

/-! ### wr -/

@[simp] theorem State.wr_mem (s : State) (a : Nat) (v : BitVec 32) : (s.wr a v).mem = s.mem := rfl
@[simp] theorem State.wr_tiles (s : State) (a : Nat) (v : BitVec 32) : (s.wr a v).tiles = s.tiles := rfl
@[simp] theorem State.wr_clusters (s : State) (a : Nat) (v : BitVec 32) : (s.wr a v).clusters = s.clusters := rfl
@[simp] theorem State.wr_flights (s : State) (a : Nat) (v : BitVec 32) : (s.wr a v).flights = s.flights := rfl
@[simp] theorem State.wr_psums (s : State) (a : Nat) (v : BitVec 32) : (s.wr a v).psums = s.psums := rfl
@[simp] theorem State.wr_counts (s : State) (a : Nat) (v : BitVec 32) : (s.wr a v).counts = s.counts := rfl
@[simp] theorem State.wr_sinkStep (s : State) (a : Nat) (v : BitVec 32) : (s.wr a v).sinkStep = s.sinkStep := rfl
@[simp] theorem State.wr_collarStep (s : State) (a : Nat) (v : BitVec 32) : (s.wr a v).collarStep = s.collarStep := rfl
@[simp] theorem State.wr_ctl (s : State) (a : Nat) (v : BitVec 32) : (s.wr a v).ctl = s.ctl := rfl
@[simp] theorem State.wr_tb (s : State) (a : Nat) (v : BitVec 32) : (s.wr a v).tb = s.tb := rfl
@[simp] theorem State.wr_ext (s : State) (a : Nat) (v : BitVec 32) : (s.wr a v).ext = s.ext := rfl
@[simp] theorem State.wr_memq (s : State) (a : Nat) (v : BitVec 32) : (s.wr a v).memq = s.memq := rfl
@[simp] theorem State.wr_answers (s : State) (a : Nat) (v : BitVec 32) : (s.wr a v).answers = s.answers := rfl
@[simp] theorem State.wr_cores (s : State) (a : Nat) (v : BitVec 32) : (s.wr a v).cores = s.cores := rfl
@[simp] theorem State.wr_fwmask (s : State) (a : Nat) (v : BitVec 32) : (s.wr a v).fwmask = s.fwmask := rfl
@[simp] theorem State.wr_ready (s : State) (a : Nat) (v : BitVec 32) : (s.wr a v).ready = s.ready := rfl
@[simp] theorem State.wr_foot (s : State) (a : Nat) (v : BitVec 32) : (s.wr a v).foot = s.foot := rfl
@[simp] theorem State.wr_recs (s : State) (a : Nat) (v : BitVec 32) : (s.wr a v).recs = s.recs := rfl
@[simp] theorem State.wr_recWin (s : State) (a : Nat) (v : BitVec 32) : (s.wr a v).recWin = s.recWin := rfl
@[simp] theorem State.wr_ties (s : State) (a : Nat) (v : BitVec 32) : (s.wr a v).ties = s.ties := rfl
@[simp] theorem State.wr_tmr (s : State) (a : Nat) (v : BitVec 32) : (s.wr a v).tmr = s.tmr := rfl
@[simp] theorem State.wr_snaps (s : State) (a : Nat) (v : BitVec 32) : (s.wr a v).snaps = s.snaps := rfl
@[simp] theorem State.wr_slewPhase (s : State) (a : Nat) (v : BitVec 32) : (s.wr a v).slewPhase = s.slewPhase := rfl
@[simp] theorem State.wr_sports (s : State) (a : Nat) (v : BitVec 32) : (s.wr a v).sports = s.sports := rfl
@[simp] theorem State.wr_host (s : State) (a : Nat) (v : BitVec 32) : (s.wr a v).host = s.host := rfl
@[simp] theorem State.wr_net (s : State) (a : Nat) (v : BitVec 32) : (s.wr a v).net = s.net := rfl
@[simp] theorem State.wr_linkmap (s : State) (a : Nat) (v : BitVec 32) : (s.wr a v).linkmap = s.linkmap := rfl
@[simp] theorem State.wr_krows (s : State) (a : Nat) (v : BitVec 32) : (s.wr a v).krows = s.krows := rfl
@[simp] theorem State.wr_kparts (s : State) (a : Nat) (v : BitVec 32) : (s.wr a v).kparts = s.kparts := rfl
@[simp] theorem State.wr_kslices (s : State) (a : Nat) (v : BitVec 32) : (s.wr a v).kslices = s.kslices := rfl
@[simp] theorem State.wr_kring (s : State) (a : Nat) (v : BitVec 32) : (s.wr a v).kring = s.kring := rfl
@[simp] theorem State.wr_fuse (s : State) (a : Nat) (v : BitVec 32) : (s.wr a v).fuse = s.fuse := rfl
@[simp] theorem State.wr_boot (s : State) (a : Nat) (v : BitVec 32) : (s.wr a v).boot = s.boot := rfl
@[simp] theorem State.wr_power (s : State) (a : Nat) (v : BitVec 32) : (s.wr a v).power = s.power := rfl
@[simp] theorem State.wr_spi (s : State) (a : Nat) (v : BitVec 32) : (s.wr a v).spi = s.spi := rfl
@[simp] theorem State.wr_secure (s : State) (a : Nat) (v : BitVec 32) : (s.wr a v).secure = s.secure := rfl
@[simp] theorem State.wr_pending (s : State) (a : Nat) (v : BitVec 32) : (s.wr a v).pending = s.pending := rfl
@[simp] theorem State.wr_free (s : State) (a : Nat) (v : BitVec 32) : (s.wr a v).free = s.free := rfl
@[simp] theorem State.wr_arb (s : State) (a : Nat) (v : BitVec 32) : (s.wr a v).arb = s.arb := rfl
@[simp] theorem State.wr_drainW (s : State) (a : Nat) (v : BitVec 32) : (s.wr a v).drainW = s.drainW := rfl
@[simp] theorem State.wr_drainE (s : State) (a : Nat) (v : BitVec 32) : (s.wr a v).drainE = s.drainE := rfl
@[simp] theorem State.wr_memW (s : State) (a : Nat) (v : BitVec 32) : (s.wr a v).memW = s.memW := rfl
@[simp] theorem State.wr_memE (s : State) (a : Nat) (v : BitVec 32) : (s.wr a v).memE = s.memE := rfl
@[simp] theorem State.wr_fills (s : State) (a : Nat) (v : BitVec 32) : (s.wr a v).fills = s.fills := rfl
@[simp] theorem State.wr_torusW (s : State) (a : Nat) (v : BitVec 32) : (s.wr a v).torusW = s.torusW := rfl
@[simp] theorem State.wr_torusH (s : State) (a : Nat) (v : BitVec 32) : (s.wr a v).torusH = s.torusH := rfl
@[simp] theorem State.wr_aonPhase (s : State) (a : Nat) (v : BitVec 32) : (s.wr a v).aonPhase = s.aonPhase := rfl
@[simp] theorem State.wr_refStart (s : State) (a : Nat) (v : BitVec 32) : (s.wr a v).refStart = s.refStart := rfl
@[simp] theorem State.wr_portTurn (s : State) (a : Nat) (v : BitVec 32) : (s.wr a v).portTurn = s.portTurn := rfl
@[simp] theorem State.wr_pins (s : State) (a : Nat) (v : BitVec 32) : (s.wr a v).pins = s.pins := rfl

/-! ### setF -/

@[simp] theorem State.setF_mem (s : State) (l : Loc) (v : Nat) : (s.setF l v).mem = s.mem := rfl
@[simp] theorem State.setF_tiles (s : State) (l : Loc) (v : Nat) : (s.setF l v).tiles = s.tiles := rfl
@[simp] theorem State.setF_clusters (s : State) (l : Loc) (v : Nat) : (s.setF l v).clusters = s.clusters := rfl
@[simp] theorem State.setF_flights (s : State) (l : Loc) (v : Nat) : (s.setF l v).flights = s.flights := rfl
@[simp] theorem State.setF_psums (s : State) (l : Loc) (v : Nat) : (s.setF l v).psums = s.psums := rfl
@[simp] theorem State.setF_counts (s : State) (l : Loc) (v : Nat) : (s.setF l v).counts = s.counts := rfl
@[simp] theorem State.setF_sinkStep (s : State) (l : Loc) (v : Nat) : (s.setF l v).sinkStep = s.sinkStep := rfl
@[simp] theorem State.setF_collarStep (s : State) (l : Loc) (v : Nat) : (s.setF l v).collarStep = s.collarStep := rfl
@[simp] theorem State.setF_ctl (s : State) (l : Loc) (v : Nat) : (s.setF l v).ctl = s.ctl := rfl
@[simp] theorem State.setF_tb (s : State) (l : Loc) (v : Nat) : (s.setF l v).tb = s.tb := rfl
@[simp] theorem State.setF_ext (s : State) (l : Loc) (v : Nat) : (s.setF l v).ext = s.ext := rfl
@[simp] theorem State.setF_memq (s : State) (l : Loc) (v : Nat) : (s.setF l v).memq = s.memq := rfl
@[simp] theorem State.setF_answers (s : State) (l : Loc) (v : Nat) : (s.setF l v).answers = s.answers := rfl
@[simp] theorem State.setF_cores (s : State) (l : Loc) (v : Nat) : (s.setF l v).cores = s.cores := rfl
@[simp] theorem State.setF_fwmask (s : State) (l : Loc) (v : Nat) : (s.setF l v).fwmask = s.fwmask := rfl
@[simp] theorem State.setF_ready (s : State) (l : Loc) (v : Nat) : (s.setF l v).ready = s.ready := rfl
@[simp] theorem State.setF_foot (s : State) (l : Loc) (v : Nat) : (s.setF l v).foot = s.foot := rfl
@[simp] theorem State.setF_recs (s : State) (l : Loc) (v : Nat) : (s.setF l v).recs = s.recs := rfl
@[simp] theorem State.setF_recWin (s : State) (l : Loc) (v : Nat) : (s.setF l v).recWin = s.recWin := rfl
@[simp] theorem State.setF_ties (s : State) (l : Loc) (v : Nat) : (s.setF l v).ties = s.ties := rfl
@[simp] theorem State.setF_tmr (s : State) (l : Loc) (v : Nat) : (s.setF l v).tmr = s.tmr := rfl
@[simp] theorem State.setF_snaps (s : State) (l : Loc) (v : Nat) : (s.setF l v).snaps = s.snaps := rfl
@[simp] theorem State.setF_slewPhase (s : State) (l : Loc) (v : Nat) : (s.setF l v).slewPhase = s.slewPhase := rfl
@[simp] theorem State.setF_sports (s : State) (l : Loc) (v : Nat) : (s.setF l v).sports = s.sports := rfl
@[simp] theorem State.setF_host (s : State) (l : Loc) (v : Nat) : (s.setF l v).host = s.host := rfl
@[simp] theorem State.setF_net (s : State) (l : Loc) (v : Nat) : (s.setF l v).net = s.net := rfl
@[simp] theorem State.setF_linkmap (s : State) (l : Loc) (v : Nat) : (s.setF l v).linkmap = s.linkmap := rfl
@[simp] theorem State.setF_krows (s : State) (l : Loc) (v : Nat) : (s.setF l v).krows = s.krows := rfl
@[simp] theorem State.setF_kparts (s : State) (l : Loc) (v : Nat) : (s.setF l v).kparts = s.kparts := rfl
@[simp] theorem State.setF_kslices (s : State) (l : Loc) (v : Nat) : (s.setF l v).kslices = s.kslices := rfl
@[simp] theorem State.setF_kring (s : State) (l : Loc) (v : Nat) : (s.setF l v).kring = s.kring := rfl
@[simp] theorem State.setF_fuse (s : State) (l : Loc) (v : Nat) : (s.setF l v).fuse = s.fuse := rfl
@[simp] theorem State.setF_boot (s : State) (l : Loc) (v : Nat) : (s.setF l v).boot = s.boot := rfl
@[simp] theorem State.setF_power (s : State) (l : Loc) (v : Nat) : (s.setF l v).power = s.power := rfl
@[simp] theorem State.setF_spi (s : State) (l : Loc) (v : Nat) : (s.setF l v).spi = s.spi := rfl
@[simp] theorem State.setF_secure (s : State) (l : Loc) (v : Nat) : (s.setF l v).secure = s.secure := rfl
@[simp] theorem State.setF_pending (s : State) (l : Loc) (v : Nat) : (s.setF l v).pending = s.pending := rfl
@[simp] theorem State.setF_free (s : State) (l : Loc) (v : Nat) : (s.setF l v).free = s.free := rfl
@[simp] theorem State.setF_arb (s : State) (l : Loc) (v : Nat) : (s.setF l v).arb = s.arb := rfl
@[simp] theorem State.setF_drainW (s : State) (l : Loc) (v : Nat) : (s.setF l v).drainW = s.drainW := rfl
@[simp] theorem State.setF_drainE (s : State) (l : Loc) (v : Nat) : (s.setF l v).drainE = s.drainE := rfl
@[simp] theorem State.setF_memW (s : State) (l : Loc) (v : Nat) : (s.setF l v).memW = s.memW := rfl
@[simp] theorem State.setF_memE (s : State) (l : Loc) (v : Nat) : (s.setF l v).memE = s.memE := rfl
@[simp] theorem State.setF_fills (s : State) (l : Loc) (v : Nat) : (s.setF l v).fills = s.fills := rfl
@[simp] theorem State.setF_torusW (s : State) (l : Loc) (v : Nat) : (s.setF l v).torusW = s.torusW := rfl
@[simp] theorem State.setF_torusH (s : State) (l : Loc) (v : Nat) : (s.setF l v).torusH = s.torusH := rfl
@[simp] theorem State.setF_aonPhase (s : State) (l : Loc) (v : Nat) : (s.setF l v).aonPhase = s.aonPhase := rfl
@[simp] theorem State.setF_refStart (s : State) (l : Loc) (v : Nat) : (s.setF l v).refStart = s.refStart := rfl
@[simp] theorem State.setF_portTurn (s : State) (l : Loc) (v : Nat) : (s.setF l v).portTurn = s.portTurn := rfl
@[simp] theorem State.setF_pins (s : State) (l : Loc) (v : Nat) : (s.setF l v).pins = s.pins := rfl

/-! ### add -/

@[simp] theorem State.add_mem (s : State) (l : Loc) (k : Nat) : (s.add l k).mem = s.mem := rfl
@[simp] theorem State.add_tiles (s : State) (l : Loc) (k : Nat) : (s.add l k).tiles = s.tiles := rfl
@[simp] theorem State.add_clusters (s : State) (l : Loc) (k : Nat) : (s.add l k).clusters = s.clusters := rfl
@[simp] theorem State.add_flights (s : State) (l : Loc) (k : Nat) : (s.add l k).flights = s.flights := rfl
@[simp] theorem State.add_psums (s : State) (l : Loc) (k : Nat) : (s.add l k).psums = s.psums := rfl
@[simp] theorem State.add_counts (s : State) (l : Loc) (k : Nat) : (s.add l k).counts = s.counts := rfl
@[simp] theorem State.add_sinkStep (s : State) (l : Loc) (k : Nat) : (s.add l k).sinkStep = s.sinkStep := rfl
@[simp] theorem State.add_collarStep (s : State) (l : Loc) (k : Nat) : (s.add l k).collarStep = s.collarStep := rfl
@[simp] theorem State.add_ctl (s : State) (l : Loc) (k : Nat) : (s.add l k).ctl = s.ctl := rfl
@[simp] theorem State.add_tb (s : State) (l : Loc) (k : Nat) : (s.add l k).tb = s.tb := rfl
@[simp] theorem State.add_ext (s : State) (l : Loc) (k : Nat) : (s.add l k).ext = s.ext := rfl
@[simp] theorem State.add_memq (s : State) (l : Loc) (k : Nat) : (s.add l k).memq = s.memq := rfl
@[simp] theorem State.add_answers (s : State) (l : Loc) (k : Nat) : (s.add l k).answers = s.answers := rfl
@[simp] theorem State.add_cores (s : State) (l : Loc) (k : Nat) : (s.add l k).cores = s.cores := rfl
@[simp] theorem State.add_fwmask (s : State) (l : Loc) (k : Nat) : (s.add l k).fwmask = s.fwmask := rfl
@[simp] theorem State.add_ready (s : State) (l : Loc) (k : Nat) : (s.add l k).ready = s.ready := rfl
@[simp] theorem State.add_foot (s : State) (l : Loc) (k : Nat) : (s.add l k).foot = s.foot := rfl
@[simp] theorem State.add_recs (s : State) (l : Loc) (k : Nat) : (s.add l k).recs = s.recs := rfl
@[simp] theorem State.add_recWin (s : State) (l : Loc) (k : Nat) : (s.add l k).recWin = s.recWin := rfl
@[simp] theorem State.add_ties (s : State) (l : Loc) (k : Nat) : (s.add l k).ties = s.ties := rfl
@[simp] theorem State.add_tmr (s : State) (l : Loc) (k : Nat) : (s.add l k).tmr = s.tmr := rfl
@[simp] theorem State.add_snaps (s : State) (l : Loc) (k : Nat) : (s.add l k).snaps = s.snaps := rfl
@[simp] theorem State.add_slewPhase (s : State) (l : Loc) (k : Nat) : (s.add l k).slewPhase = s.slewPhase := rfl
@[simp] theorem State.add_sports (s : State) (l : Loc) (k : Nat) : (s.add l k).sports = s.sports := rfl
@[simp] theorem State.add_host (s : State) (l : Loc) (k : Nat) : (s.add l k).host = s.host := rfl
@[simp] theorem State.add_net (s : State) (l : Loc) (k : Nat) : (s.add l k).net = s.net := rfl
@[simp] theorem State.add_linkmap (s : State) (l : Loc) (k : Nat) : (s.add l k).linkmap = s.linkmap := rfl
@[simp] theorem State.add_krows (s : State) (l : Loc) (k : Nat) : (s.add l k).krows = s.krows := rfl
@[simp] theorem State.add_kparts (s : State) (l : Loc) (k : Nat) : (s.add l k).kparts = s.kparts := rfl
@[simp] theorem State.add_kslices (s : State) (l : Loc) (k : Nat) : (s.add l k).kslices = s.kslices := rfl
@[simp] theorem State.add_kring (s : State) (l : Loc) (k : Nat) : (s.add l k).kring = s.kring := rfl
@[simp] theorem State.add_fuse (s : State) (l : Loc) (k : Nat) : (s.add l k).fuse = s.fuse := rfl
@[simp] theorem State.add_boot (s : State) (l : Loc) (k : Nat) : (s.add l k).boot = s.boot := rfl
@[simp] theorem State.add_power (s : State) (l : Loc) (k : Nat) : (s.add l k).power = s.power := rfl
@[simp] theorem State.add_spi (s : State) (l : Loc) (k : Nat) : (s.add l k).spi = s.spi := rfl
@[simp] theorem State.add_secure (s : State) (l : Loc) (k : Nat) : (s.add l k).secure = s.secure := rfl
@[simp] theorem State.add_pending (s : State) (l : Loc) (k : Nat) : (s.add l k).pending = s.pending := rfl
@[simp] theorem State.add_free (s : State) (l : Loc) (k : Nat) : (s.add l k).free = s.free := rfl
@[simp] theorem State.add_arb (s : State) (l : Loc) (k : Nat) : (s.add l k).arb = s.arb := rfl
@[simp] theorem State.add_drainW (s : State) (l : Loc) (k : Nat) : (s.add l k).drainW = s.drainW := rfl
@[simp] theorem State.add_drainE (s : State) (l : Loc) (k : Nat) : (s.add l k).drainE = s.drainE := rfl
@[simp] theorem State.add_memW (s : State) (l : Loc) (k : Nat) : (s.add l k).memW = s.memW := rfl
@[simp] theorem State.add_memE (s : State) (l : Loc) (k : Nat) : (s.add l k).memE = s.memE := rfl
@[simp] theorem State.add_fills (s : State) (l : Loc) (k : Nat) : (s.add l k).fills = s.fills := rfl
@[simp] theorem State.add_torusW (s : State) (l : Loc) (k : Nat) : (s.add l k).torusW = s.torusW := rfl
@[simp] theorem State.add_torusH (s : State) (l : Loc) (k : Nat) : (s.add l k).torusH = s.torusH := rfl
@[simp] theorem State.add_aonPhase (s : State) (l : Loc) (k : Nat) : (s.add l k).aonPhase = s.aonPhase := rfl
@[simp] theorem State.add_refStart (s : State) (l : Loc) (k : Nat) : (s.add l k).refStart = s.refStart := rfl
@[simp] theorem State.add_portTurn (s : State) (l : Loc) (k : Nat) : (s.add l k).portTurn = s.portTurn := rfl
@[simp] theorem State.add_pins (s : State) (l : Loc) (k : Nat) : (s.add l k).pins = s.pins := rfl

/-! ### inc -/

@[simp] theorem State.inc_mem (s : State) (l : Loc) : (s.inc l).mem = s.mem := rfl
@[simp] theorem State.inc_tiles (s : State) (l : Loc) : (s.inc l).tiles = s.tiles := rfl
@[simp] theorem State.inc_clusters (s : State) (l : Loc) : (s.inc l).clusters = s.clusters := rfl
@[simp] theorem State.inc_flights (s : State) (l : Loc) : (s.inc l).flights = s.flights := rfl
@[simp] theorem State.inc_psums (s : State) (l : Loc) : (s.inc l).psums = s.psums := rfl
@[simp] theorem State.inc_counts (s : State) (l : Loc) : (s.inc l).counts = s.counts := rfl
@[simp] theorem State.inc_sinkStep (s : State) (l : Loc) : (s.inc l).sinkStep = s.sinkStep := rfl
@[simp] theorem State.inc_collarStep (s : State) (l : Loc) : (s.inc l).collarStep = s.collarStep := rfl
@[simp] theorem State.inc_ctl (s : State) (l : Loc) : (s.inc l).ctl = s.ctl := rfl
@[simp] theorem State.inc_tb (s : State) (l : Loc) : (s.inc l).tb = s.tb := rfl
@[simp] theorem State.inc_ext (s : State) (l : Loc) : (s.inc l).ext = s.ext := rfl
@[simp] theorem State.inc_memq (s : State) (l : Loc) : (s.inc l).memq = s.memq := rfl
@[simp] theorem State.inc_answers (s : State) (l : Loc) : (s.inc l).answers = s.answers := rfl
@[simp] theorem State.inc_cores (s : State) (l : Loc) : (s.inc l).cores = s.cores := rfl
@[simp] theorem State.inc_fwmask (s : State) (l : Loc) : (s.inc l).fwmask = s.fwmask := rfl
@[simp] theorem State.inc_ready (s : State) (l : Loc) : (s.inc l).ready = s.ready := rfl
@[simp] theorem State.inc_foot (s : State) (l : Loc) : (s.inc l).foot = s.foot := rfl
@[simp] theorem State.inc_recs (s : State) (l : Loc) : (s.inc l).recs = s.recs := rfl
@[simp] theorem State.inc_recWin (s : State) (l : Loc) : (s.inc l).recWin = s.recWin := rfl
@[simp] theorem State.inc_ties (s : State) (l : Loc) : (s.inc l).ties = s.ties := rfl
@[simp] theorem State.inc_tmr (s : State) (l : Loc) : (s.inc l).tmr = s.tmr := rfl
@[simp] theorem State.inc_snaps (s : State) (l : Loc) : (s.inc l).snaps = s.snaps := rfl
@[simp] theorem State.inc_slewPhase (s : State) (l : Loc) : (s.inc l).slewPhase = s.slewPhase := rfl
@[simp] theorem State.inc_sports (s : State) (l : Loc) : (s.inc l).sports = s.sports := rfl
@[simp] theorem State.inc_host (s : State) (l : Loc) : (s.inc l).host = s.host := rfl
@[simp] theorem State.inc_net (s : State) (l : Loc) : (s.inc l).net = s.net := rfl
@[simp] theorem State.inc_linkmap (s : State) (l : Loc) : (s.inc l).linkmap = s.linkmap := rfl
@[simp] theorem State.inc_krows (s : State) (l : Loc) : (s.inc l).krows = s.krows := rfl
@[simp] theorem State.inc_kparts (s : State) (l : Loc) : (s.inc l).kparts = s.kparts := rfl
@[simp] theorem State.inc_kslices (s : State) (l : Loc) : (s.inc l).kslices = s.kslices := rfl
@[simp] theorem State.inc_kring (s : State) (l : Loc) : (s.inc l).kring = s.kring := rfl
@[simp] theorem State.inc_fuse (s : State) (l : Loc) : (s.inc l).fuse = s.fuse := rfl
@[simp] theorem State.inc_boot (s : State) (l : Loc) : (s.inc l).boot = s.boot := rfl
@[simp] theorem State.inc_power (s : State) (l : Loc) : (s.inc l).power = s.power := rfl
@[simp] theorem State.inc_spi (s : State) (l : Loc) : (s.inc l).spi = s.spi := rfl
@[simp] theorem State.inc_secure (s : State) (l : Loc) : (s.inc l).secure = s.secure := rfl
@[simp] theorem State.inc_pending (s : State) (l : Loc) : (s.inc l).pending = s.pending := rfl
@[simp] theorem State.inc_free (s : State) (l : Loc) : (s.inc l).free = s.free := rfl
@[simp] theorem State.inc_arb (s : State) (l : Loc) : (s.inc l).arb = s.arb := rfl
@[simp] theorem State.inc_drainW (s : State) (l : Loc) : (s.inc l).drainW = s.drainW := rfl
@[simp] theorem State.inc_drainE (s : State) (l : Loc) : (s.inc l).drainE = s.drainE := rfl
@[simp] theorem State.inc_memW (s : State) (l : Loc) : (s.inc l).memW = s.memW := rfl
@[simp] theorem State.inc_memE (s : State) (l : Loc) : (s.inc l).memE = s.memE := rfl
@[simp] theorem State.inc_fills (s : State) (l : Loc) : (s.inc l).fills = s.fills := rfl
@[simp] theorem State.inc_torusW (s : State) (l : Loc) : (s.inc l).torusW = s.torusW := rfl
@[simp] theorem State.inc_torusH (s : State) (l : Loc) : (s.inc l).torusH = s.torusH := rfl
@[simp] theorem State.inc_aonPhase (s : State) (l : Loc) : (s.inc l).aonPhase = s.aonPhase := rfl
@[simp] theorem State.inc_refStart (s : State) (l : Loc) : (s.inc l).refStart = s.refStart := rfl
@[simp] theorem State.inc_portTurn (s : State) (l : Loc) : (s.inc l).portTurn = s.portTurn := rfl
@[simp] theorem State.inc_pins (s : State) (l : Loc) : (s.inc l).pins = s.pins := rfl

/-! ### resetRegs -/

@[simp] theorem State.resetRegs_mem (s : State) (lo hi : Nat) : (s.resetRegs lo hi).mem = s.mem := rfl
@[simp] theorem State.resetRegs_tiles (s : State) (lo hi : Nat) : (s.resetRegs lo hi).tiles = s.tiles := rfl
@[simp] theorem State.resetRegs_clusters (s : State) (lo hi : Nat) : (s.resetRegs lo hi).clusters = s.clusters := rfl
@[simp] theorem State.resetRegs_flights (s : State) (lo hi : Nat) : (s.resetRegs lo hi).flights = s.flights := rfl
@[simp] theorem State.resetRegs_psums (s : State) (lo hi : Nat) : (s.resetRegs lo hi).psums = s.psums := rfl
@[simp] theorem State.resetRegs_counts (s : State) (lo hi : Nat) : (s.resetRegs lo hi).counts = s.counts := rfl
@[simp] theorem State.resetRegs_sinkStep (s : State) (lo hi : Nat) : (s.resetRegs lo hi).sinkStep = s.sinkStep := rfl
@[simp] theorem State.resetRegs_collarStep (s : State) (lo hi : Nat) : (s.resetRegs lo hi).collarStep = s.collarStep := rfl
@[simp] theorem State.resetRegs_ctl (s : State) (lo hi : Nat) : (s.resetRegs lo hi).ctl = s.ctl := rfl
@[simp] theorem State.resetRegs_tb (s : State) (lo hi : Nat) : (s.resetRegs lo hi).tb = s.tb := rfl
@[simp] theorem State.resetRegs_ext (s : State) (lo hi : Nat) : (s.resetRegs lo hi).ext = s.ext := rfl
@[simp] theorem State.resetRegs_memq (s : State) (lo hi : Nat) : (s.resetRegs lo hi).memq = s.memq := rfl
@[simp] theorem State.resetRegs_answers (s : State) (lo hi : Nat) : (s.resetRegs lo hi).answers = s.answers := rfl
@[simp] theorem State.resetRegs_cores (s : State) (lo hi : Nat) : (s.resetRegs lo hi).cores = s.cores := rfl
@[simp] theorem State.resetRegs_fwmask (s : State) (lo hi : Nat) : (s.resetRegs lo hi).fwmask = s.fwmask := rfl
@[simp] theorem State.resetRegs_ready (s : State) (lo hi : Nat) : (s.resetRegs lo hi).ready = s.ready := rfl
@[simp] theorem State.resetRegs_foot (s : State) (lo hi : Nat) : (s.resetRegs lo hi).foot = s.foot := rfl
@[simp] theorem State.resetRegs_recs (s : State) (lo hi : Nat) : (s.resetRegs lo hi).recs = s.recs := rfl
@[simp] theorem State.resetRegs_recWin (s : State) (lo hi : Nat) : (s.resetRegs lo hi).recWin = s.recWin := rfl
@[simp] theorem State.resetRegs_ties (s : State) (lo hi : Nat) : (s.resetRegs lo hi).ties = s.ties := rfl
@[simp] theorem State.resetRegs_tmr (s : State) (lo hi : Nat) : (s.resetRegs lo hi).tmr = s.tmr := rfl
@[simp] theorem State.resetRegs_snaps (s : State) (lo hi : Nat) : (s.resetRegs lo hi).snaps = s.snaps := rfl
@[simp] theorem State.resetRegs_slewPhase (s : State) (lo hi : Nat) : (s.resetRegs lo hi).slewPhase = s.slewPhase := rfl
@[simp] theorem State.resetRegs_sports (s : State) (lo hi : Nat) : (s.resetRegs lo hi).sports = s.sports := rfl
@[simp] theorem State.resetRegs_host (s : State) (lo hi : Nat) : (s.resetRegs lo hi).host = s.host := rfl
@[simp] theorem State.resetRegs_net (s : State) (lo hi : Nat) : (s.resetRegs lo hi).net = s.net := rfl
@[simp] theorem State.resetRegs_linkmap (s : State) (lo hi : Nat) : (s.resetRegs lo hi).linkmap = s.linkmap := rfl
@[simp] theorem State.resetRegs_krows (s : State) (lo hi : Nat) : (s.resetRegs lo hi).krows = s.krows := rfl
@[simp] theorem State.resetRegs_kparts (s : State) (lo hi : Nat) : (s.resetRegs lo hi).kparts = s.kparts := rfl
@[simp] theorem State.resetRegs_kslices (s : State) (lo hi : Nat) : (s.resetRegs lo hi).kslices = s.kslices := rfl
@[simp] theorem State.resetRegs_kring (s : State) (lo hi : Nat) : (s.resetRegs lo hi).kring = s.kring := rfl
@[simp] theorem State.resetRegs_fuse (s : State) (lo hi : Nat) : (s.resetRegs lo hi).fuse = s.fuse := rfl
@[simp] theorem State.resetRegs_boot (s : State) (lo hi : Nat) : (s.resetRegs lo hi).boot = s.boot := rfl
@[simp] theorem State.resetRegs_power (s : State) (lo hi : Nat) : (s.resetRegs lo hi).power = s.power := rfl
@[simp] theorem State.resetRegs_spi (s : State) (lo hi : Nat) : (s.resetRegs lo hi).spi = s.spi := rfl
@[simp] theorem State.resetRegs_secure (s : State) (lo hi : Nat) : (s.resetRegs lo hi).secure = s.secure := rfl
@[simp] theorem State.resetRegs_pending (s : State) (lo hi : Nat) : (s.resetRegs lo hi).pending = s.pending := rfl
@[simp] theorem State.resetRegs_free (s : State) (lo hi : Nat) : (s.resetRegs lo hi).free = s.free := rfl
@[simp] theorem State.resetRegs_arb (s : State) (lo hi : Nat) : (s.resetRegs lo hi).arb = s.arb := rfl
@[simp] theorem State.resetRegs_drainW (s : State) (lo hi : Nat) : (s.resetRegs lo hi).drainW = s.drainW := rfl
@[simp] theorem State.resetRegs_drainE (s : State) (lo hi : Nat) : (s.resetRegs lo hi).drainE = s.drainE := rfl
@[simp] theorem State.resetRegs_memW (s : State) (lo hi : Nat) : (s.resetRegs lo hi).memW = s.memW := rfl
@[simp] theorem State.resetRegs_memE (s : State) (lo hi : Nat) : (s.resetRegs lo hi).memE = s.memE := rfl
@[simp] theorem State.resetRegs_fills (s : State) (lo hi : Nat) : (s.resetRegs lo hi).fills = s.fills := rfl
@[simp] theorem State.resetRegs_torusW (s : State) (lo hi : Nat) : (s.resetRegs lo hi).torusW = s.torusW := rfl
@[simp] theorem State.resetRegs_torusH (s : State) (lo hi : Nat) : (s.resetRegs lo hi).torusH = s.torusH := rfl
@[simp] theorem State.resetRegs_aonPhase (s : State) (lo hi : Nat) : (s.resetRegs lo hi).aonPhase = s.aonPhase := rfl
@[simp] theorem State.resetRegs_refStart (s : State) (lo hi : Nat) : (s.resetRegs lo hi).refStart = s.refStart := rfl
@[simp] theorem State.resetRegs_portTurn (s : State) (lo hi : Nat) : (s.resetRegs lo hi).portTurn = s.portTurn := rfl
@[simp] theorem State.resetRegs_pins (s : State) (lo hi : Nat) : (s.resetRegs lo hi).pins = s.pins := rfl

/-! ### st8 -/

@[simp] theorem State.st8_regs (s : State) (a v : Nat) : (s.st8 a v).regs = s.regs := rfl
@[simp] theorem State.st8_tiles (s : State) (a v : Nat) : (s.st8 a v).tiles = s.tiles := rfl
@[simp] theorem State.st8_clusters (s : State) (a v : Nat) : (s.st8 a v).clusters = s.clusters := rfl
@[simp] theorem State.st8_flights (s : State) (a v : Nat) : (s.st8 a v).flights = s.flights := rfl
@[simp] theorem State.st8_psums (s : State) (a v : Nat) : (s.st8 a v).psums = s.psums := rfl
@[simp] theorem State.st8_counts (s : State) (a v : Nat) : (s.st8 a v).counts = s.counts := rfl
@[simp] theorem State.st8_sinkStep (s : State) (a v : Nat) : (s.st8 a v).sinkStep = s.sinkStep := rfl
@[simp] theorem State.st8_collarStep (s : State) (a v : Nat) : (s.st8 a v).collarStep = s.collarStep := rfl
@[simp] theorem State.st8_ctl (s : State) (a v : Nat) : (s.st8 a v).ctl = s.ctl := rfl
@[simp] theorem State.st8_tb (s : State) (a v : Nat) : (s.st8 a v).tb = s.tb := rfl
@[simp] theorem State.st8_ext (s : State) (a v : Nat) : (s.st8 a v).ext = s.ext := rfl
@[simp] theorem State.st8_memq (s : State) (a v : Nat) : (s.st8 a v).memq = s.memq := rfl
@[simp] theorem State.st8_answers (s : State) (a v : Nat) : (s.st8 a v).answers = s.answers := rfl
@[simp] theorem State.st8_cores (s : State) (a v : Nat) : (s.st8 a v).cores = s.cores := rfl
@[simp] theorem State.st8_fwmask (s : State) (a v : Nat) : (s.st8 a v).fwmask = s.fwmask := rfl
@[simp] theorem State.st8_ready (s : State) (a v : Nat) : (s.st8 a v).ready = s.ready := rfl
@[simp] theorem State.st8_foot (s : State) (a v : Nat) : (s.st8 a v).foot = s.foot := rfl
@[simp] theorem State.st8_recs (s : State) (a v : Nat) : (s.st8 a v).recs = s.recs := rfl
@[simp] theorem State.st8_recWin (s : State) (a v : Nat) : (s.st8 a v).recWin = s.recWin := rfl
@[simp] theorem State.st8_ties (s : State) (a v : Nat) : (s.st8 a v).ties = s.ties := rfl
@[simp] theorem State.st8_tmr (s : State) (a v : Nat) : (s.st8 a v).tmr = s.tmr := rfl
@[simp] theorem State.st8_snaps (s : State) (a v : Nat) : (s.st8 a v).snaps = s.snaps := rfl
@[simp] theorem State.st8_slewPhase (s : State) (a v : Nat) : (s.st8 a v).slewPhase = s.slewPhase := rfl
@[simp] theorem State.st8_sports (s : State) (a v : Nat) : (s.st8 a v).sports = s.sports := rfl
@[simp] theorem State.st8_host (s : State) (a v : Nat) : (s.st8 a v).host = s.host := rfl
@[simp] theorem State.st8_net (s : State) (a v : Nat) : (s.st8 a v).net = s.net := rfl
@[simp] theorem State.st8_linkmap (s : State) (a v : Nat) : (s.st8 a v).linkmap = s.linkmap := rfl
@[simp] theorem State.st8_krows (s : State) (a v : Nat) : (s.st8 a v).krows = s.krows := rfl
@[simp] theorem State.st8_kparts (s : State) (a v : Nat) : (s.st8 a v).kparts = s.kparts := rfl
@[simp] theorem State.st8_kslices (s : State) (a v : Nat) : (s.st8 a v).kslices = s.kslices := rfl
@[simp] theorem State.st8_kring (s : State) (a v : Nat) : (s.st8 a v).kring = s.kring := rfl
@[simp] theorem State.st8_fuse (s : State) (a v : Nat) : (s.st8 a v).fuse = s.fuse := rfl
@[simp] theorem State.st8_boot (s : State) (a v : Nat) : (s.st8 a v).boot = s.boot := rfl
@[simp] theorem State.st8_power (s : State) (a v : Nat) : (s.st8 a v).power = s.power := rfl
@[simp] theorem State.st8_spi (s : State) (a v : Nat) : (s.st8 a v).spi = s.spi := rfl
@[simp] theorem State.st8_secure (s : State) (a v : Nat) : (s.st8 a v).secure = s.secure := rfl
@[simp] theorem State.st8_pending (s : State) (a v : Nat) : (s.st8 a v).pending = s.pending := rfl
@[simp] theorem State.st8_free (s : State) (a v : Nat) : (s.st8 a v).free = s.free := rfl
@[simp] theorem State.st8_arb (s : State) (a v : Nat) : (s.st8 a v).arb = s.arb := rfl
@[simp] theorem State.st8_drainW (s : State) (a v : Nat) : (s.st8 a v).drainW = s.drainW := rfl
@[simp] theorem State.st8_drainE (s : State) (a v : Nat) : (s.st8 a v).drainE = s.drainE := rfl
@[simp] theorem State.st8_memW (s : State) (a v : Nat) : (s.st8 a v).memW = s.memW := rfl
@[simp] theorem State.st8_memE (s : State) (a v : Nat) : (s.st8 a v).memE = s.memE := rfl
@[simp] theorem State.st8_fills (s : State) (a v : Nat) : (s.st8 a v).fills = s.fills := rfl
@[simp] theorem State.st8_torusW (s : State) (a v : Nat) : (s.st8 a v).torusW = s.torusW := rfl
@[simp] theorem State.st8_torusH (s : State) (a v : Nat) : (s.st8 a v).torusH = s.torusH := rfl
@[simp] theorem State.st8_aonPhase (s : State) (a v : Nat) : (s.st8 a v).aonPhase = s.aonPhase := rfl
@[simp] theorem State.st8_refStart (s : State) (a v : Nat) : (s.st8 a v).refStart = s.refStart := rfl
@[simp] theorem State.st8_portTurn (s : State) (a v : Nat) : (s.st8 a v).portTurn = s.portTurn := rfl
@[simp] theorem State.st8_pins (s : State) (a v : Nat) : (s.st8 a v).pins = s.pins := rfl

/-! ### zeroMem -/

@[simp] theorem State.zeroMem_regs (s : State) (lo hi : Nat) : (s.zeroMem lo hi).regs = s.regs := rfl
@[simp] theorem State.zeroMem_tiles (s : State) (lo hi : Nat) : (s.zeroMem lo hi).tiles = s.tiles := rfl
@[simp] theorem State.zeroMem_clusters (s : State) (lo hi : Nat) : (s.zeroMem lo hi).clusters = s.clusters := rfl
@[simp] theorem State.zeroMem_flights (s : State) (lo hi : Nat) : (s.zeroMem lo hi).flights = s.flights := rfl
@[simp] theorem State.zeroMem_psums (s : State) (lo hi : Nat) : (s.zeroMem lo hi).psums = s.psums := rfl
@[simp] theorem State.zeroMem_counts (s : State) (lo hi : Nat) : (s.zeroMem lo hi).counts = s.counts := rfl
@[simp] theorem State.zeroMem_sinkStep (s : State) (lo hi : Nat) : (s.zeroMem lo hi).sinkStep = s.sinkStep := rfl
@[simp] theorem State.zeroMem_collarStep (s : State) (lo hi : Nat) : (s.zeroMem lo hi).collarStep = s.collarStep := rfl
@[simp] theorem State.zeroMem_ctl (s : State) (lo hi : Nat) : (s.zeroMem lo hi).ctl = s.ctl := rfl
@[simp] theorem State.zeroMem_tb (s : State) (lo hi : Nat) : (s.zeroMem lo hi).tb = s.tb := rfl
@[simp] theorem State.zeroMem_ext (s : State) (lo hi : Nat) : (s.zeroMem lo hi).ext = s.ext := rfl
@[simp] theorem State.zeroMem_memq (s : State) (lo hi : Nat) : (s.zeroMem lo hi).memq = s.memq := rfl
@[simp] theorem State.zeroMem_answers (s : State) (lo hi : Nat) : (s.zeroMem lo hi).answers = s.answers := rfl
@[simp] theorem State.zeroMem_cores (s : State) (lo hi : Nat) : (s.zeroMem lo hi).cores = s.cores := rfl
@[simp] theorem State.zeroMem_fwmask (s : State) (lo hi : Nat) : (s.zeroMem lo hi).fwmask = s.fwmask := rfl
@[simp] theorem State.zeroMem_ready (s : State) (lo hi : Nat) : (s.zeroMem lo hi).ready = s.ready := rfl
@[simp] theorem State.zeroMem_foot (s : State) (lo hi : Nat) : (s.zeroMem lo hi).foot = s.foot := rfl
@[simp] theorem State.zeroMem_recs (s : State) (lo hi : Nat) : (s.zeroMem lo hi).recs = s.recs := rfl
@[simp] theorem State.zeroMem_recWin (s : State) (lo hi : Nat) : (s.zeroMem lo hi).recWin = s.recWin := rfl
@[simp] theorem State.zeroMem_ties (s : State) (lo hi : Nat) : (s.zeroMem lo hi).ties = s.ties := rfl
@[simp] theorem State.zeroMem_tmr (s : State) (lo hi : Nat) : (s.zeroMem lo hi).tmr = s.tmr := rfl
@[simp] theorem State.zeroMem_snaps (s : State) (lo hi : Nat) : (s.zeroMem lo hi).snaps = s.snaps := rfl
@[simp] theorem State.zeroMem_slewPhase (s : State) (lo hi : Nat) : (s.zeroMem lo hi).slewPhase = s.slewPhase := rfl
@[simp] theorem State.zeroMem_sports (s : State) (lo hi : Nat) : (s.zeroMem lo hi).sports = s.sports := rfl
@[simp] theorem State.zeroMem_host (s : State) (lo hi : Nat) : (s.zeroMem lo hi).host = s.host := rfl
@[simp] theorem State.zeroMem_net (s : State) (lo hi : Nat) : (s.zeroMem lo hi).net = s.net := rfl
@[simp] theorem State.zeroMem_linkmap (s : State) (lo hi : Nat) : (s.zeroMem lo hi).linkmap = s.linkmap := rfl
@[simp] theorem State.zeroMem_krows (s : State) (lo hi : Nat) : (s.zeroMem lo hi).krows = s.krows := rfl
@[simp] theorem State.zeroMem_kparts (s : State) (lo hi : Nat) : (s.zeroMem lo hi).kparts = s.kparts := rfl
@[simp] theorem State.zeroMem_kslices (s : State) (lo hi : Nat) : (s.zeroMem lo hi).kslices = s.kslices := rfl
@[simp] theorem State.zeroMem_kring (s : State) (lo hi : Nat) : (s.zeroMem lo hi).kring = s.kring := rfl
@[simp] theorem State.zeroMem_fuse (s : State) (lo hi : Nat) : (s.zeroMem lo hi).fuse = s.fuse := rfl
@[simp] theorem State.zeroMem_boot (s : State) (lo hi : Nat) : (s.zeroMem lo hi).boot = s.boot := rfl
@[simp] theorem State.zeroMem_power (s : State) (lo hi : Nat) : (s.zeroMem lo hi).power = s.power := rfl
@[simp] theorem State.zeroMem_spi (s : State) (lo hi : Nat) : (s.zeroMem lo hi).spi = s.spi := rfl
@[simp] theorem State.zeroMem_secure (s : State) (lo hi : Nat) : (s.zeroMem lo hi).secure = s.secure := rfl
@[simp] theorem State.zeroMem_pending (s : State) (lo hi : Nat) : (s.zeroMem lo hi).pending = s.pending := rfl
@[simp] theorem State.zeroMem_free (s : State) (lo hi : Nat) : (s.zeroMem lo hi).free = s.free := rfl
@[simp] theorem State.zeroMem_arb (s : State) (lo hi : Nat) : (s.zeroMem lo hi).arb = s.arb := rfl
@[simp] theorem State.zeroMem_drainW (s : State) (lo hi : Nat) : (s.zeroMem lo hi).drainW = s.drainW := rfl
@[simp] theorem State.zeroMem_drainE (s : State) (lo hi : Nat) : (s.zeroMem lo hi).drainE = s.drainE := rfl
@[simp] theorem State.zeroMem_memW (s : State) (lo hi : Nat) : (s.zeroMem lo hi).memW = s.memW := rfl
@[simp] theorem State.zeroMem_memE (s : State) (lo hi : Nat) : (s.zeroMem lo hi).memE = s.memE := rfl
@[simp] theorem State.zeroMem_fills (s : State) (lo hi : Nat) : (s.zeroMem lo hi).fills = s.fills := rfl
@[simp] theorem State.zeroMem_torusW (s : State) (lo hi : Nat) : (s.zeroMem lo hi).torusW = s.torusW := rfl
@[simp] theorem State.zeroMem_torusH (s : State) (lo hi : Nat) : (s.zeroMem lo hi).torusH = s.torusH := rfl
@[simp] theorem State.zeroMem_aonPhase (s : State) (lo hi : Nat) : (s.zeroMem lo hi).aonPhase = s.aonPhase := rfl
@[simp] theorem State.zeroMem_refStart (s : State) (lo hi : Nat) : (s.zeroMem lo hi).refStart = s.refStart := rfl
@[simp] theorem State.zeroMem_portTurn (s : State) (lo hi : Nat) : (s.zeroMem lo hi).portTurn = s.portTurn := rfl
@[simp] theorem State.zeroMem_pins (s : State) (lo hi : Nat) : (s.zeroMem lo hi).pins = s.pins := rfl

/-! ### setTile -/

@[simp] theorem State.setTile_regs (s : State) (t : Nat) (x : Tile) : (s.setTile t x).regs = s.regs := rfl
@[simp] theorem State.setTile_mem (s : State) (t : Nat) (x : Tile) : (s.setTile t x).mem = s.mem := rfl
@[simp] theorem State.setTile_clusters (s : State) (t : Nat) (x : Tile) : (s.setTile t x).clusters = s.clusters := rfl
@[simp] theorem State.setTile_flights (s : State) (t : Nat) (x : Tile) : (s.setTile t x).flights = s.flights := rfl
@[simp] theorem State.setTile_psums (s : State) (t : Nat) (x : Tile) : (s.setTile t x).psums = s.psums := rfl
@[simp] theorem State.setTile_counts (s : State) (t : Nat) (x : Tile) : (s.setTile t x).counts = s.counts := rfl
@[simp] theorem State.setTile_sinkStep (s : State) (t : Nat) (x : Tile) : (s.setTile t x).sinkStep = s.sinkStep := rfl
@[simp] theorem State.setTile_collarStep (s : State) (t : Nat) (x : Tile) : (s.setTile t x).collarStep = s.collarStep := rfl
@[simp] theorem State.setTile_ctl (s : State) (t : Nat) (x : Tile) : (s.setTile t x).ctl = s.ctl := rfl
@[simp] theorem State.setTile_tb (s : State) (t : Nat) (x : Tile) : (s.setTile t x).tb = s.tb := rfl
@[simp] theorem State.setTile_ext (s : State) (t : Nat) (x : Tile) : (s.setTile t x).ext = s.ext := rfl
@[simp] theorem State.setTile_memq (s : State) (t : Nat) (x : Tile) : (s.setTile t x).memq = s.memq := rfl
@[simp] theorem State.setTile_answers (s : State) (t : Nat) (x : Tile) : (s.setTile t x).answers = s.answers := rfl
@[simp] theorem State.setTile_cores (s : State) (t : Nat) (x : Tile) : (s.setTile t x).cores = s.cores := rfl
@[simp] theorem State.setTile_fwmask (s : State) (t : Nat) (x : Tile) : (s.setTile t x).fwmask = s.fwmask := rfl
@[simp] theorem State.setTile_ready (s : State) (t : Nat) (x : Tile) : (s.setTile t x).ready = s.ready := rfl
@[simp] theorem State.setTile_foot (s : State) (t : Nat) (x : Tile) : (s.setTile t x).foot = s.foot := rfl
@[simp] theorem State.setTile_recs (s : State) (t : Nat) (x : Tile) : (s.setTile t x).recs = s.recs := rfl
@[simp] theorem State.setTile_recWin (s : State) (t : Nat) (x : Tile) : (s.setTile t x).recWin = s.recWin := rfl
@[simp] theorem State.setTile_ties (s : State) (t : Nat) (x : Tile) : (s.setTile t x).ties = s.ties := rfl
@[simp] theorem State.setTile_tmr (s : State) (t : Nat) (x : Tile) : (s.setTile t x).tmr = s.tmr := rfl
@[simp] theorem State.setTile_snaps (s : State) (t : Nat) (x : Tile) : (s.setTile t x).snaps = s.snaps := rfl
@[simp] theorem State.setTile_slewPhase (s : State) (t : Nat) (x : Tile) : (s.setTile t x).slewPhase = s.slewPhase := rfl
@[simp] theorem State.setTile_sports (s : State) (t : Nat) (x : Tile) : (s.setTile t x).sports = s.sports := rfl
@[simp] theorem State.setTile_host (s : State) (t : Nat) (x : Tile) : (s.setTile t x).host = s.host := rfl
@[simp] theorem State.setTile_net (s : State) (t : Nat) (x : Tile) : (s.setTile t x).net = s.net := rfl
@[simp] theorem State.setTile_linkmap (s : State) (t : Nat) (x : Tile) : (s.setTile t x).linkmap = s.linkmap := rfl
@[simp] theorem State.setTile_krows (s : State) (t : Nat) (x : Tile) : (s.setTile t x).krows = s.krows := rfl
@[simp] theorem State.setTile_kparts (s : State) (t : Nat) (x : Tile) : (s.setTile t x).kparts = s.kparts := rfl
@[simp] theorem State.setTile_kslices (s : State) (t : Nat) (x : Tile) : (s.setTile t x).kslices = s.kslices := rfl
@[simp] theorem State.setTile_kring (s : State) (t : Nat) (x : Tile) : (s.setTile t x).kring = s.kring := rfl
@[simp] theorem State.setTile_fuse (s : State) (t : Nat) (x : Tile) : (s.setTile t x).fuse = s.fuse := rfl
@[simp] theorem State.setTile_boot (s : State) (t : Nat) (x : Tile) : (s.setTile t x).boot = s.boot := rfl
@[simp] theorem State.setTile_power (s : State) (t : Nat) (x : Tile) : (s.setTile t x).power = s.power := rfl
@[simp] theorem State.setTile_spi (s : State) (t : Nat) (x : Tile) : (s.setTile t x).spi = s.spi := rfl
@[simp] theorem State.setTile_secure (s : State) (t : Nat) (x : Tile) : (s.setTile t x).secure = s.secure := rfl
@[simp] theorem State.setTile_pending (s : State) (t : Nat) (x : Tile) : (s.setTile t x).pending = s.pending := rfl
@[simp] theorem State.setTile_free (s : State) (t : Nat) (x : Tile) : (s.setTile t x).free = s.free := rfl
@[simp] theorem State.setTile_arb (s : State) (t : Nat) (x : Tile) : (s.setTile t x).arb = s.arb := rfl
@[simp] theorem State.setTile_drainW (s : State) (t : Nat) (x : Tile) : (s.setTile t x).drainW = s.drainW := rfl
@[simp] theorem State.setTile_drainE (s : State) (t : Nat) (x : Tile) : (s.setTile t x).drainE = s.drainE := rfl
@[simp] theorem State.setTile_memW (s : State) (t : Nat) (x : Tile) : (s.setTile t x).memW = s.memW := rfl
@[simp] theorem State.setTile_memE (s : State) (t : Nat) (x : Tile) : (s.setTile t x).memE = s.memE := rfl
@[simp] theorem State.setTile_fills (s : State) (t : Nat) (x : Tile) : (s.setTile t x).fills = s.fills := rfl
@[simp] theorem State.setTile_torusW (s : State) (t : Nat) (x : Tile) : (s.setTile t x).torusW = s.torusW := rfl
@[simp] theorem State.setTile_torusH (s : State) (t : Nat) (x : Tile) : (s.setTile t x).torusH = s.torusH := rfl
@[simp] theorem State.setTile_aonPhase (s : State) (t : Nat) (x : Tile) : (s.setTile t x).aonPhase = s.aonPhase := rfl
@[simp] theorem State.setTile_refStart (s : State) (t : Nat) (x : Tile) : (s.setTile t x).refStart = s.refStart := rfl
@[simp] theorem State.setTile_portTurn (s : State) (t : Nat) (x : Tile) : (s.setTile t x).portTurn = s.portTurn := rfl
@[simp] theorem State.setTile_pins (s : State) (t : Nat) (x : Tile) : (s.setTile t x).pins = s.pins := rfl

/-! ### setCluster -/

@[simp] theorem State.setCluster_regs (s : State) (c : Nat) (x : Cluster) : (s.setCluster c x).regs = s.regs := rfl
@[simp] theorem State.setCluster_mem (s : State) (c : Nat) (x : Cluster) : (s.setCluster c x).mem = s.mem := rfl
@[simp] theorem State.setCluster_tiles (s : State) (c : Nat) (x : Cluster) : (s.setCluster c x).tiles = s.tiles := rfl
@[simp] theorem State.setCluster_flights (s : State) (c : Nat) (x : Cluster) : (s.setCluster c x).flights = s.flights := rfl
@[simp] theorem State.setCluster_psums (s : State) (c : Nat) (x : Cluster) : (s.setCluster c x).psums = s.psums := rfl
@[simp] theorem State.setCluster_counts (s : State) (c : Nat) (x : Cluster) : (s.setCluster c x).counts = s.counts := rfl
@[simp] theorem State.setCluster_sinkStep (s : State) (c : Nat) (x : Cluster) : (s.setCluster c x).sinkStep = s.sinkStep := rfl
@[simp] theorem State.setCluster_collarStep (s : State) (c : Nat) (x : Cluster) : (s.setCluster c x).collarStep = s.collarStep := rfl
@[simp] theorem State.setCluster_ctl (s : State) (c : Nat) (x : Cluster) : (s.setCluster c x).ctl = s.ctl := rfl
@[simp] theorem State.setCluster_tb (s : State) (c : Nat) (x : Cluster) : (s.setCluster c x).tb = s.tb := rfl
@[simp] theorem State.setCluster_ext (s : State) (c : Nat) (x : Cluster) : (s.setCluster c x).ext = s.ext := rfl
@[simp] theorem State.setCluster_memq (s : State) (c : Nat) (x : Cluster) : (s.setCluster c x).memq = s.memq := rfl
@[simp] theorem State.setCluster_answers (s : State) (c : Nat) (x : Cluster) : (s.setCluster c x).answers = s.answers := rfl
@[simp] theorem State.setCluster_cores (s : State) (c : Nat) (x : Cluster) : (s.setCluster c x).cores = s.cores := rfl
@[simp] theorem State.setCluster_fwmask (s : State) (c : Nat) (x : Cluster) : (s.setCluster c x).fwmask = s.fwmask := rfl
@[simp] theorem State.setCluster_ready (s : State) (c : Nat) (x : Cluster) : (s.setCluster c x).ready = s.ready := rfl
@[simp] theorem State.setCluster_foot (s : State) (c : Nat) (x : Cluster) : (s.setCluster c x).foot = s.foot := rfl
@[simp] theorem State.setCluster_recs (s : State) (c : Nat) (x : Cluster) : (s.setCluster c x).recs = s.recs := rfl
@[simp] theorem State.setCluster_recWin (s : State) (c : Nat) (x : Cluster) : (s.setCluster c x).recWin = s.recWin := rfl
@[simp] theorem State.setCluster_ties (s : State) (c : Nat) (x : Cluster) : (s.setCluster c x).ties = s.ties := rfl
@[simp] theorem State.setCluster_tmr (s : State) (c : Nat) (x : Cluster) : (s.setCluster c x).tmr = s.tmr := rfl
@[simp] theorem State.setCluster_snaps (s : State) (c : Nat) (x : Cluster) : (s.setCluster c x).snaps = s.snaps := rfl
@[simp] theorem State.setCluster_slewPhase (s : State) (c : Nat) (x : Cluster) : (s.setCluster c x).slewPhase = s.slewPhase := rfl
@[simp] theorem State.setCluster_sports (s : State) (c : Nat) (x : Cluster) : (s.setCluster c x).sports = s.sports := rfl
@[simp] theorem State.setCluster_host (s : State) (c : Nat) (x : Cluster) : (s.setCluster c x).host = s.host := rfl
@[simp] theorem State.setCluster_net (s : State) (c : Nat) (x : Cluster) : (s.setCluster c x).net = s.net := rfl
@[simp] theorem State.setCluster_linkmap (s : State) (c : Nat) (x : Cluster) : (s.setCluster c x).linkmap = s.linkmap := rfl
@[simp] theorem State.setCluster_krows (s : State) (c : Nat) (x : Cluster) : (s.setCluster c x).krows = s.krows := rfl
@[simp] theorem State.setCluster_kparts (s : State) (c : Nat) (x : Cluster) : (s.setCluster c x).kparts = s.kparts := rfl
@[simp] theorem State.setCluster_kslices (s : State) (c : Nat) (x : Cluster) : (s.setCluster c x).kslices = s.kslices := rfl
@[simp] theorem State.setCluster_kring (s : State) (c : Nat) (x : Cluster) : (s.setCluster c x).kring = s.kring := rfl
@[simp] theorem State.setCluster_fuse (s : State) (c : Nat) (x : Cluster) : (s.setCluster c x).fuse = s.fuse := rfl
@[simp] theorem State.setCluster_boot (s : State) (c : Nat) (x : Cluster) : (s.setCluster c x).boot = s.boot := rfl
@[simp] theorem State.setCluster_power (s : State) (c : Nat) (x : Cluster) : (s.setCluster c x).power = s.power := rfl
@[simp] theorem State.setCluster_spi (s : State) (c : Nat) (x : Cluster) : (s.setCluster c x).spi = s.spi := rfl
@[simp] theorem State.setCluster_secure (s : State) (c : Nat) (x : Cluster) : (s.setCluster c x).secure = s.secure := rfl
@[simp] theorem State.setCluster_pending (s : State) (c : Nat) (x : Cluster) : (s.setCluster c x).pending = s.pending := rfl
@[simp] theorem State.setCluster_free (s : State) (c : Nat) (x : Cluster) : (s.setCluster c x).free = s.free := rfl
@[simp] theorem State.setCluster_arb (s : State) (c : Nat) (x : Cluster) : (s.setCluster c x).arb = s.arb := rfl
@[simp] theorem State.setCluster_drainW (s : State) (c : Nat) (x : Cluster) : (s.setCluster c x).drainW = s.drainW := rfl
@[simp] theorem State.setCluster_drainE (s : State) (c : Nat) (x : Cluster) : (s.setCluster c x).drainE = s.drainE := rfl
@[simp] theorem State.setCluster_memW (s : State) (c : Nat) (x : Cluster) : (s.setCluster c x).memW = s.memW := rfl
@[simp] theorem State.setCluster_memE (s : State) (c : Nat) (x : Cluster) : (s.setCluster c x).memE = s.memE := rfl
@[simp] theorem State.setCluster_fills (s : State) (c : Nat) (x : Cluster) : (s.setCluster c x).fills = s.fills := rfl
@[simp] theorem State.setCluster_torusW (s : State) (c : Nat) (x : Cluster) : (s.setCluster c x).torusW = s.torusW := rfl
@[simp] theorem State.setCluster_torusH (s : State) (c : Nat) (x : Cluster) : (s.setCluster c x).torusH = s.torusH := rfl
@[simp] theorem State.setCluster_aonPhase (s : State) (c : Nat) (x : Cluster) : (s.setCluster c x).aonPhase = s.aonPhase := rfl
@[simp] theorem State.setCluster_refStart (s : State) (c : Nat) (x : Cluster) : (s.setCluster c x).refStart = s.refStart := rfl
@[simp] theorem State.setCluster_portTurn (s : State) (c : Nat) (x : Cluster) : (s.setCluster c x).portTurn = s.portTurn := rfl
@[simp] theorem State.setCluster_pins (s : State) (c : Nat) (x : Cluster) : (s.setCluster c x).pins = s.pins := rfl

end Sys2Proof.Machine
end

