-- ==== Sys2Proof/Laws/Ops.lean ====
section
/-! SUPPORT. Everything the named operations over registers, memories, tiles and clusters can do. -/

namespace Sys2Proof.Machine
open Sys2Proof

/-! ## Bit fields -/

theorem bits_lt (n hi lo : Nat) : bits n hi lo < 2 ^ (hi + 1 - lo) := Nat.mod_lt _ (Nat.two_pow_pos _)

/-- A word is what lies above a field, the field, and what lies below it. -/
theorem bits_split (n hi lo : Nat) :
    n = (n / 2 ^ lo / 2 ^ (hi + 1 - lo)) * 2 ^ (hi + 1 - lo) * 2 ^ lo + bits n hi lo * 2 ^ lo + n % 2 ^ lo := by
  have h1 := Nat.div_add_mod n (2 ^ lo)
  have h2 := Nat.div_add_mod (n / 2 ^ lo) (2 ^ (hi + 1 - lo))
  calc n = 2 ^ lo * (n / 2 ^ lo) + n % 2 ^ lo := h1.symm
    _ = 2 ^ lo * (2 ^ (hi + 1 - lo) * (n / 2 ^ lo / 2 ^ (hi + 1 - lo)) + n / 2 ^ lo % 2 ^ (hi + 1 - lo)) + n % 2 ^ lo := by rw [h2]
    _ = _ := by unfold bits; ring

theorem putBits_split (n hi lo v : Nat) :
    putBits n hi lo v =
      ((n / 2 ^ lo / 2 ^ (hi + 1 - lo)) * 2 ^ (hi + 1 - lo) + v % 2 ^ (hi + 1 - lo)) * 2 ^ lo + n % 2 ^ lo := by
  have h := bits_split n hi lo
  have e : putBits n hi lo v = n - bits n hi lo * 2 ^ lo + (v % 2 ^ (hi + 1 - lo)) * 2 ^ lo := rfl
  rw [e, Nat.add_mul]
  generalize bits n hi lo * 2 ^ lo = b at h ⊢
  generalize (n / 2 ^ lo / 2 ^ (hi + 1 - lo)) * 2 ^ (hi + 1 - lo) * 2 ^ lo = t at h ⊢
  generalize n % 2 ^ lo = r at h ⊢
  omega

theorem putBits_div (n hi lo v : Nat) :
    putBits n hi lo v / 2 ^ lo = (n / 2 ^ lo / 2 ^ (hi + 1 - lo)) * 2 ^ (hi + 1 - lo) + v % 2 ^ (hi + 1 - lo) := by
  rw [putBits_split, Nat.add_div_of_dvd_right (Dvd.intro_left _ rfl), Nat.mul_div_cancel _ (Nat.two_pow_pos _),
    Nat.div_eq_of_lt (Nat.mod_lt _ (Nat.two_pow_pos _)), Nat.add_zero]

/-- A field just put reads back. -/
theorem bits_putBits_same (n hi lo v : Nat) : bits (putBits n hi lo v) hi lo = v % 2 ^ (hi + 1 - lo) := by
  unfold bits
  rw [putBits_div, Nat.mul_add_mod', Nat.mod_mod]

/-- Putting a field keeps a word within its width. -/
theorem putBits_lt {n hi lo v w : Nat} (hn : n < 2 ^ w) (hw : hi + 1 ≤ w) (hl : lo ≤ hi + 1) : putBits n hi lo v < 2 ^ w := by
  have hb := putBits_split n hi lo v
  have hs : 2 ^ w = 2 ^ (w - (hi + 1)) * (2 ^ (hi + 1 - lo) * 2 ^ lo) := by
    rw [← pow_add, ← pow_add]; congr 1; omega
  have hq : n / 2 ^ lo / 2 ^ (hi + 1 - lo) < 2 ^ (w - (hi + 1)) := by
    rw [Nat.div_div_eq_div_mul, Nat.div_lt_iff_lt_mul (by positivity), Nat.mul_comm (2 ^ lo)]
    exact hs ▸ hn
  have hv : v % 2 ^ (hi + 1 - lo) < 2 ^ (hi + 1 - lo) := Nat.mod_lt _ (Nat.two_pow_pos _)
  have hr : n % 2 ^ lo < 2 ^ lo := Nat.mod_lt _ (Nat.two_pow_pos _)
  rw [hb, hs]
  generalize n / 2 ^ lo / 2 ^ (hi + 1 - lo) = q at *
  generalize v % 2 ^ (hi + 1 - lo) = x at *
  generalize n % 2 ^ lo = r at *
  generalize 2 ^ (hi + 1 - lo) = A at *
  generalize 2 ^ lo = B at *
  generalize 2 ^ (w - (hi + 1)) = C at *
  have h1 : q * A + x + 1 ≤ C * A := by nlinarith
  have h2 : (q * A + x) * B + r + 1 ≤ (q * A + x + 1) * B := by nlinarith
  have h3 : (q * A + x + 1) * B ≤ C * A * B := Nat.mul_le_mul_right _ h1
  rw [← Nat.mul_assoc]
  omega

/-- A field above or below the one put is kept. -/
theorem bits_putBits_above {n hi lo v h l : Nat} (hh : hi < l) (hl : lo ≤ hi + 1) :
    bits (putBits n hi lo v) h l = bits n h l := by
  have e : 2 ^ l = 2 ^ lo * 2 ^ (hi + 1 - lo) * 2 ^ (l - (hi + 1)) := by
    rw [← pow_add, ← pow_add]; congr 1; omega
  have k : putBits n hi lo v / 2 ^ l = n / 2 ^ l := by
    rw [e, ← Nat.div_div_eq_div_mul, ← Nat.div_div_eq_div_mul, putBits_div,
      Nat.add_div_of_dvd_right (Dvd.intro_left _ rfl), Nat.mul_div_cancel _ (Nat.two_pow_pos _),
      Nat.div_eq_of_lt (Nat.mod_lt _ (Nat.two_pow_pos _)), Nat.add_zero, Nat.div_div_eq_div_mul, Nat.div_div_eq_div_mul,
      Nat.mul_assoc]
  unfold bits
  rw [k]

theorem bits_putBits_below {n hi lo v h l : Nat} (hh : h < lo) : bits (putBits n hi lo v) h l = bits n h l := by
  have key : ∀ m : Nat, bits m h l = bits (m % 2 ^ lo) h l := by
    intro m
    unfold bits
    by_cases hl : l ≤ h + 1
    · rw [← Nat.mod_mul_right_div_self, ← Nat.mod_mul_right_div_self, ← pow_add,
        Nat.mod_mod_of_dvd _ (pow_dvd_pow 2 (by omega))]
    · rw [show h + 1 - l = 0 by omega]; simp [Nat.mod_one]
  rw [key, key n, putBits_split, Nat.mul_add_mod', Nat.mod_mod]

/-! ## Registers -/

@[simp] theorem State.rd_wr_same (s : State) (a : Nat) (v : BitVec 32) : (s.wr a v).rd a = v := by
  simp [State.rd, State.wr]

theorem State.rd_wr_ne (s : State) {a b : Nat} (v : BitVec 32) (h : b ≠ a) : (s.wr a v).rd b = s.rd b :=
  Map.get_set_ne _ _ _ _ h

/-- What a write to a field leaves in its register. -/
theorem State.rd_setF (s : State) (l : Loc) (v : Nat) :
    (s.setF l v).rd l.addr = BitVec.ofNat 32 (putBits (s.rd l.addr).toNat l.hi l.lo v) := by simp [State.setF]

theorem State.rd_setF_ne (s : State) (l : Loc) (v : Nat) {b : Nat} (h : b ≠ l.addr) : (s.setF l v).rd b = s.rd b :=
  State.rd_wr_ne _ _ h

/-- A field just written reads back, cut to its width. -/
theorem State.f_setF_same (s : State) (l : Loc) (v : Nat) (hh : l.hi ≤ 31) (hl : l.lo ≤ l.hi) :
    (s.setF l v).f l = v % 2 ^ (l.hi + 1 - l.lo) := by
  unfold State.f
  rw [State.rd_setF, BitVec.toNat_ofNat, Nat.mod_eq_of_lt (putBits_lt (s.rd l.addr).isLt (by omega) (by omega)), bits_putBits_same]

/-- A field of another register is kept. -/
theorem State.f_setF_addr (s : State) (l m : Loc) (v : Nat) (h : m.addr ≠ l.addr) : (s.setF l v).f m = s.f m := by
  unfold State.f
  rw [State.rd_setF_ne _ _ _ h]

/-- A field of the same register that does not meet the one written is kept. -/
theorem State.f_setF_apart (s : State) (l m : Loc) (v : Nat) (hh : l.hi ≤ 31) (hl : l.lo ≤ l.hi) (h : l.hi < m.lo ∨ m.hi < l.lo) :
    (s.setF l v).f m = s.f m := by
  by_cases ha : m.addr = l.addr
  · unfold State.f
    rw [ha, State.rd_setF, BitVec.toNat_ofNat, Nat.mod_eq_of_lt (putBits_lt (s.rd l.addr).isLt (by omega) (by omega))]
    rcases h with h | h
    · exact bits_putBits_above h (by omega)
    · exact bits_putBits_below h
  · exact State.f_setF_addr _ _ _ _ ha

/-! ## Frames over registers -/

theorem State.onlyRegs_refl (s : State) (p : Nat → Prop) : s.onlyRegs s p := ⟨rfl, fun _ _ => rfl⟩

theorem State.onlyRegs_trans {s t u : State} {p : Nat → Prop} (h : s.onlyRegs t p) (k : t.onlyRegs u p) : s.onlyRegs u p := by
  refine ⟨?_, fun a ha => (k.2 a ha).trans (h.2 a ha)⟩
  have h1 := h.1
  have k1 := k.1
  rw [h1] at k1
  exact k1

theorem State.onlyRegs_mono {s t : State} {p q : Nat → Prop} (h : s.onlyRegs t p) (hp : ∀ a, p a → q a) : s.onlyRegs t q :=
  ⟨h.1, fun a ha => h.2 a fun k => ha (hp a k)⟩

theorem State.onlyRegs_setF (s : State) (l : Loc) (v : Nat) (p : Nat → Prop) (hp : p l.addr) : s.onlyRegs (s.setF l v) p :=
  ⟨rfl, fun _ ha => State.rd_setF_ne _ _ _ fun e => ha (e ▸ hp)⟩

theorem State.onlyRegs_inc (s : State) (l : Loc) (p : Nat → Prop) (hp : p l.addr) : s.onlyRegs (s.inc l) p :=
  State.onlyRegs_setF _ _ _ _ hp

/-- Raising a bit writes the page's INT_STATUS and, for TILE and RT pages, its cluster's summary (R579). -/
theorem State.onlyRegs_raise (s : State) (b : Block) (i k : Nat) (p : Nat → Prop) (h1 : p (INT_STATUS b i).addr)
    (h2 : p (INT_STATUS .clu (clusterOf i)).addr) : s.onlyRegs (s.raise b i k) p := by
  have base : s.onlyRegs (s.setF (INT_STATUS b i) (s.f (INT_STATUS b i) ||| 2 ^ k)) p := State.onlyRegs_setF _ _ _ _ h1
  unfold State.raise State.withLine
  simp only
  split
  · split
    · exact State.onlyRegs_trans base (State.onlyRegs_setF _ _ _ _ h2)
    · exact base
  · exact base

/-! ## Bytes -/

theorem State.ld8_st8_same (s : State) (a v : Nat) : (s.st8 a v).ld8 a = v % 256 := by
  simp [State.ld8, State.st8]

theorem State.ld8_st8_ne (s : State) {a b : Nat} (v : Nat) (h : b ≠ a) : (s.st8 a v).ld8 b = s.ld8 b := by
  simp only [State.ld8, State.st8]
  rw [Map.get_set_ne _ _ _ _ h]

/-- A wide store leaves every byte outside it as it was. -/
theorem State.ld8_stN_out (n : Nat) (s : State) (a v b : Nat) (h : b < a ∨ a + n ≤ b) : (State.stN n s a v).ld8 b = s.ld8 b := by
  induction n generalizing s a v with
  | zero => rfl
  | succ n ih =>
    simp only [State.stN]
    rw [ih _ _ _ (by omega), State.ld8_st8_ne _ _ (by omega)]

/-- A wide load gives what a wide store of the same width put there. -/
theorem State.ldN_stN (n : Nat) (s : State) (a v : Nat) : (State.stN n s a v).ldN n a = v % 256 ^ n := by
  induction n generalizing s a v with
  | zero => simp [State.ldN, Nat.mod_one]
  | succ n ih =>
    simp only [State.stN, State.ldN]
    rw [ih, State.ld8_stN_out _ _ _ _ _ (by omega), State.ld8_st8_same, pow_succ, Nat.mul_comm (256 ^ n) 256, Nat.mod_mul]

/-- A wide store changes memory only. -/
theorem State.stN_mem (n : Nat) (s : State) (a v : Nat) : State.stN n s a v = { s with mem := (State.stN n s a v).mem } := by
  induction n generalizing s a v with
  | zero => rfl
  | succ n ih =>
    simp only [State.stN]
    rw [ih]
    rfl

theorem State.stBytes_mem (s : State) (a : Nat) (l : List Nat) : s.stBytes a l = { s with mem := (s.stBytes a l).mem } := by
  induction l generalizing s a with
  | nil => rfl
  | cons b t ih =>
    simp only [State.stBytes]
    rw [ih]
    rfl

theorem State.ld8_stBytes_out (s : State) (a : Nat) (l : List Nat) (b : Nat) (h : b < a ∨ a + l.length ≤ b) :
    (s.stBytes a l).ld8 b = s.ld8 b := by
  induction l generalizing s a with
  | nil => rfl
  | cons c t ih =>
    simp only [State.stBytes, List.length_cons] at h ⊢
    rw [ih _ _ (by omega), State.ld8_st8_ne _ _ (by omega)]

/-! ## Tiles and clusters -/

@[simp] theorem State.tile_setTile_same (s : State) (t : Nat) (x : Tile) : (s.setTile t x).tile t = x := by
  simp [State.tile, State.setTile]

theorem State.tile_setTile_ne (s : State) {t u : Nat} (x : Tile) (h : u ≠ t) : (s.setTile t x).tile u = s.tile u :=
  Map.get_set_ne _ _ _ _ h

@[simp] theorem State.cluster_setCluster_same (s : State) (c : Nat) (x : Cluster) : (s.setCluster c x).cluster c = x := by
  simp [State.cluster, State.setCluster]

theorem State.cluster_setCluster_ne (s : State) {c d : Nat} (x : Cluster) (h : d ≠ c) : (s.setCluster c x).cluster d = s.cluster d :=
  Map.get_set_ne _ _ _ _ h

/-! ## The canonical form -/

theorem Memory.wf_st8 (s : State) (a v : Nat) (h : Memory.wf s.mem = true) : Memory.wf (s.st8 a v).mem = true :=
  Map.wf_set (d := fun _ => 0) a _ h

theorem Memory.wf_stN (n : Nat) (s : State) (a v : Nat) (h : Memory.wf s.mem = true) : Memory.wf (State.stN n s a v).mem = true := by
  induction n generalizing s a v with
  | zero => exact h
  | succ n ih => exact ih _ _ _ (Memory.wf_st8 s a v h)

theorem Memory.wf_stBytes (s : State) (a : Nat) (l : List Nat) (h : Memory.wf s.mem = true) : Memory.wf (s.stBytes a l).mem = true := by
  induction l generalizing s a with
  | nil => exact h
  | cons b t ih => exact ih _ _ (Memory.wf_st8 s a b h)

theorem Memory.wf_zeroMem (s : State) (lo hi : Nat) (h : Memory.wf s.mem = true) : Memory.wf (s.zeroMem lo hi).mem = true :=
  Map.wf_filter _ h

theorem State.regs_wf_wr (s : State) (a : Nat) (v : BitVec 32) (h : Map.wf regReset s.regs = true) :
    Map.wf regReset (s.wr a v).regs = true := Map.wf_set a v h

theorem State.regs_wf_setF (s : State) (l : Loc) (v : Nat) (h : Map.wf regReset s.regs = true) :
    Map.wf regReset (s.setF l v).regs = true := Map.wf_set _ _ h

theorem State.regs_wf_resetRegs (s : State) (lo hi : Nat) (h : Map.wf regReset s.regs = true) :
    Map.wf regReset (s.resetRegs lo hi).regs = true := Map.wf_filter _ h

end Sys2Proof.Machine
end

