-- ==== Sys2Proof/Tests/Slice0.lean ====
section
/-! SUPPORT. Tests: ill-formed commands, worked examples of the spec, and for every statement states and operands that meet its
hypotheses together, one theorem for each of its clauses. -/

namespace Sys2Proof.Tests
set_option Elab.async false
open Sys2Proof Sys2Proof.Machine

/-- The state a command leads to. -/
def after (c : Instr) (s : State) : State := match exec c s with | .next t => t | _ => s

/-- Every domain on, the PLLs locked, and the tiles of row 0 in the good-tile map. -/
def live : State := ((State.reset.setF PWR_ON (2 ^ 30 - 1)).setF (SYS_TILEMAP 0) (2 ^ 32 - 1)).setF CLK_STAT_PLL 127


def tOpen : State := (live.setF (PAGE_EN .tile 31) 1).setF (TILE_STEP_PHASE 31) 0

def qOf (n : Nat) : List QEntry := List.replicate n (.spike 7 1 0)

def w_IdleCountsTime_2 : State := live.setF TB_SLEW 1

def w_IdleCountsTime_3 : State := { live.setF TB_SLEW (2 ^ 32 - 5) with slewPhase := 15 }

def w_IdleCountsTime_4 : State := { live.setF CLK_STAT_REF_OK 0 with aonPhase := 3 }

theorem witness_IdleCountsTime :
    (live.pending = [] ∧ live.schedRuns = false ∧ live.tick.schedRuns = false ∧ live.secure.wipe = none ∧ live.host.agent = [] ∧
      live.host.jobs = [] ∧ live.spi.queue = [] ∧ live.spi.readLeft = 0 ∧ live.b CLK_STAT_REF_OK = true ∧
      live.f TB_SLEW = 0) := by decide +kernel

theorem witness_IdleCountsTime_2 :
    (w_IdleCountsTime_2.pending = [] ∧ w_IdleCountsTime_2.schedRuns = false ∧ w_IdleCountsTime_2.tick.schedRuns = false ∧
      w_IdleCountsTime_2.secure.wipe = none ∧ w_IdleCountsTime_2.host.agent = [] ∧ w_IdleCountsTime_2.host.jobs = [] ∧
      w_IdleCountsTime_2.spi.queue = [] ∧ w_IdleCountsTime_2.spi.readLeft = 0 ∧ w_IdleCountsTime_2.b CLK_STAT_REF_OK = true ∧
      w_IdleCountsTime_2.f TB_SLEW ≠ 0 ∧ w_IdleCountsTime_2.slewPhase ≠ 15) := by decide +kernel

theorem witness_IdleCountsTime_3 :
    (w_IdleCountsTime_3.pending = [] ∧ w_IdleCountsTime_3.schedRuns = false ∧ w_IdleCountsTime_3.tick.schedRuns = false ∧
      w_IdleCountsTime_3.secure.wipe = none ∧ w_IdleCountsTime_3.host.agent = [] ∧ w_IdleCountsTime_3.host.jobs = [] ∧
      w_IdleCountsTime_3.spi.queue = [] ∧ w_IdleCountsTime_3.spi.readLeft = 0 ∧ w_IdleCountsTime_3.b CLK_STAT_REF_OK = true ∧
      w_IdleCountsTime_3.f TB_SLEW ≠ 0 ∧ w_IdleCountsTime_3.slewPhase = 15) := by decide +kernel

theorem witness_IdleCountsTime_4 :
    (w_IdleCountsTime_4.pending = [] ∧ w_IdleCountsTime_4.schedRuns = false ∧ w_IdleCountsTime_4.tick.schedRuns = false ∧
      w_IdleCountsTime_4.secure.wipe = none ∧ w_IdleCountsTime_4.host.agent = [] ∧ w_IdleCountsTime_4.host.jobs = [] ∧
      w_IdleCountsTime_4.spi.queue = [] ∧ w_IdleCountsTime_4.spi.readLeft = 0 ∧ w_IdleCountsTime_4.b CLK_STAT_REF_OK = false ∧
      w_IdleCountsTime_4.refStart = none) := by decide +kernel

def w_WholeChipReset_4 : State := (live.setF SEC_WDOG_EN 1).setF (FWC_CORE_STAT_STATE 0) cRUN

theorem witness_WholeChipReset :
    (bits (0xC4A70001 : BitVec 32).toNat 31 16 = 0xC4A7 ∧ bitAt (0xC4A70001 : BitVec 32).toNat 0 = true) ∧
    (¬ (bits (0xC4A70000 : BitVec 32).toNat 31 16 = 0xC4A7 ∧ bitAt (0xC4A70000 : BitVec 32).toNat 0 = true)) ∧
    (1 ≤ (6 : BitVec 4).toNat ∧ (6 : BitVec 4).toNat ≤ 6) ∧
    (w_WholeChipReset_4.b SEC_WDOG_EN = true ∧ w_WholeChipReset_4.secRuns = true) := by decide +kernel

def w_ArrivalsQueued_1 : State := tOpen.modTile 31 fun x => { x with half0 := qOf 127 }

def w_ArrivalsQueued_3 : State := tOpen.modTile 31 fun x => { x with half0 := qOf 128 }

/-- A dense row of two synapses to neurons 5 and 6, of thread 2, named by axon 0. -/
def tRow : State := ((((tOpen.setF (TILE_AXON_CFG_DIRECT_COUNT 31) 1).setSynW 31 0 (2 * 2 ^ 53 + 5 * 2 ^ 39 + 1 * 2 ^ 29 + 14 * 2 ^ 23 + 1)).setSynW 31 1 0x53).modTile 31
  fun x => { x with half0 := [.spike 0 2 1] ++ qOf 1 })

def tThread : State := ((tOpen.setF (TILE_THR_BIND_EN 31 2) 1).setF (TILE_THR_BIND_COUNT 31 2) 8)

theorem witness_ArrivalsQueued :
    (w_ArrivalsQueued_1.tileUp (31 : BitVec 10).toNat = true ∧ w_ArrivalsQueued_1.tileShut (31 : BitVec 10).toNat = false ∧
      (w_ArrivalsQueued_1.tile (31 : BitVec 10).toNat).closeRec = none ∧
      stepClass (0 : BitVec 8).toNat (w_ArrivalsQueued_1.tile (31 : BitVec 10).toNat).step = .current ∧
      ((w_ArrivalsQueued_1.tile (31 : BitVec 10).toNat).half (0 : BitVec 8).toNat).length < 128) ∧
    (tOpen.tileUp (31 : BitVec 10).toNat = true ∧ tOpen.tileShut (31 : BitVec 10).toNat = false ∧
      (tOpen.tile (31 : BitVec 10).toNat).closeRec = none ∧
      stepClass (0 : BitVec 8).toNat (tOpen.tile (31 : BitVec 10).toNat).step = .current ∧
      ((tOpen.tile (31 : BitVec 10).toNat).half (0 : BitVec 8).toNat).length < 128) ∧
    (w_ArrivalsQueued_3.tileUp (31 : BitVec 10).toNat = true ∧ w_ArrivalsQueued_3.tileShut (31 : BitVec 10).toNat = false ∧
      (w_ArrivalsQueued_3.tile (31 : BitVec 10).toNat).closeRec = none ∧
      stepClass (0 : BitVec 8).toNat (w_ArrivalsQueued_3.tile (31 : BitVec 10).toNat).step = .current ∧
      128 ≤ ((w_ArrivalsQueued_3.tile (31 : BitVec 10).toNat).half (0 : BitVec 8).toNat).length) ∧
    (live.sinkReason (1023 : BitVec 10).toNat ≠ 0) := by decide +kernel

def w_SpikeStreamed_2 : State := tThread.modTile 31 fun x => { x with half0 := [.psum 7 (-9)] }

theorem witness_SpikeStreamed :
    (tRow.canTake (31 : BitVec 10).toNat = true ∧ tRow.parClean (31 : BitVec 10).toNat = true ∧
      (tRow.tile (31 : BitVec 10).toNat).half (tRow.curParity (31 : BitVec 10).toNat) = .spike 0 2 1 :: qOf 1 ∧
      tRow.modThreadOf (31 : BitVec 10).toNat 0 = none ∧ tRow.axonRef (31 : BitVec 10).toNat 0 = some ({ entry := 0 }, 0) ∧
      ((Desc.ofWord (tRow.synW 31 0))).kind ≠ 3 ∧
      tRow.rowMiss (31 : BitVec 10).toNat { entry := 0 } ((Desc.ofWord (tRow.synW 31 0))) = false ∧
      ((Desc.ofWord (tRow.synW 31 0))).cold = false ∧ ((Desc.ofWord (tRow.synW 31 0))).plastic = false ∧
      tRow.b (TILE_PROMO_CFG_EN (31 : BitVec 10).toNat) = false) ∧
    (w_SpikeStreamed_2.canTake (31 : BitVec 10).toNat = true ∧
      (w_SpikeStreamed_2.tile (31 : BitVec 10).toNat).half (w_SpikeStreamed_2.curParity (31 : BitVec 10).toNat) = .psum 7 (-9) :: [] ∧
      w_SpikeStreamed_2.ownerThread (31 : BitVec 10).toNat 7 = some 2) := by decide +kernel

def w_AccumulatorGuard_1 : State := tOpen.setAcc 31 16383 (-262144)

def w_AccumulatorGuard_2 : State := tOpen.setAcc 31 16383 (-262143)

theorem witness_AccumulatorGuard :
    (w_AccumulatorGuard_1.parClean 31 = true ∧ w_AccumulatorGuard_1.blockOff 31 16383 = false ∧
      w_AccumulatorGuard_1.retiredWord 31 2 16383 = false ∧ 262144 ≤ (w_AccumulatorGuard_1.acc 31 16383).natAbs) ∧
    (w_AccumulatorGuard_2.parClean 31 = true ∧ w_AccumulatorGuard_2.blockOff 31 16383 = false ∧
      w_AccumulatorGuard_2.retiredWord 31 2 16383 = false ∧ (w_AccumulatorGuard_2.acc 31 16383).natAbs < 262144 ∧
      ((-262143 : Int)).natAbs ≤ 262143) := by decide +kernel

theorem witness_StochasticRounding :
    (srnd (-1) 8 255 = 0 ∧ srnd (-1) 8 0 = -1 ∧ srnd 5 1 1 = 3) ∧
    (srnd 511 9 255 = 1 ∧ srnd 511 9 0 = 0) := by decide +kernel

def w_LfsrNeverLocks_2 : State := live.setF (PAGE_EN .tile 31) 1

theorem witness_LfsrNeverLocks :
    (live.tileUp (31 : BitVec 10).toNat = true ∧ live.en .tile (31 : BitVec 10).toNat = false) ∧
    (w_LfsrNeverLocks_2.tileUp (31 : BitVec 10).toNat = true ∧ w_LfsrNeverLocks_2.en .tile (31 : BitVec 10).toNat = true ∧
      (0xFFFFFFFF : BitVec 32).toNat ≠ w_LfsrNeverLocks_2.f (TILE_LFSR (31 : BitVec 10).toNat)) := by decide +kernel

def w_ConversionStatistics_1 : State := ((live.setF (TILE_CONV 31 15) 3).setF (TILE_CLIP 31 0) 2).setF (TILE_CLIP 31 1) 2

def w_ConversionStatistics_2 : State := live.setF (TILE_CLIP 31 15) 2

def w_ConversionStatistics_4 : State := live.modCluster 15 fun x => x.setProbe 3 { sum := 2 ^ 47 + 5, count := 7, emax := 32767, sat := true }

def coldRow : ColdRow := { tile := 63, entry := 3, axon := 3, payload := 1, desc := BitVec.ofNat 64 (2 ^ 58 + 1 * 2 ^ 29 + 14 * 2 ^ 23 + 5) }

def coldReq (u : Nat) (st : Option Nat) : ColdReq := { unit := u, part := 0, place := u, issued := true, rsp := st.map fun k => (k, []) }

def coldGot (stale : Bool) (st : Option Nat) : ColdFetch := { id := 4, row := coldRow, reqs := [coldReq 0 st, coldReq 1 none], stale := stale, time := 0 }

def coldGone (stale : Bool) (st : Option Nat) : State := (live.setF (CLU_COLD_OUT_UNITS 0) 3).modCluster 0 fun x => { x with fetches := [coldGot stale st] }

theorem witness_ConversionStatistics :
    (w_ConversionStatistics_1.tileUp (31 : BitVec 10).toNat = true ∧ bitAt (0x8001 : BitVec 16).toNat 15 = true) ∧
    (w_ConversionStatistics_2.tileUp (31 : BitVec 10).toNat = true) ∧
    (live.domOn (dCLU (15 : BitVec 4).toNat) = true ∧ live.b (CLU_MSE_CFG_ARM (15 : BitVec 4).toNat (3 : BitVec 2).toNat) = false ∧
      bitAt (0x80013F0F : BitVec 32).toNat 31 = true) ∧
    (w_ConversionStatistics_4.domOn (dCLU (15 : BitVec 4).toNat) = true) := by decide +kernel

def w_ColdRows_1 : State := ((live.setF (PAGE_EN .clu 15) 1).setF (CLU_COLD_CFG_MAX_OUT 15) 255).setF (CLU_COLD_OUT_UNITS 15) 127 |>.modCluster 15 fun x => { x with waiting := [coldRow] }

def w_ColdRows_2 : State := coldGone false (some 5)

def w_ColdRows_3 : State := coldGone false none

def w_ColdRows_4 : State := coldGone true (some 0)

def coldDone : ColdFetch := { id := 4, row := coldRow, units := [(0, [0x53])], time := 0 }

def w_ColdRows_5 : State := { live with tb := 9 }.modCluster 0 fun x => { x with fetches := [coldDone] }

def w_ColdRows_7 : State := live.setF (CLU_COLD_AGE_BUSY 15) 1

theorem witness_ColdRows :
    (w_ColdRows_1.domOn (dCLU (15 : BitVec 4).toNat) = true ∧ w_ColdRows_1.actv .clu (15 : BitVec 4).toNat = true ∧
      (w_ColdRows_1.cluster (15 : BitVec 4).toNat).nextRow = some coldRow ∧
      (w_ColdRows_1.f (CLU_COLD_OUT_UNITS (15 : BitVec 4).toNat) + coldUnits coldRow.desc ≤ w_ColdRows_1.maxOut (15 : BitVec 4).toNat ∨ w_ColdRows_1.f (CLU_COLD_OUT_UNITS (15 : BitVec 4).toNat) = 0) ∧
      (w_ColdRows_1.cluster (15 : BitVec 4).toNat).fetches = []) ∧
    ((w_ColdRows_2.cluster (0 : BitVec 4).toNat).fetch? 4 = some (coldGot false (some 5)) ∧ (coldGot false (some 5)).unitBack 0 = true ∧
      (coldGot false (some 5)).unitOk 0 = false) ∧
    ((w_ColdRows_3.cluster (0 : BitVec 4).toNat).fetch? 4 = some (coldGot false none)) ∧
    ((w_ColdRows_4.cluster (0 : BitVec 4).toNat).fetch? 4 = some (coldGot true (some 0)) ∧ (coldGot true (some 0)).unitBack 0 = true) ∧
    ((w_ColdRows_5.cluster (0 : BitVec 4).toNat).fetch? 4 = some coldDone ∧ coldDone.stale = false ∧ coldDone.reqs = [] ∧
      w_ColdRows_5.immStall (tileOf (0 : BitVec 4).toNat coldRow.tile) = false) := by decide +kernel

theorem witness_ColdRows_2 :
    (live.domOn (dCLU (15 : BitVec 4).toNat) = true ∧ live.b (CLU_COLD_AGE_BUSY (15 : BitVec 4).toNat) = false ∧
      (live.cluster (15 : BitVec 4).toNat).bad = []) ∧
    (w_ColdRows_7.b (CLU_COLD_AGE_BUSY (15 : BitVec 4).toNat) = true) := by decide +kernel

def w_CloseOpensTheNextStep_1 : State := ((tOpen.setF (tileInj 31 255) 8).setF (tileCon 31 255) 8).modTile 31 fun x => { x with step := 255 }

def w_CloseOpensTheNextStep_2 : State := tOpen.setF (TILE_STEP_PHASE 31) 3

def w_CloseOpensTheNextStep_3 : State := { (((live.setF (tileInj 31 255) 8).setF (tileCon 31 255) 8)) with ctl := { step := 256 } }

theorem witness_CloseOpensTheNextStep :
    (w_CloseOpensTheNextStep_1.tileUp (31 : BitVec 10).toNat = true ∧
      w_CloseOpensTheNextStep_1.en .tile (31 : BitVec 10).toNat = true ∧ w_CloseOpensTheNextStep_1.phase (31 : BitVec 10).toNat = 0 ∧
      w_CloseOpensTheNextStep_1.draining .tile (31 : BitVec 10).toNat = false) ∧
    (w_CloseOpensTheNextStep_2.tileUp (31 : BitVec 10).toNat = true ∧
      w_CloseOpensTheNextStep_2.en .tile (31 : BitVec 10).toNat = true ∧
      ¬ (w_CloseOpensTheNextStep_2.phase (31 : BitVec 10).toNat = 0 ∧
      w_CloseOpensTheNextStep_2.draining .tile (31 : BitVec 10).toNat = false)) ∧
    (w_CloseOpensTheNextStep_3.tileUp (31 : BitVec 10).toNat = true ∧
      w_CloseOpensTheNextStep_3.en .tile (31 : BitVec 10).toNat = false) ∧
    ((stepAfter 511 255).toNat = 512 ∧ (stepAfter 511 254).toNat = 511) := by decide +kernel

def w_CloseRunPhases_1 : State := (tOpen.setF (TILE_STEP_PHASE 31) 1).modTile 31 fun x => { x with liftEnd := true, step := 1 }

def w_CloseRunPhases_2 : State := (tThread.setF (TILE_STEP_PHASE 31) 1).modTile 31 fun x => { x with active := bmSet 0 7 true, step := 1 }

def w_CloseRunPhases_3 : State := tOpen.setF (TILE_STEP_PHASE 31) 2

def w_CloseRunPhases_4 : State := (tOpen.setF (TILE_STEP_PHASE 31) 3).modTile 31 fun x => { x with fired := bmSet 0 16383 true }

def lifRun (acc : Int) : State := ((((tThread.setF (TILE_FIRE_THETA 31 2) 40).setF (TILE_FIRE_REFRAC 31 2) 3).setF (TILE_STEP_PHASE 31) 3).setAcc 31 7 acc).modTile 31
  fun x => { x with active := bmSet 0 7 true, step := 1, work := [{ thread := 2, quad := 1, due := 8, sweep := 0 }] }

def w_CloseRunPhases_5 : State := lifRun 100

def w_CloseRunPhases_6 : State := lifRun 39

def immState : State := (((tThread.setF (TILE_FIRE_THETA 31 2) 40).setF (TILE_FIRE_IMM 31 2) 1).setAcc 31 7 100).modTile 31 fun x => { x with immq := [7, 6] }

theorem witness_CloseRunPhases :
    (w_CloseRunPhases_1.tileUp (31 : BitVec 10).toNat = true ∧ w_CloseRunPhases_1.parClean (31 : BitVec 10).toNat = true ∧
      w_CloseRunPhases_1.phase (31 : BitVec 10).toNat = 1 ∧ w_CloseRunPhases_1.drainDone (31 : BitVec 10).toNat = true ∧
      (w_CloseRunPhases_1.tile (31 : BitVec 10).toNat).liftEnd = true) ∧
    (w_CloseRunPhases_2.tileUp (31 : BitVec 10).toNat = true ∧ w_CloseRunPhases_2.parClean (31 : BitVec 10).toNat = true ∧
      w_CloseRunPhases_2.phase (31 : BitVec 10).toNat = 1 ∧ w_CloseRunPhases_2.drainDone (31 : BitVec 10).toNat = true ∧
      (w_CloseRunPhases_2.tile (31 : BitVec 10).toNat).liftEnd = false) ∧
    (w_CloseRunPhases_3.tileUp (31 : BitVec 10).toNat = true ∧ w_CloseRunPhases_3.parClean (31 : BitVec 10).toNat = true ∧
      w_CloseRunPhases_3.phase (31 : BitVec 10).toNat = 2) := by decide +kernel

theorem witness_CloseRunPhases_2 :
    (w_CloseRunPhases_4.tileUp (31 : BitVec 10).toNat = true ∧ w_CloseRunPhases_4.phase (31 : BitVec 10).toNat = 3 ∧
      (w_CloseRunPhases_4.tile (31 : BitVec 10).toNat).work = [] ∧ (w_CloseRunPhases_4.tile (31 : BitVec 10).toNat).svc = [] ∧
      w_CloseRunPhases_4.touching (31 : BitVec 10).toNat = false ∧ w_CloseRunPhases_4.draining .tile (31 : BitVec 10).toNat = false ∧
      (w_CloseRunPhases_4.tile (31 : BitVec 10).toNat).closeRec = none) := by decide +kernel

theorem witness_CloseRunPhases_3 :
    (w_CloseRunPhases_5.tileUp (31 : BitVec 10).toNat = true ∧ w_CloseRunPhases_5.parClean (31 : BitVec 10).toNat = true ∧
      w_CloseRunPhases_5.phase (31 : BitVec 10).toNat = 3 ∧
      w_CloseRunPhases_5.custom (31 : BitVec 10).toNat (2 : BitVec 4).toNat = false ∧
      w_CloseRunPhases_5.faulted (31 : BitVec 10).toNat (2 : BitVec 4).toNat = false ∧
      w_CloseRunPhases_5.model (31 : BitVec 10).toNat (2 : BitVec 4).toNat < 6 ∧
      ((w_CloseRunPhases_5.tile (31 : BitVec 10).toNat).work.find? fun w => w.thread == (2 : BitVec 4).toNat) = some (({ thread := 2, quad := 1, due := 8, sweep := 0 } : Work)) ∧
      (({ thread := 2, quad := 1, due := 8, sweep := 0 } : Work)).quad < 4096 ∧
      (w_CloseRunPhases_5.tile (31 : BitVec 10).toNat).emitq.length ≤ 28 ∧
      w_CloseRunPhases_5.liveLanes (31 : BitVec 10).toNat (({ thread := 2, quad := 1, due := 8, sweep := 0 } : Work)).quad ((({ thread := 2, quad := 1, due := 8, sweep := 0 } : Work)).due ||| (({ thread := 2, quad := 1, due := 8, sweep := 0 } : Work)).sweep) = [3] ∧
      bitAt (({ thread := 2, quad := 1, due := 8, sweep := 0 } : Work)).sweep 3 = false ∧
      w_CloseRunPhases_5.lifAlone (31 : BitVec 10).toNat (2 : BitVec 4).toNat (4 * (({ thread := 2, quad := 1, due := 8, sweep := 0 } : Work)).quad + 3) (w_CloseRunPhases_5.runSteps (31 : BitVec 10).toNat).1 = true) ∧
    (w_CloseRunPhases_6.tileUp (31 : BitVec 10).toNat = true ∧
      w_CloseRunPhases_6.lifAlone (31 : BitVec 10).toNat (2 : BitVec 4).toNat (4 * (({ thread := 2, quad := 1, due := 8, sweep := 0 } : Work)).quad + 3) (w_CloseRunPhases_6.runSteps (31 : BitVec 10).toNat).1 = true) := by decide +kernel

def w_TouchesAndEmission_4 : State := immState.modTile 31 fun x => { x with immq := [300], immWait := [4] }

def w_TouchesAndEmission_2 : State := (((tOpen.setF (TILE_ROUTE_CFG_BASE 31) 1).setSynW 31 512 ((2 ^ 15 + 10 * 2 ^ 16 + 1) * 2 ^ 32)).setSynW 31 1025 (2 ^ 60 + 33 * 2 ^ 47 + 0x3FF * 2 ^ 37 + 100 * 2 ^ 21 + 2 * 2 ^ 15 + 1)).modTile 31 fun x => { x with emitq := [{ neuron := 17, payload := 3, step := 1 }] }

def w_TouchesAndEmission_3 : State := tOpen.modTile 31 fun x => { x with runDone := true }

theorem witness_TouchesAndEmission :
    (immState.tileUp (31 : BitVec 10).toNat = true ∧ immState.parClean (31 : BitVec 10).toNat = true ∧
      immState.phase (31 : BitVec 10).toNat = 0 ∧ (immState.tile (31 : BitVec 10).toNat).immq = 7 :: [6] ∧
      immState.ownerThread (31 : BitVec 10).toNat 7 = some (2) ∧ immState.b (TILE_FIRE_IMM (31 : BitVec 10).toNat (2)) = true ∧
      immState.faulted (31 : BitVec 10).toNat (2) = false ∧ immState.custom (31 : BitVec 10).toNat (2) = false ∧
      immState.lifAlone (31 : BitVec 10).toNat (2) 7 (immState.tile (31 : BitVec 10).toNat).step.toNat = true ∧
      (immState.tile (31 : BitVec 10).toNat).emitq.length < 32) ∧
    (w_TouchesAndEmission_4.tileUp (31 : BitVec 10).toNat = true ∧ w_TouchesAndEmission_4.parClean (31 : BitVec 10).toNat = true ∧
      w_TouchesAndEmission_4.phase (31 : BitVec 10).toNat = 0 ∧
      (w_TouchesAndEmission_4.tile (31 : BitVec 10).toNat).immq = 300 :: [] ∧
      w_TouchesAndEmission_4.ownerThread (31 : BitVec 10).toNat 300 = none) := by decide +kernel

theorem witness_TouchesAndEmission_2 :
    (w_TouchesAndEmission_2.tileUp (31 : BitVec 10).toNat = true ∧ w_TouchesAndEmission_2.parClean (31 : BitVec 10).toNat = true ∧
      (w_TouchesAndEmission_2.tile (31 : BitVec 10).toNat).emitq = (({ neuron := 17, payload := 3, step := 1 } : Emit)) :: [] ∧
      ((2 ^ 15 + 10 * 2 ^ 16 + 1)) = w_TouchesAndEmission_2.synW (31 : BitVec 10).toNat (w_TouchesAndEmission_2.f (TILE_ROUTE_CFG_BASE (31 : BitVec 10).toNat) * 512 + (({ neuron := 17, payload := 3, step := 1 } : Emit)).neuron / 16 / 2) / 2 ^ (((({ neuron := 17, payload := 3, step := 1 } : Emit)).neuron / 16 % 2) * 32) % 2 ^ 32 ∧
      bitAt ((2 ^ 15 + 10 * 2 ^ 16 + 1)) 15 = true ∧
      1025 = (if (({ neuron := 17, payload := 3, step := 1 } : Emit)).done = 0 then w_TouchesAndEmission_2.f (TILE_ROUTE_CFG_BASE (31 : BitVec 10).toNat) * 512 + 512 + bits ((2 ^ 15 + 10 * 2 ^ 16 + 1)) 12 0 else (({ neuron := 17, payload := 3, step := 1 } : Emit)).next) ∧
      ((2 ^ 60 + 33 * 2 ^ 47 + 0x3FF * 2 ^ 37 + 100 * 2 ^ 21 + 2 * 2 ^ 15 + 1)) = w_TouchesAndEmission_2.synW (31 : BitVec 10).toNat 1025 ∧
      w_TouchesAndEmission_2.templPacket (31 : BitVec 10).toNat (({ neuron := 17, payload := 3, step := 1 } : Emit)) (bits ((2 ^ 15 + 10 * 2 ^ 16 + 1)) 31 16) ((2 ^ 60 + 33 * 2 ^ 47 + 0x3FF * 2 ^ 37 + 100 * 2 ^ 21 + 2 * 2 ^ 15 + 1)) (w_TouchesAndEmission_2.synW (31 : BitVec 10).toNat 1026) = some ((Packet.spikeUC 33 0 111 3 2 1)) ∧
      bitAt (w_TouchesAndEmission_2.f MTR_INJ_HOLD_CLUSTER) (clusterOf (31 : BitVec 10).toNat) = false ∧
      w_TouchesAndEmission_2.roomFor (31 : BitVec 10).toNat .loc ((Packet.spikeUC 33 0 111 3 2 1)) = true ∧
      w_TouchesAndEmission_2.draining .tile (31 : BitVec 10).toNat = false) ∧
    (w_TouchesAndEmission_3.tileUp (31 : BitVec 10).toNat = true ∧ w_TouchesAndEmission_3.emissionDone (31 : BitVec 10).toNat = true ∧
      w_TouchesAndEmission_3.draining .tile (31 : BitVec 10).toNat = false) := by decide +kernel

def w_TileEnableDisable_1 : State := { (live.modTile 31 fun x => { x with half0 := qOf 1, half1 := qOf 2, fired := 5 }) with ctl := { step := 77 } }

def w_TileEnableDisable_2 : State := tOpen.modTile 31 fun x => { x with half1 := qOf 2, step := 2 ^ 33 + 6 }

/-- Neurons 5 and 7 are in a touch of thread 2; in lane 3 pr1 holds. -/
def tc0 : Touch := { quad := 1, stouch := 5, semit := 5, pc := 8190 }
def laneA : Lane := { active := true, g := [(1, 8), (2, 3)] }
def laneB : Lane := { active := true, pr1 := true, g := [(1, 0x00050002), (2, 5)], delta := 1 }
def inTouchOf (tc : Touch) (a b : Lane) : State := ((((tThread.setF (TILE_THR_PROG_BUILTIN 31 2) 0).setF (TILE_THR_BIND_TWO 31 2) 1).setF
  (TILE_STEP_PHASE 31) 3).setAcc 31 7 (-9)).modTile 31 fun x => x.setThread 2 { touch := some tc, l1 := a, l3 := b }
def tTouch : State := inTouchOf tc0 laneA laneB
theorem witness_inTouch : tTouch.inTouch 31 2 tc0 := by unfold State.inTouch; decide +kernel

theorem witness_TileEnableDisable :
    (w_TileEnableDisable_1.tileUp (31 : BitVec 10).toNat = true ∧ w_TileEnableDisable_1.en .tile (31 : BitVec 10).toNat = false ∧
      w_TileEnableDisable_1.draining .tile (31 : BitVec 10).toNat = false ∧
      w_TileEnableDisable_1.parClean (31 : BitVec 10).toNat = true) ∧
    (w_TileEnableDisable_2.tileUp (31 : BitVec 10).toNat = true ∧ w_TileEnableDisable_2.actv .tile (31 : BitVec 10).toNat = true ∧
      (w_TileEnableDisable_2.tile (31 : BitVec 10).toNat).closeRec = none) := by decide +kernel

def w_NeuronRegisterWrites_ldn : State := (tTouch.setNeu 31 15 0xDEAD).setNeu 31 7 0xBEEF

theorem witness_NeuronRegisterWrites :
    ((aluFn (0xE : BitVec 11).toNat false 0 0).isSome = true ∧ aluFn 0x3 false 0 0 = none ∧ aluFn 0xF false 0 0 = none) ∧
    ((shiFn 0x41 0).isSome = true ∧ shiFn 0x60 0 = none) ∧
    (tc0.service = false ∧ w_NeuronRegisterWrites_ldn.thrTwo 31 2 = true) := by decide +kernel

def w_NeuronControl_3 : State := (inTouchOf tc0 { laneA with decayed := true, folded := true } { laneB with decayed := true, folded := true }).modTile 31 fun x => { x with active := bmSet (bmSet 0 5 true) 7 true }

def tcS : Touch := { tc0 with service := true }
def tServ : State := (inTouchOf tcS { active := true } {}).modTile 31 fun x => { x with svc := [2] }
theorem witness_inService : tServ.inTouch 31 2 tcS := by unfold State.inTouch; decide +kernel

theorem witness_NeuronControl :
    (1 ≤ (3 : BitVec 4).toNat ∧ (3 : BitVec 4).toNat < 4 ∧ (5 : BitVec 11).toNat < 6) ∧
    (0 ≤ (tc0.pc : Int) + (0x7E002 : BitVec 19).toInt ∧ (tc0.pc : Int) + (0x7E002 : BitVec 19).toInt < 8192) ∧
    (tc0.service = false ∧ w_NeuronControl_3.execLanes 31 2 0 false ≠ [] ∧
      (∀ j, j < 4 → (w_NeuronControl_3.lane 31 2 j).active = true → (w_NeuronControl_3.lane 31 2 j).decayed = true ∧
      (w_NeuronControl_3.lane 31 2 j).folded = true ∧ (w_NeuronControl_3.lane 31 2 j).raise = none)) ∧
    (tcS.service = true ∧ tServ.execLanes 31 2 0 false ≠ []) ∧
    (aluFn 0x3 false 0 0 = none) ∧
    (tc0.service = false ∧ tTouch.execLanes 31 2 0 false ≠ [] ∧ (tTouch.lane 31 2 3).active = true ∧
      (tTouch.lane 31 2 3).folded = false) := by decide +kernel

def w_NeuronStateWrites_fire : State := tTouch.setF (TILE_FIRE_THETA 31 2) 3

theorem witness_NeuronStateWrites :
    (tTouch.execLanes 31 2 1 false = [3] ∧ tc0.service = false ∧ (tTouch.tile 31).emitq.length < 32 ∧ tc0.neuron 3 < 16384 ∧
      (tTouch.lane 31 2 3).raise = none ∧ tTouch.retiredWord 31 1 (tc0.neuron 3) = false ∧ (tTouch.lane 31 2 3).sweep = false ∧
      tTouch.retiredWord 31 2 (tc0.neuron 3) = false ∧ 1 ≤ ((tTouch.lane 31 2 3).reg 1).toInt ∧
      tTouch.gated 31 (tc0.neuron 3) (match (tTouch.lane 31 2 3).rf with | some r => r | none => rfOf (tTouch.neu 31 (tc0.neuron 3))) false = false ∧
      tTouch.retiredWord 31 3 (((tTouch.lane 31 2 3).reg 2 + (0x7FFA : BitVec 15).signExtend 32).toNat % 8192) = false) ∧
    ((w_NeuronStateWrites_fire.lane 31 2 3).sweep = false ∧ rfOf ((w_NeuronStateWrites_fire.lane 31 2 3).reg 1).toNat = 0 ∧
      bmGet (w_NeuronStateWrites_fire.tile 31).fired (tc0.neuron 3) = false ∧
      w_NeuronStateWrites_fire.postEn 31 2 = false) := by decide +kernel

def w_NeuronRequests_resume : State := (inTouchOf { tc0 with wait := true } laneA laneB).modTile 31 fun x => { x with bufs := [{ thread := 2, lane := 3, kind := .load 15, tag := 0, reply := some (0, 0, [7]) }] }

def plDesc : BitVec 64 := BitVec.ofNat 64 (2 ^ 57 + 2 * 2 ^ 53 + 1 * 2 ^ 29 + 14 * 2 ^ 23 + 1023)
def plState (w : BitVec 32) : State := tOpen.modTile 31 fun x => { x with plq := [{ axon := 9, payload := 14, desc := plDesc }], dir := [(1023, w)] }

theorem witness_NeuronRequests :
    (tTouch.execLanes 31 2 0 false ≠ []) ∧
    ((w_NeuronRequests_resume.thread 31 2).touch = some { tc0 with wait := true } ∧ ({ tc0 with wait := true } : Touch).pc < 8192 ∧
      (w_NeuronRequests_resume.tile 31).bufs.filter (fun b => b.thread == 2 && !b.dead) = [(({ thread := 2, lane := 3, kind := .load 15, tag := 0, reply := some (0, 0, [7]) } : ReplyBuf))] ∧
      (∀ b ∈ (w_NeuronRequests_resume.tile 31).bufs, b.issued = true) ∧
      (∀ b ∈ (w_NeuronRequests_resume.tile 31).bufs, b.thread = 2 → b.dead = false → b.reply.isSome = true)) := by decide +kernel

def w_LearningEvents_1 : State := plState (dirWord 3 4 5 8)

def w_LearningEvents_2 : State := plState (dirWord 3 4 5 9)

def w_LearningEvents_3 : State := tOpen.modTile 31 fun x => { x with passStep := some 4 }

theorem witness_LearningEvents :
    ((w_LearningEvents_1.tile (31 : BitVec 10).toNat).plq = { axon := 9, payload := 14, desc := plDesc } :: [] ∧
      (w_LearningEvents_1.tile (31 : BitVec 10).toNat).passStep = none ∧ w_LearningEvents_1.phase (31 : BitVec 10).toNat ≠ 4 ∧
      w_LearningEvents_1.tileUp (31 : BitVec 10).toNat = true ∧
      (1023 < (((Desc.ofWord plDesc.toNat).addr - w_LearningEvents_1.plBase (31 : BitVec 10).toNat) / 2 ^ w_LearningEvents_1.f (TILE_PL_DELTA_PSHIFT (31 : BitVec 10).toNat)) ∨ bits ((w_LearningEvents_1.tile (31 : BitVec 10).toNat).dirAt (((Desc.ofWord plDesc.toNat).addr - w_LearningEvents_1.plBase (31 : BitVec 10).toNat) / 2 ^ w_LearningEvents_1.f (TILE_PL_DELTA_PSHIFT (31 : BitVec 10).toNat))).toNat 15 0 ≠ 9)) ∧
    ((w_LearningEvents_2.tile (31 : BitVec 10).toNat).plq = { axon := 9, payload := 14, desc := plDesc } :: [] ∧
      (w_LearningEvents_2.tile (31 : BitVec 10).toNat).passStep = none ∧ w_LearningEvents_2.phase (31 : BitVec 10).toNat ≠ 4 ∧
      w_LearningEvents_2.tileUp (31 : BitVec 10).toNat = true ∧
      (((Desc.ofWord plDesc.toNat).addr - w_LearningEvents_2.plBase (31 : BitVec 10).toNat) / 2 ^ w_LearningEvents_2.f (TILE_PL_DELTA_PSHIFT (31 : BitVec 10).toNat)) ≤ 1023 ∧
      bits ((w_LearningEvents_2.tile (31 : BitVec 10).toNat).dirAt (((Desc.ofWord plDesc.toNat).addr - w_LearningEvents_2.plBase (31 : BitVec 10).toNat) / 2 ^ w_LearningEvents_2.f (TILE_PL_DELTA_PSHIFT (31 : BitVec 10).toNat))).toNat 15 0 = 9 ∧
      modOf (w_LearningEvents_2.tile (31 : BitVec 10).toNat).mod 2 = 0) ∧
    ((w_LearningEvents_3.tile (31 : BitVec 10).toNat).passStep = some 4 ∧ w_LearningEvents_3.phase (31 : BitVec 10).toNat ≤ 1 ∧
      w_LearningEvents_3.tileUp (31 : BitVec 10).toNat = true ∧
      w_LearningEvents_3.parClean (31 : BitVec 10).toNat = true) := by decide +kernel

def w_DeltaUpdate : State := tOpen.setDelta 31 262143 (-120)

theorem witness_DeltaUpdate :
    ((({ addr := 262143, a := 255, tr8 := 256 * 15, mod := -8 } : Upd)).addr < 262144 ∧
      w_DeltaUpdate.retiredWord 31 0 ((({ addr := 262143, a := 255, tr8 := 256 * 15, mod := -8 } : Upd)).addr / 8) = false) := by decide +kernel

def w_LearningRegisters : State := (live.setF (TILE_PL_DIR_IDX_AUTO 31) 1).setF (TILE_PL_DIR_IDX_IDX 31) 1023

/-- The control core of cluster 0 runs, and its tile 7 has left the COMMIT of step 3. -/
def cluLive : State := ((live.setF (FWC_CORE_STAT_STATE 3) cRUN).setF (CLU_PROMO_CFG_EN 0) 1).modTile 7 fun x => { x with lastLift := some 3, step := 4 }

theorem witness_LearningRegisters :
    (w_LearningRegisters.tileUp (31 : BitVec 10).toNat = true ∧
      w_LearningRegisters.en .tile (31 : BitVec 10).toNat = false) := by decide +kernel

def w_LiftEnds_1 : State := cluLive.modTile 31 fun x => { x with dirty := 3 }

def w_LiftEnds_2 : State := (cluLive.setF (CLU_KILN_CFG_WB_EN 0) 1 |>.modTile 7 fun x => { x with dirty := 3 }).modCluster 0 fun x => { x with kmap := [(2, 7 * 1024 + 1)] }

def w_LiftEnds_3 : State := (cluLive.setF (CLU_PROMO_CFG_PROMOTE_MIN 0) 1).modCluster 0 fun x => { x with cdir := [(5, 0)] }

/-- Channel 0 alone is active, its lines 0 and 1 written. -/
def extOne (s : State) : State := ((({ s with memW := { act := [0], cw := 1000 } }).setF (PAGE_EN .mem 0) 1).storeLine 0 0 (lineOfBytes (List.range 64))).storeLine 0 1 0
def coldDesc : Nat := 2 ^ 58 + 16 * 2 ^ 29

def w_LiftEnds_4 : State := ((((((extOne cluLive).setF (CLU_PROMO_CFG_PROMOTE_MIN 0) 9).setF (CLU_COLD_BASE_BASE 0) 0x8000000).setF (TILE_PROMO_CFG_EN 7) 1).setSynW 7 3 coldDesc).modCluster 0 fun x => { x with cdir := [(5, 7 * 32768 + 3)] }).stN 2 (shmBase 0 + 10) 9 |>.setF (TILE_PROMO_CFG_BASE 7) 64

theorem witness_LiftEnds :
    (w_LiftEnds_1.cluRuns (0 : BitVec 4).toNat = true ∧ w_LiftEnds_1.domOn (dCLU (0 : BitVec 4).toNat) = true ∧
      w_LiftEnds_1.liftDue (0 : BitVec 4).toNat (w_LiftEnds_1.cluster (0 : BitVec 4).toNat).liftDone = some 3 ∧
      w_LiftEnds_1.b (CLU_KILN_CFG_WB_EN (0 : BitVec 4).toNat) = false) ∧
    (w_LiftEnds_2.cluRuns (0 : BitVec 4).toNat = true ∧
      w_LiftEnds_2.liftDue (0 : BitVec 4).toNat (w_LiftEnds_2.cluster (0 : BitVec 4).toNat).liftDone = some 3 ∧
      w_LiftEnds_2.b (CLU_KILN_CFG_WB_EN (0 : BitVec 4).toNat) = true ∧
      max 1 (w_LiftEnds_2.f (CLU_KILN_CFG_K (0 : BitVec 4).toNat)) ≤ (w_LiftEnds_2.cluster (0 : BitVec 4).toNat).lifts + 1 ∧
      (w_LiftEnds_2.cluster (0 : BitVec 4).toNat).kset = none ∧ w_LiftEnds_2.b (KILN_FREE_BUDGET (0 : BitVec 4).toNat) = false ∧
      w_LiftEnds_2.liftPast (0 : BitVec 4).toNat 3 = false ∧ (w_LiftEnds_2.cluster (0 : BitVec 4).toNat).cdirty = [] ∧
      w_LiftEnds_2.dirtyRows (0 : BitVec 4).toNat = [2] ∧
      w_LiftEnds_2.reads (iCLU (0 : BitVec 4).toNat) (w_LiftEnds_2.mine (w_LiftEnds_2.blockAt (Map.get 0 (w_LiftEnds_2.cluster (0 : BitVec 4).toNat).kmap 2))) 64 (centreRouter (0 : BitVec 4).toNat 0) = true) := by decide +kernel

theorem witness_LiftEnds_2 :
    (w_LiftEnds_3.cluRuns (0 : BitVec 4).toNat = true ∧
      w_LiftEnds_3.liftDue (0 : BitVec 4).toNat (w_LiftEnds_3.cluster (0 : BitVec 4).toNat).promoDone = some 3 ∧
      w_LiftEnds_3.b (CLU_PROMO_CFG_EN (0 : BitVec 4).toNat) = true ∧ (w_LiftEnds_3.cluster (0 : BitVec 4).toNat).bad = [] ∧
      (∀ p ∈ (w_LiftEnds_3.cluster (0 : BitVec 4).toNat).cdir, w_LiftEnds_3.shmRetired (0 : BitVec 4).toNat (w_LiftEnds_3.hitOff (0 : BitVec 4).toNat p.1) = false) ∧
      (∀ t ∈ clusterTiles (0 : BitVec 4).toNat, w_LiftEnds_3.tileUp t = true → w_LiftEnds_3.b (TILE_PROMO_CFG_EN t) = false) ∧
      (∀ p ∈ (w_LiftEnds_3.cluster (0 : BitVec 4).toNat).cdir, w_LiftEnds_3.ldN 2 (shmBase (0 : BitVec 4).toNat + w_LiftEnds_3.hitOff (0 : BitVec 4).toNat p.1) < w_LiftEnds_3.f (CLU_PROMO_CFG_PROMOTE_MIN (0 : BitVec 4).toNat)) ∧
      w_LiftEnds_3.b (CLU_COLD_AGE_BUSY (0 : BitVec 4).toNat) = false) := by decide +kernel

theorem witness_LiftEnds_3 :
    (w_LiftEnds_4.cluRuns (0 : BitVec 4).toNat = true ∧
      w_LiftEnds_4.liftDue (0 : BitVec 4).toNat (w_LiftEnds_4.cluster (0 : BitVec 4).toNat).promoDone = some 3 ∧
      (w_LiftEnds_4.cluster (0 : BitVec 4).toNat).bad = [] ∧
      w_LiftEnds_4.shmRetired (0 : BitVec 4).toNat (w_LiftEnds_4.hitOff (0 : BitVec 4).toNat 5) = false ∧
      (w_LiftEnds_4.cluster (0 : BitVec 4).toNat).cdir = [(5, 7 * 32768 + 3)] ∧
      (w_LiftEnds_4.cluster (0 : BitVec 4).toNat).promo = [] ∧ w_LiftEnds_4.b (TILE_PROMO_CFG_EN 7) = true ∧
      w_LiftEnds_4.f (CLU_PROMO_CFG_PROMOTE_MIN (0 : BitVec 4).toNat) ≤ w_LiftEnds_4.ldN 2 (shmBase (0 : BitVec 4).toNat + w_LiftEnds_4.hitOff (0 : BitVec 4).toNat 5) ∧
      w_LiftEnds_4.synW 7 3 = coldDesc ∧ ((Desc.ofWord coldDesc)).cold = true ∧ ((Desc.ofWord coldDesc)).len ≤ w_LiftEnds_4.slotSize 7 ∧
      w_LiftEnds_4.poolBase 7 + w_LiftEnds_4.slotSize 7 ≤ 32768 ∧ w_LiftEnds_4.f (TILE_RETIRE_SYN 7) = 0 ∧
      w_LiftEnds_4.reads (iCLU (0 : BitVec 4).toNat) (w_LiftEnds_4.mine (synBase 7 + 8 * 3)) 8 (centreRouter (0 : BitVec 4).toNat 0) = true ∧
      w_LiftEnds_4.reads (iCLU (0 : BitVec 4).toNat) (w_LiftEnds_4.mine (w_LiftEnds_4.coldLocal (0 : BitVec 4).toNat ((Desc.ofWord coldDesc)).addr)) (ceilDiv ((Desc.ofWord coldDesc)).len 16 * 128) (centreRouter (0 : BitVec 4).toNat 0) = true) := by decide +kernel

/-- A mounted kiln whose ring 15 holds one descriptor, at the last place before HEAD wraps. -/
def kRing (op lrow set : Nat) : State := (((((((live.setF (PAGE_EN .kiln 0) 1).setF KILN_STAT_MOUNTED 1).setF (KILN_RING_CFG_EN 15) 1).setF
  (KILN_RING_PTR_HEAD 15) 0xFFFF).setF (KILN_SLICE_SIZE16 15) 1).setF (KILN_SEAL_SET 15) 5).modKslice 15 fun k => { k with hasSet := true }).stBytes
  (shmBase 15 + 240) ([op] ++ bytesLE 3 lrow ++ bytesLE 2 set ++ [0, 0] ++ bytesLE 8 0)

theorem witness_KilnRingAndUnit :
    (live.domOn dKILN = true) ∧
    (live.en .kiln 0 = false) := by decide +kernel

def w_KilnDescriptors_1 : State := kRing 1 2 5

def w_KilnDescriptors_2 : State := (kRing 2 15 0).modKslice 15 fun k => { k with hasSet := false }

def w_KilnDescriptors_3 : State := ((kRing 3 1 6).setF (KILN_FREE_BUDGET 15) 1).modKslice 15 fun k => { k with opened := some 6 }

def w_KilnDescriptors_4 : State := kRing 3 0 5

/-- The descriptor's ADDR is in tile 7's synapse memory, which holds a pattern. -/
def kMove (op lrow set : Nat) : State := ((kRing op lrow set).stBytes (shmBase 15 + 248) (bytesLE 8 (synBase 7 + 128 + 2 ^ 38 * 0x3FF))).stBytes (synBase 7 + 128) (List.range 64)
def kPut (op lrow : Nat) : State := (kMove op lrow 6).modKslice 15 fun k => { k with q1 := [0xA401, 0xA405], next := 1, used := [0xA402] }

def w_KilnDescriptors_5 : State := kPut 1 9

def w_KilnDescriptors_6 : State := kPut 3 9

/-- Logical row 9 of slice 15 has a good copy in row 0xA401 of set 5. -/
def kHas : State := (((kMove 2 9 6).modKslice 15 fun k => { k with q1 := [0xA401], next := 1 }).placeRow 15 9 5 7).getD live

theorem witness_KilnDescriptors :
    (w_KilnDescriptors_1.ringTurn = some 15 ∧ (w_KilnDescriptors_1.cluster 15).bad = [] ∧ (w_KilnDescriptors_1.cluster 15).kset = none ∧
      w_KilnDescriptors_1.shmRetired 15 (w_KilnDescriptors_1.ringAt 15 (w_KilnDescriptors_1.f (KILN_RING_PTR_HEAD 15))) = false ∧
      (w_KilnDescriptors_1.ringHead 15).2.op = 1 ∧ w_KilnDescriptors_1.setOk 15 (w_KilnDescriptors_1.ringHead 15).2.set = false) ∧
    (w_KilnDescriptors_2.ringTurn = some 15 ∧ (w_KilnDescriptors_2.ringHead 15).2.op = 2 ∧
      w_KilnDescriptors_2.lrowOk 15 0 (w_KilnDescriptors_2.ringHead 15).2.lrow = true ∧
      w_KilnDescriptors_2.kilnCopy 15 (w_KilnDescriptors_2.ringHead 15).2.lrow = none) := by decide +kernel

theorem witness_KilnDescriptors_2 :
    (w_KilnDescriptors_3.ringTurn = some 15 ∧ (w_KilnDescriptors_3.ringHead 15).2.op = 3 ∧
      w_KilnDescriptors_3.setOk 15 (w_KilnDescriptors_3.ringHead 15).2.set = true ∧
      w_KilnDescriptors_3.lrowOk 15 1 (w_KilnDescriptors_3.ringHead 15).2.lrow = true ∧ w_KilnDescriptors_3.f (KILN_SLICE_SIZE16 15) ≠ 0 ∧
      w_KilnDescriptors_3.b (KILN_FREE_BUDGET 15) = true ∧
      (w_KilnDescriptors_3.kslice 15).opened = some (w_KilnDescriptors_3.ringHead 15).2.set) ∧
    (w_KilnDescriptors_4.ringTurn = some 15 ∧ (w_KilnDescriptors_4.ringHead 15).2.op = 3 ∧
      w_KilnDescriptors_4.setOk 15 (w_KilnDescriptors_4.ringHead 15).2.set = false) := by decide +kernel

theorem witness_KilnDescriptors_3 :
    (w_KilnDescriptors_5.ringTurn = some 15 ∧ (w_KilnDescriptors_5.cluster 15).bad = [] ∧ (w_KilnDescriptors_5.cluster 15).kset = none ∧
      w_KilnDescriptors_5.shmRetired 15 (w_KilnDescriptors_5.ringAt 15 (w_KilnDescriptors_5.f (KILN_RING_PTR_HEAD 15))) = false ∧
      (w_KilnDescriptors_5.ringHead 15).2.op = 1 ∧ w_KilnDescriptors_5.lrowOk 15 1 (w_KilnDescriptors_5.ringHead 15).2.lrow = true ∧
      w_KilnDescriptors_5.setOk 15 (w_KilnDescriptors_5.ringHead 15).2.set = true ∧ w_KilnDescriptors_5.b (KILN_FREE_BUDGET 15) = false ∧
      (w_KilnDescriptors_5.kslice 15).opened = none ∧ (w_KilnDescriptors_5.kslice 15).turn = some 1 ∧
      (w_KilnDescriptors_5.kslice 15).queue 1 = 0xA401 :: [0xA405] ∧
      w_KilnDescriptors_5.reads iENGINE ((((w_KilnDescriptors_5.ringHead 15).2.addr / 64) * 64)) 64 sysRouter = true) := by decide +kernel

theorem witness_KilnDescriptors_4 :
    (w_KilnDescriptors_6.ringTurn = some 15 ∧ (w_KilnDescriptors_6.ringHead 15).2.op = 3 ∧
      w_KilnDescriptors_6.f (KILN_SLICE_SIZE16 15) ≠ 0 ∧ w_KilnDescriptors_6.setOk 15 (w_KilnDescriptors_6.ringHead 15).2.set = true ∧
      w_KilnDescriptors_6.reads iENGINE ((((w_KilnDescriptors_6.ringHead 15).2.addr / 64) * 64)) 64 sysRouter = true) ∧
    (kHas.ringTurn = some 15 ∧ (kHas.cluster 15).bad = [] ∧ (kHas.cluster 15).kset = none ∧ (kHas.ringHead 15).2.op = 2 ∧
      kHas.lrowOk 15 0 (kHas.ringHead 15).2.lrow = true ∧ kHas.kilnCopy 15 (kHas.ringHead 15).2.lrow = some 0xA401 ∧
      (kHas.krow 0xA401).good = true ∧
      kHas.writes iENGINE ((((kHas.ringHead 15).2.addr / 64) * 64)) 64 sysRouter = true) := by decide +kernel

def w_KilnRowWritten : State := (live.setF (KILN_FREE_FREE 15) 2).modKslice 15 fun k => { k with q3 := [0xA403, 0xA407], next := 1, used := [0xA400] }

theorem witness_KilnRowWritten :
    ((w_KilnRowWritten.kslice 15).turn = some 3 ∧ (w_KilnRowWritten.kslice 15).queue 3 = 0xA403 :: [0xA407]) := by decide +kernel

theorem witness_PortRelease :
    (live.boot.run = none ∧ live.f BOOT_STATUS_NEXT = 1 ∧ live.f (BOOT_LOG_RESULT 0) = 0) := by decide +kernel

def w_RegisterFields_2 : State := live.setF (RT_SINK_PKTS 1023) 5

def w_RegisterFields_3 : State := (live.setF (RT_CFG_CMB_EN 1023) 1).setF (PAGE_EN .rt 1023) 1

theorem witness_RegisterFields :
    (pageOf (0x1B050 : BitVec 26).toNat = some (.crc, 3) ∧ Block.crc.decodeOff ((0x1B050 : BitVec 26).toNat % 0x1000) = (0x050) ∧
      0x01C ≤ (0x050) ∧ live.fwAllows (23 : BitVec 5).toNat (0x1B050 : BitVec 26).toNat true = true ∧ live.pageServes .crc 3 = true ∧
      live.pageShut (23 : BitVec 5).toNat (0x1B050 : BitVec 26).toNat = none) ∧
    (pageOf (0x8FF068 : BitVec 26).toNat = some (.rt, 1023) ∧ Block.rt.decodeOff ((0x8FF068 : BitVec 26).toNat % 0x1000) = (0x068) ∧
      w_RegisterFields_2.fwAllows (3 : BitVec 5).toNat (0x8FF068 : BitVec 26).toNat false = true ∧
      w_RegisterFields_2.pageServes .rt 1023 = true ∧
      w_RegisterFields_2.pageShut (3 : BitVec 5).toNat (0x8FF068 : BitVec 26).toNat = none) ∧
    (pageOf (0x8FF044 : BitVec 26).toNat = some (.rt, 1023) ∧
      w_RegisterFields_3.fwAllows (3 : BitVec 5).toNat (0x8FF044 : BitVec 26).toNat true = true ∧
      w_RegisterFields_3.pageServes .rt 1023 = true ∧
      w_RegisterFields_3.pageShut (3 : BitVec 5).toNat (0x8FF044 : BitVec 26).toNat = none ∧
      (w_RegisterFields_3.b (RT_CFG_CMB_EN 1023) = false ∨ w_RegisterFields_3.en .rt 1023 = true)) := by decide +kernel

def w_AccessRefused_3 : State := (live.setF (FWC_FWW_SIZE_SIZE 31) 12).setF (FWC_FWW_BASE_BASE 31) 5 |>.setF (FWC_FWW_RMASK_RMASK 31) 1

def w_AccessRefused_4 : State := live.setF PWR_ON 1

def w_AccessRefused_5 : State := live.setF MTR_COLLAR_W_SINK 1

theorem witness_AccessRefused :
    (pageOf (0x3FFFFFC : BitVec 26).toNat = none) ∧
    (pageOf (0x5044 : BitVec 26).toNat ≠ none ∧ live.fwAllows (3 : BitVec 5).toNat (0x5044 : BitVec 26).toNat true = false ∧
      live.b FWC_FW_LAST_VALID = false) ∧
    (w_AccessRefused_3.fwAllows (3 : BitVec 5).toNat (0x5044 : BitVec 26).toNat false = false) ∧
    (pageOf (0x8040 : BitVec 26).toNat = some (.csi, 0) ∧ w_AccessRefused_4.pageServes .csi 0 = false ∧
      w_AccessRefused_4.fwAllows (3 : BitVec 5).toNat (0x8040 : BitVec 26).toNat true = true ∧
      w_AccessRefused_4.fwAllows (3 : BitVec 5).toNat (0x8040 : BitVec 26).toNat false = true ∧
      w_AccessRefused_4.pageShut (3 : BitVec 5).toNat (0x8040 : BitVec 26).toNat = none) ∧
    (pageOf (0x8FF044 : BitVec 26).toNat = some (.rt, 1023) ∧
      w_AccessRefused_5.pageShut (3 : BitVec 5).toNat (0x8FF044 : BitVec 26).toNat ≠ none ∧
      w_AccessRefused_5.fwAllows (3 : BitVec 5).toNat (0x8FF044 : BitVec 26).toNat true = true ∧
      w_AccessRefused_5.fwAllows (3 : BitVec 5).toNat (0x8FF044 : BitVec 26).toNat false = true) := by decide +kernel

def w_PageHeader_1 : State := live.setF (INT_ENABLE .tile 31) 4

def w_PageHeader_3 : State := live.setF (PAGE_EN .crc 3) 1

def memReq : MemReq := { chan := 47, line := 9, head := { dtile := 0x3FB, dchip := 0, dgw := true, stile := 4, schip := 0, sgw := false, tag := 1, size := 3, addr := 0x700000240 } }

def w_PageHeader_3b : State := (((live.setF (PAGE_EN .gpio 0) 1).setF GPIO_DIR_DIR 0x8001).setF GPIO_OUT_OUT 0x8000).setF GPIO_IN_IN 0x8000

def w_PageHeader_3c : State := (live.setF GPIO_DIR_DIR 0x8001).setF GPIO_OUT_OUT 0x8000

def w_PageHeader_4 : State := { live.setF (PAGE_EN .mem 47) 1 with memq := [memReq] }

def w_PageHeader_5 : State := (live.setF (PAGE_EN .mem 47) 1).setF (PAGE_DRAINING .mem 47) 1

def w_PageHeader_6 : State := { (live.setF (PAGE_EN .spi 0) 1).setF (PAGE_DRAINING .spi 0) 1 with spi := { queue := [(4, 5), (8, 6)] } }

def rqHead (a : Nat) (z : BitVec 2) (r : BitVec 10) : ReqHead := { dtile := r, dchip := 0, dgw := false, stile := 4, schip := 0, sgw := false, tag := 9, size := z, addr := BitVec.ofNat 38 a }

theorem witness_PageHeader :
    (pageOf ((0x11F : BitVec 14).toNat * 0x1000) = some (.tile, 31) ∧ w_PageHeader_1.pageServes .tile 31 = true) ∧
    (pageOf ((0x1B : BitVec 14).toNat * 0x1000) = some (.crc, 3) ∧ w_PageHeader_3.pageServes .crc 3 = true ∧
      w_PageHeader_3.actv .crc 3 = true) ∧
    (pageOf ((0x11 : BitVec 14).toNat * 0x1000) = some (.gpio, 0) ∧ w_PageHeader_3b.pageServes .gpio 0 = true ∧
      w_PageHeader_3b.actv .gpio 0 = true) ∧
    (pageOf ((0x11 : BitVec 14).toNat * 0x1000) = some (.gpio, 0) ∧ w_PageHeader_3c.pageServes .gpio 0 = true ∧
      w_PageHeader_3c.draining .gpio 0 = false ∧ w_PageHeader_3c.en .gpio 0 = false) ∧
    (pageOf ((0x4F : BitVec 14).toNat * 0x1000) = some (.mem, 47) ∧ w_PageHeader_4.pageServes .mem 47 = true ∧
      w_PageHeader_4.actv .mem 47 = true ∧ w_PageHeader_4.memHeld 47 ≠ []) := by decide +kernel

theorem witness_PageHeader_2 :
    (w_PageHeader_5.pageServes .mem 47 = true ∧ w_PageHeader_5.draining .mem 47 = true ∧ w_PageHeader_5.memHeld 47 = []) ∧
    (pageOf ((0x12 : BitVec 14).toNat * 0x1000) = some (.spi, 0) ∧ w_PageHeader_6.pageServes .spi 0 = true ∧
      w_PageHeader_6.en .spi 0 = true ∧ w_PageHeader_6.draining .spi 0 = true ∧ w_PageHeader_6.f (DRAIN_TIMEOUT .spi 0) ≠ 0) ∧
    (pageOf ((0x5F : BitVec 14).toNat * 0x1000) = some (.clu, 15) ∧ live.pageServes .clu 15 = true ∧ live.draining .clu 15 = false ∧
      live.en .clu 15 = false) := by decide +kernel

def w_RequestsServed_1 : State := live.stBytes (winBase 31 + 0x67FE0) (List.range 32)

def fullLane (r : Nat) (inp : Port) (l : LaneId) : Flight := { pkt := .readRsp { dtile := 9, dchip := 0, dgw := false, status := 0, hstat := 0, tag := 1, size := 3 } [1, 2, 3, 4], at_ := r, inp := inp, lane := l, escape := true }

def w_RequestsServed_1b : State := { live with flights := [fullLane 31 .loc .h, { fullLane 31 .loc .h with escape := false }] }

def w_RequestsServed_2 : State := live.setTile 31 { holds := [({ word := 100, mem := 1, mask := 1, fw := false } : Hold)], bad := [(badKey 3 8190, 3)] }

def memOn : State := { (((live.setF (PAGE_EN .mem 47) 1).setF (MEM_IL_IN_IL 47) 1).setF (MEM_LINES_CW 47) 64).setF (MEM_CFG_DEVS 47) 2 with memE := { act := [47], cw := 64 } }

def rpHead (tag : BitVec 8) (gw : Bool) (chip : BitVec 10) : RspHead := { dtile := 31, dchip := chip, dgw := gw, status := 0, hstat := 0, tag := tag, size := 1 }

theorem witness_RequestsServed :
    (((rqHead (winBase 31 + 0x67FE0) 3 31)).dchip.toNat = w_RequestsServed_1.chipId ∧
      w_RequestsServed_1.routerOn ((rqHead (winBase 31 + 0x67FE0) 3 31)).dtile.toNat = true ∧
      w_RequestsServed_1.fwAllows iDEBUG (reqAt ((rqHead (winBase 31 + 0x67FE0) 3 31))) false = true ∧
      w_RequestsServed_1.place (reqAt ((rqHead (winBase 31 + 0x67FE0) 3 31))) = .tile 31 0x67FE0 ∧
      w_RequestsServed_1.tileServes 31 = true ∧ w_RequestsServed_1.parClean 31 = true ∧
      (∀ w ∈ tileWords 0x67FE0 (sizeBytes ((rqHead (winBase 31 + 0x67FE0) 3 31)).size), w_RequestsServed_1.retiredWord 31 (tileMem 0x67FE0).1 w.1 = false) ∧
      w_RequestsServed_1.roomFor ((rqHead (winBase 31 + 0x67FE0) 3 31)).dtile.toNat .loc (.readRsp (rspOf ((rqHead (winBase 31 + 0x67FE0) 3 31)) .ok) (byteFlits (sizeBytes ((rqHead (winBase 31 + 0x67FE0) 3 31)).size) (w_RequestsServed_1.bytes (sizeBytes ((rqHead (winBase 31 + 0x67FE0) 3 31)).size) (winBase 31 + 0x67FE0)))) = true) ∧
    (w_RequestsServed_1b.parClean 31 = true ∧
      w_RequestsServed_1b.sendReply ((rqHead (winBase 31 + 0x67FE0) 3 31)) (.readRsp (rspOf ((rqHead (winBase 31 + 0x67FE0) 3 31)) .ok) (byteFlits (sizeBytes ((rqHead (winBase 31 + 0x67FE0) 3 31)).size) (w_RequestsServed_1b.bytes (sizeBytes ((rqHead (winBase 31 + 0x67FE0) 3 31)).size) (winBase 31 + 0x67FE0)))) = none) ∧
    (w_RequestsServed_2.fwAllows iDEBUG (reqAt ((rqHead (winBase 31 + 0x67FE0) 3 31))) true = true ∧
      w_RequestsServed_2.place (reqAt ((rqHead (winBase 31 + 0x67FE0) 3 31))) = .tile 31 0x67FE0 ∧ (tileMem 0x67FE0).1 ≠ 2 ∧
      (∀ w ∈ tileWords 0x67FE0 (sizeBytes ((rqHead (winBase 31 + 0x67FE0) 3 31)).size), w_RequestsServed_2.writeWaits 31 (tileMem 0x67FE0).1 w.1 = false) ∧
      w_RequestsServed_2.roomFor ((rqHead (winBase 31 + 0x67FE0) 3 31)).dtile.toNat .loc (.writeAck (rspOf ((rqHead (winBase 31 + 0x67FE0) 3 31)) .ok)) = true) := by decide +kernel

theorem witness_RequestsServed_2 :
    (((rqHead 0x700000FC0 3 0x1B)).dchip.toNat = memOn.chipId ∧ memOn.routerOn ((rqHead 0x700000FC0 3 0x1B)).dtile.toNat = true ∧
      memOn.fwAllows iDEBUG (reqAt ((rqHead 0x700000FC0 3 0x1B))) false = true ∧
      memOn.fwAllows iDEBUG (reqAt ((rqHead 0x700000FC0 3 0x1B))) true = true ∧
      memOn.place (reqAt ((rqHead 0x700000FC0 3 0x1B))) = .ext 47 63 0 ∧ memOn.memUp 47 = true) ∧
    (((rqHead 0x700001000 3 0x1B)).dchip.toNat = memOn.chipId ∧ memOn.routerOn ((rqHead 0x700001000 3 0x1B)).dtile.toNat = true ∧
      memOn.place (reqAt ((rqHead 0x700001000 3 0x1B))) = .unmapped) := by decide +kernel

def openBuf : ReplyBuf := { thread := 2, lane := 0, kind := .store, tag := 15 }

def w_RepliesTaken_2b : State := live.setTile 31 { bufs := [openBuf] }

def w_RepliesTaken_2c : State := live.setCore 18 { busy := true }

def spk (dt : BitVec 10) : Packet := .spikeUC dt 0 7 1 3 0
def hopFlight : Flight := { pkt := spk 14, at_ := 13, inp := .west, lane := .x, escape := true }

theorem witness_RepliesTaken :
    (((rpHead 0x5E false 0)).dchip.toNat = live.chipId ∧ (((rpHead 0x5E false 0)).dgw = true ∨ (16 ≤ ((rpHead 0x5E false 0)).tag.toNat ∧
      ((rpHead 0x5E false 0)).tag.toNat ≠ tagREFETCH ∧
      coldPlace ((rpHead 0x5E false 0)).dtile.toNat ((rpHead 0x5E false 0)).tag.toNat = none)) ∧
      (decide (0x60 ≤ ((rpHead 0x5E false 0)).tag.toNat % 128) && decide (((rpHead 0x5E false 0)).tag.toNat % 128 < 0x73)) = false) ∧
    (((rpHead 15 false 0)).dchip.toNat = live.chipId ∧ ((rpHead 15 false 0)).tag.toNat < 16 ∧ ((rpHead 15 false 0)).dgw = false ∧
      (∀ b ∈ (live.tile ((rpHead 15 false 0)).dtile.toNat).bufs, b.issued = true → b.reply = none → b.tag ≠ ((rpHead 15 false 0)).tag.toNat)) ∧
    ((w_RepliesTaken_2b.tile ((rpHead 15 false 0)).dtile.toNat).bufs.find? (fun x => x.issued && x.reply == none && x.tag == ((rpHead 15 false 0)).tag.toNat) = some openBuf ∧
      openBuf.dead = false ∧ (∀ x ∈ (w_RepliesTaken_2b.tile ((rpHead 15 false 0)).dtile.toNat).bufs, x.issued = true)) ∧
    ((16 ≤ ((rpHead 0x72 false 0)).tag.toNat ∨ ((rpHead 0x72 false 0)).dgw = true) ∧
      (decide (0x60 ≤ ((rpHead 0x72 false 0)).tag.toNat % 128) && decide (((rpHead 0x72 false 0)).tag.toNat % 128 < 0x73)) = true ∧
      (w_RepliesTaken_2c.core (((rpHead 0x72 false 0)).tag.toNat % 128 - 0x60)).busy = true) ∧
    (((rpHead 15 true 1)).dchip.toNat ≠ live.chipId) := by decide +kernel

def w_PacketsMoveOn_1 : State := { live with flights := [hopFlight] }

def brFlight : Flight := { pkt := spk 1010, at_ := 1008, inp := .east, lane := .x, escape := true, bridge := true }

def w_PacketsMoveOn_2 : State := { live with flights := [brFlight] }

def psB : PsumBuf := { at_ := 1023, buf := 31, inp := .west, lane := .x, dtile := 1022, dchip := 0, neuron := 16383, step := 255, ccount := 63, sum := 5 }

def psF : Flight := { pkt := psB.packet, at_ := 1023, inp := .west, lane := .x, escape := true, arr := none }

def w_PacketsMoveOn_3 : State := { live.setF (RT_CFG_CMB_EN 1022) 0 with psums := [psB] }

theorem witness_PacketsMoveOn :
    (w_PacketsMoveOn_1.flightAt (13 : BitVec 10).toNat 0 = some hopFlight ∧ hopFlight.at_ = (13 : BitVec 10).toNat ∧
      hopFlight.pkt = spk 14 ∧ hopFlight.escape = true ∧ (0 : BitVec 10).toNat = w_PacketsMoveOn_1.chipId ∧
      w_PacketsMoveOn_1.isHead hopFlight = true ∧ w_PacketsMoveOn_1.drainSync.granted hopFlight = hopFlight ∧
      (∀ b ∈ w_PacketsMoveOn_1.psums, b.at_ = (13 : BitVec 10).toNat → b.due = false) ∧
      w_PacketsMoveOn_1.routerOn (13 : BitVec 10).toNat = true ∧ tieOfRouter (13 : BitVec 10).toNat = none ∧
      crossesCollar (13 : BitVec 10).toNat (((xDir 13 14).getD ((yDir 13 14).getD .loc))) = false ∧
      w_PacketsMoveOn_1.routerOn (portStep (13 : BitVec 10).toNat (((xDir 13 14).getD ((yDir 13 14).getD .loc)))) = true ∧
      (w_PacketsMoveOn_1.dropFlight hopFlight).laneRoom (portStep (13 : BitVec 10).toNat (((xDir 13 14).getD ((yDir 13 14).getD .loc)))) (portOpp (((xDir 13 14).getD ((yDir 13 14).getD .loc)))) hopFlight.pkt hopFlight.lane false = true) := by decide +kernel

theorem witness_PacketsMoveOn_2 :
    (w_PacketsMoveOn_2.bridgeAt (collarFrom (31 : BitVec 5).toNat false) 0 = some brFlight ∧ w_PacketsMoveOn_2.isHead brFlight = true ∧
      brFlight.escape = true ∧ (brFlight.pkt.cls = some .ev ∨ brFlight.pkt.cls = some .rp) ∧
      w_PacketsMoveOn_2.routerOn ((31 : BitVec 5).toNat * 32 + 15) = true ∧
      (w_PacketsMoveOn_2.dropFlight brFlight).laneRoom ((31 : BitVec 5).toNat * 32 + 15) .east brFlight.pkt brFlight.lane false = true) := by decide +kernel

theorem witness_PacketsMoveOn_3 :
    (psB ∈ w_PacketsMoveOn_3.psums ∧ psB.at_ = 1023 ∧ psB.buf = 31 ∧
      (∀ c ∈ w_PacketsMoveOn_3.psums, c.at_ = 1023 → c.due = true ∨ c.buf = 31 → c = psB) ∧ psB.dchip.toNat = w_PacketsMoveOn_3.chipId ∧
      psF.at_ ≠ psB.dtile.toNat ∧ w_PacketsMoveOn_3.routerOn psF.at_ = true ∧
      crossesCollar 1023 ((xDir 1023 1022).getD ((yDir 1023 1022).getD .loc)) = false ∧
      w_PacketsMoveOn_3.routerOn (portStep 1023 ((xDir 1023 1022).getD ((yDir 1023 1022).getD .loc))) = true ∧
      w_PacketsMoveOn_3.laneRoom 1022 .east psF.pkt psF.lane false = true ∧
      w_PacketsMoveOn_3.b (RT_CFG_CMB_EN 1022) = false) := by decide +kernel

def w_MortarControl_2 : State := live.wr MTR_INJ_HOLD.addr 1

def w_MortarControl_3 : State := { live with flights := [{ fullLane 1023 .west .x with escape := false }] }

def w_MortarControl_4 : State := { live.setF MTR_COLLAR_E_SINK 1 with collarStep := 254 }

def w_MortarControl_5 : State := live.setF (FWC_CORE_STAT_STATE 18) cLOAD

def tie3 (st : Nat) (x : Tie) : State := (live.setF (TIE_STAT_STATE 3) st).setTie 3 x
def tieMgr (st : Nat) (x : Tie) : State := (tie3 st x).setF SYS_CHIP_ID_MANAGER 1

theorem witness_MortarControl :
    (w_MortarControl_2.wytheDrained true = true ∧ w_MortarControl_2.rd MTR_INJ_HOLD.addr ≠ 0 ∧ w_MortarControl_2.drainE = false) ∧
    (w_MortarControl_3.routerOn (1023 : BitVec 10).toNat = true ∧ w_MortarControl_3.en .rt (1023 : BitVec 10).toNat = true ∧
      (∀ b ∈ w_MortarControl_3.psums, b.at_ ≠ (1023 : BitVec 10).toNat) ∧
      w_MortarControl_3.rtBusy (1023 : BitVec 10).toNat = true) ∧
    (live.routerOn (1023 : BitVec 10).toNat = true ∧ live.en .rt (1023 : BitVec 10).toNat = true ∧
      live.rtBusy (1023 : BitVec 10).toNat = false) ∧
    (w_MortarControl_4.collarSinks false = true ∧
      (stepClass (255 : BitVec 8).toNat w_MortarControl_4.collarStep).counted = true) := by decide +kernel

theorem witness_MortarControl_2 :
    (w_MortarControl_5.domOn (dCLU (15 : BitVec 4).toNat) = true ∧ w_MortarControl_5.coreState (3 + (15 : BitVec 4).toNat) = cLOAD ∧
      (([0x0102030405060708] : List (BitVec 64))) ≠ [] ∧
      8 * (0x7FFF : BitVec 24).toNat + 8 * (([0x0102030405060708] : List (BitVec 64))).length ≤ 0x40000 ∧
      (w_MortarControl_5.cluster (15 : BitVec 4).toNat).bad = [] ∧
      bitAt (w_MortarControl_5.f (CLU_RETIRE_BANK_BANK (15 : BitVec 4).toNat)) 0 = false ∧
      w_MortarControl_5.b (CLU_SEC_WIN_WIPING 0) = false) ∧
    (live.domOn (dCLU (15 : BitVec 4).toNat) = true ∧ live.coreState (3 + (15 : BitVec 4).toNat) ≠ cLOAD) := by decide +kernel

def w_TieTraining_1 : State := tie3 5 {}

def w_TieTraining_2 : State := tieMgr 1 { token := true }

def w_TieTraining_3 : State := tie3 1 {}

def w_TieTraining_4 : State := tie3 2 { width := 2 }

def w_TieTraining_5 : State := tie3 2 { width := 3 }

def w_TieTraining_6 : State := tie3 3 { retry := [{ seq := 3, tree := true, dvc := false, pkt := .seal 1 }], txSeq := 4, rxSeq := 9 }

theorem witness_TieTraining :
    (w_TieTraining_1.domOn dTIE = true ∧ w_TieTraining_1.actv .tie (3 : BitVec 2).toNat = true ∧
      (w_TieTraining_1.f (TIE_STAT_STATE (3 : BitVec 2).toNat) = 1 ∨ w_TieTraining_1.f (TIE_STAT_STATE (3 : BitVec 2).toNat) = 5)) ∧
    (w_TieTraining_2.f (TIE_STAT_STATE (3 : BitVec 2).toNat) = 1 ∧ w_TieTraining_2.isManager = true ∧
      (w_TieTraining_2.tieAt (3 : BitVec 2).toNat).token = true) ∧
    (w_TieTraining_3.f (TIE_STAT_STATE (3 : BitVec 2).toNat) = 1 ∧ w_TieTraining_3.isManager = false) ∧
    (w_TieTraining_4.f (TIE_STAT_STATE (3 : BitVec 2).toNat) = 2 ∧ (w_TieTraining_4.tieAt (3 : BitVec 2).toNat).width = 2 ∧
      (3 : BitVec 4).toNat &&& widthLanes 2 = widthLanes 2 ∧ (12 : BitVec 4).toNat &&& widthLanes 2 = 0) ∧
    (w_TieTraining_5.f (TIE_STAT_STATE (3 : BitVec 2).toNat) = 2 ∧ (w_TieTraining_5.tieAt (3 : BitVec 2).toNat).width = 3) ∧
    (w_TieTraining_6.f (TIE_STAT_STATE (3 : BitVec 2).toNat) = 3 ∧ w_TieTraining_6.b SYS_CHIP_ID_ASSIGNED = false) := by decide +kernel

def w_TieEnumeration_1 : State := tie3 4 {}

def w_TieEnumeration_2 : State := ((tie3 4 {}).setF SYS_CHIP_ID_ASSIGNED 1).setF SYS_CHIP_ID_CHIP_ID 2

def w_TieEnumeration_3 : State := (tieMgr 4 {}).setF (TIE_ENUM_CHIPS 0) 65535

def w_TieEnumeration_4 : State := tieMgr 4 {}

def goodCrc (seq : Nat) (hdr : BitVec 32) (d : List (BitVec 64)) : BitVec 32 := BitVec.ofNat 32 (frameCrc (seqInit seq) hdr.toNat d)

theorem witness_TieEnumeration :
    (w_TieEnumeration_1.tieUp (3 : BitVec 2).toNat = true ∧ w_TieEnumeration_1.isManager = false ∧
      w_TieEnumeration_1.b SYS_CHIP_ID_ASSIGNED = false) ∧
    (w_TieEnumeration_2.tieUp (3 : BitVec 2).toNat = true ∧ w_TieEnumeration_2.isManager = false ∧
      w_TieEnumeration_2.b SYS_CHIP_ID_ASSIGNED = true ∧ (1023 : BitVec 10).toNat ≠ w_TieEnumeration_2.chipId ∧
      (w_TieEnumeration_2.tieAt 3).due = [] ∧ (w_TieEnumeration_2.tieAt 3).egress = [] ∧ (w_TieEnumeration_2.tieAt 3).tree = [] ∧
      (w_TieEnumeration_2.tieAt 3).relay = [] ∧ (w_TieEnumeration_2.tieAt 3).linkq = [] ∧ (w_TieEnumeration_2.tieAt 3).ending = false ∧
      (w_TieEnumeration_2.tieAt 3).retry.length < 256 ∧ 2 ≤ (w_TieEnumeration_2.tieAt 3).credits 8 ∧
      w_TieEnumeration_2.reserved 3 8 ≤ 62) := by decide +kernel

theorem witness_TieEnumeration_2 :
    (w_TieEnumeration_3.tieUp (3 : BitVec 2).toNat = true ∧ w_TieEnumeration_3.isManager = true) ∧
    (w_TieEnumeration_4.tieUp (3 : BitVec 2).toNat = true ∧ (w_TieEnumeration_4.tieAt 3).due = [] ∧
      (w_TieEnumeration_4.tieAt 3).egress = [] ∧ (w_TieEnumeration_4.tieAt 3).tree = [] ∧ (w_TieEnumeration_4.tieAt 3).relay = [] ∧
      (w_TieEnumeration_4.tieAt 3).linkq = [] ∧ (w_TieEnumeration_4.tieAt 3).ending = false ∧
      (w_TieEnumeration_4.tieAt 3).retry.length < 256 ∧ 2 ≤ (w_TieEnumeration_4.tieAt 3).credits 8 ∧
      w_TieEnumeration_4.reserved 3 8 ≤ 62) := by decide +kernel

def w_TieFrames_1 : State := tie3 4 { rxSeq := 65535 }

def w_TieFrames_4 : State := tie3 4 { retry := [{ seq := 1, tree := true, dvc := false, pkt := .seal 1 }, { seq := 2, tree := true, dvc := false, pkt := .seal 2 }], txSeq := 3 }

def w_TieFrames_7 : State := (tie3 4 { retry := [{ seq := 1, tree := true, dvc := false, pkt := .seal 1, resends := 6 }], txSeq := 2 }).setF (TIE_CFG_RETRY_MAX 3) 7

def frame1 : TieFrame := { seq := 1, tree := false, dvc := false, pkt := spk 14 }

theorem witness_TieFrames :
    (w_TieFrames_1.tieUp (3 : BitVec 2).toNat = true ∧ ¬ (bits (0x10000000 : BitVec 32).toNat 31 28 = 1 ∧
      bits (0x10000000 : BitVec 32).toNat 23 21 + 1 = (((spk 14).flits)).length ∧
      frameCrc (seqInit (w_TieFrames_1.tieAt (3 : BitVec 2).toNat).rxSeq) (0x10000000 : BitVec 32).toNat (((spk 14).flits)) = (0 : BitVec 32).toNat)) ∧
    ((bits (0x10000000 : BitVec 32).toNat 31 28 = 1 ∧ bits (0x10000000 : BitVec 32).toNat 23 21 + 1 = (((spk 14).flits)).length ∧
      frameCrc (seqInit (w_TieFrames_1.tieAt (3 : BitVec 2).toNat).rxSeq) (0x10000000 : BitVec 32).toNat (((spk 14).flits)) = ((goodCrc 65535 0x10000000 (spk 14).flits)).toNat)) ∧
    ((bits (0x10000000 : BitVec 32).toNat 31 28 = 1 ∧ bits (0x10000000 : BitVec 32).toNat 23 21 + 1 = (((spk 14).flits)).length ∧
      frameCrc (seqInit (w_TieFrames_1.tieAt (3 : BitVec 2).toNat).rxSeq) (0x10000000 : BitVec 32).toNat (((spk 14).flits)) = ((goodCrc 65535 0x10000000 (spk 14).flits)).toNat) ∧
      (0 : BitVec 10).toNat = w_TieFrames_1.chipId ∧ (w_TieFrames_1.tieAt 3).ingress = [] ∧ (w_TieFrames_1.tieAt 3).due = [] ∧
      (w_TieFrames_1.tieAt 3).egress = [] ∧ (w_TieFrames_1.tieAt 3).tree = [] ∧ (w_TieFrames_1.tieAt 3).relay = [] ∧
      (w_TieFrames_1.tieAt 3).linkq = [] ∧ (w_TieFrames_1.tieAt 3).ending = false ∧ w_TieFrames_1.b MTR_INJ_HOLD_TIES = false ∧
      w_TieFrames_1.roomFor (tieRouter (3 : BitVec 2).toNat) .gw (spk 14) = true) := by decide +kernel

theorem witness_TieFrames_2 :
    ((bits (0x20000000 : BitVec 32).toNat 31 28 = 2 ∧
      bits (0x20000000 : BitVec 32).toNat 23 21 + 1 = (((Packet.seal 3).flits)).length ∧
      frameCrc (seqInit (w_TieFrames_1.tieAt (3 : BitVec 2).toNat).rxSeq) (0x20000000 : BitVec 32).toNat (((Packet.seal 3).flits)) = ((goodCrc 65535 0x20000000 (Packet.seal 3).flits)).toNat) ∧
      w_TieFrames_1.parentTie ≠ some (3 : BitVec 2).toNat ∧ (w_TieFrames_1.tieAt (3 : BitVec 2).toNat).childDue = false) ∧
    (bits (0x30200000 : BitVec 32).toNat 31 28 = 3 ∧ bits (0x30200000 : BitVec 32).toNat 23 21 = 1 ∧
      frameCrc 0xFFFFFFFF (0x30200000 : BitVec 32).toNat [(5 : BitVec 64), ((BitVec.ofNat 64 (2 * 2 ^ 48)))] = ((BitVec.ofNat 32 (frameCrc 0xFFFFFFFF 0x30200000 [5, BitVec.ofNat 64 (2 * 2 ^ 48)]))).toNat ∧
      bitAt ((BitVec.ofNat 64 (2 * 2 ^ 48))).toNat 47 = false ∧ (w_TieFrames_4.tieAt 3).due = [] ∧ (w_TieFrames_4.tieAt 3).egress = [] ∧
      (w_TieFrames_4.tieAt 3).tree = [] ∧ (w_TieFrames_4.tieAt 3).relay = [] ∧ (w_TieFrames_4.tieAt 3).linkq = [] ∧
      (w_TieFrames_4.tieAt 3).ending = false) ∧
    (¬ (bits (0x30200000 : BitVec 32).toNat 31 28 = 3 ∧ bits (0x30200000 : BitVec 32).toNat 23 21 = 1 ∧
      frameCrc 0xFFFFFFFF (0x30200000 : BitVec 32).toNat [0, 0] = (0 : BitVec 32).toNat)) ∧
    ((w_TieFrames_7.tieAt 3).ending = false ∧
      (∀ x ∈ (w_TieFrames_7.tieAt (3 : BitVec 2).toNat).retry, x.resends < max 1 (w_TieFrames_7.f (TIE_CFG_RETRY_MAX (3 : BitVec 2).toNat)))) := by decide +kernel

def w_TieGoesDown_1 : State := tie3 4 { retry := [frame1], egress := [(false, spk 14)], tree := [.seal 1] }

def w_TieGoesDown_2 : State := tie3 3 {}

def w_TieGoesDown_3 : State := tie3 4 { retry := [frame1] }

theorem witness_TieGoesDown :
    (w_TieGoesDown_1.domOn dTIE = true ∧ w_TieGoesDown_1.tieUp (3 : BitVec 2).toNat = true) ∧
    (w_TieGoesDown_2.f (TIE_STAT_STATE (3 : BitVec 2).toNat) ≠ 0 ∧ w_TieGoesDown_2.f (TIE_STAT_STATE (3 : BitVec 2).toNat) ≠ 5) ∧
    (w_TieGoesDown_3.en .tie (3 : BitVec 2).toNat = true ∧ w_TieGoesDown_3.tieUp (3 : BitVec 2).toNat = true ∧
      w_TieGoesDown_3.tieIdle (3 : BitVec 2).toNat = false) ∧
    (w_TieEnumeration_1.en .tie (3 : BitVec 2).toNat = true ∧ w_TieEnumeration_1.tieUp (3 : BitVec 2).toNat = true ∧
      w_TieEnumeration_1.tieIdle (3 : BitVec 2).toNat = true) := by decide +kernel

def w_TieRequests_1 : State := tie3 5 { step := 254 }

def unRsp : Packet := .writeAck { dtile := 31, dchip := 0, dgw := false, status := 4, hstat := 0, tag := 9, size := 1 }

def w_TieRequests_2 : State := tie3 4 { out := [unRsp] }

def w_TieRequests_3 : State := tie3 4 { out := [unRsp, unRsp] }

theorem witness_TieRequests :
    (w_TieRequests_1.domOn dTIE = true ∧ w_TieRequests_1.tieUp (3 : BitVec 2).toNat = false ∧
      (∀ e ∈ (w_TieRequests_1.tieAt (3 : BitVec 2).toNat).egress, e.2 ≠ .spikeUC 1 2 3 4 3 (255 : BitVec 8)) ∧
      (stepClass (255 : BitVec 8).toNat (w_TieRequests_1.tieAt (3 : BitVec 2).toNat).step).counted = true) ∧
    ((w_TieRequests_2.tieAt (3 : BitVec 2).toNat).out[0]? = some unRsp ∧ (rspKey unRsp).isSome = true ∧
      (w_TieRequests_2.tieAt 3).due = [] ∧ (w_TieRequests_2.tieAt 3).egress = [] ∧ (w_TieRequests_2.tieAt 3).tree = [] ∧
      (w_TieRequests_2.tieAt 3).relay = [] ∧ (w_TieRequests_2.tieAt 3).linkq = [] ∧ (w_TieRequests_2.tieAt 3).ending = false ∧
      w_TieRequests_2.roomFor (tieRouter (3 : BitVec 2).toNat) .gw unRsp = true) := by decide +kernel

theorem witness_TieRequests_2 :
    (w_TieRequests_3.replyHere ((Packet.writeAck (rpHead 9 false 0))) = true ∧ (w_TieRequests_3.tieAt 3).out = [] ++ unRsp :: [unRsp] ∧
      rspKey unRsp = rspKey ((Packet.writeAck (rpHead 9 false 0))) ∧
      (List.range 3).all (fun r => (w_TieRequests_3.tieAt r).out.isEmpty) = true ∧
      w_TieRequests_3.roomFor (tieRouter (3 : BitVec 2).toNat) .gw ((Packet.writeAck (rpHead 9 false 0))) = true) ∧
    (w_TieRequests_2.replyHere ((Packet.writeAck (rpHead 8 false 0))) = true ∧
      (List.range 4).all (fun r => (w_TieRequests_2.tieAt r).out.all fun x => rspKey x != rspKey ((Packet.writeAck (rpHead 8 false 0)))) = true) := by decide +kernel

def w_ManagementFrames_1 : State := live.st8 (shmBase 1 + 9) 7

def w_ManagementFrames_3 : State := { live.setF SYS_CHIP_ID_MANAGER 1 with host := { long := some { msg := { via := none, bytes := [] }, await := some 3 } } }

def w_ManagementFrames_4 : State := { live.setF SYS_CHIP_ID_MANAGER 1 with host := { fwdMsgs := [(7, 1, 2, 65535)] } }

def rdQ (z : BitVec 2) : MemReq := { chan := 47, line := 63, head := rqHead 0x700000FE0 z 0x3DB }

def wrQ : MemReq := { chan := 47, line := 63, head := rqHead 0x700000FC4 0 0x3DB, data := some [0xFFFFFFFF01020304] }

def memLine : State := memOn.storeLine 47 63 (BitVec.ofNat 512 (2 ^ 511 + 7 * 2 ^ 256))

theorem witness_ManagementFrames :
    (w_ManagementFrames_1.isManager = false ∧ w_ManagementFrames_1.host.agent = [] ∧ w_ManagementFrames_1.host.mgOut = [] ∧
      pageOf ((BitVec.ofNat 38 (shmBase 1 + 8))).toNat = none ∧
      w_ManagementFrames_1.reads iHOST (w_ManagementFrames_1.mine ((BitVec.ofNat 38 (shmBase 1 + 8))).toNat) 4 sysRouter = true ∧
      w_ManagementFrames_1.roomFor sysRouter .gw (.mgmt 0 7 (BitVec.ofNat 10 w_ManagementFrames_1.chipId) 255 (mgReg false 0 1 ((BitVec.ofNat 38 (shmBase 1 + 8))).toNat [ofLE (w_ManagementFrames_1.readBytes (w_ManagementFrames_1.mine ((BitVec.ofNat 38 (shmBase 1 + 8))).toNat) 4)])) = true) ∧
    (w_ManagementFrames_3.isManager = true ∧ w_ManagementFrames_3.host.jobs = [] ∧ w_ManagementFrames_3.spi.await = none ∧
      w_ManagementFrames_3.host.long = some { msg := { via := none, bytes := [] }, await := some 3 }) ∧
    (w_ManagementFrames_4.isManager = true ∧ w_ManagementFrames_4.host.long = none ∧
      w_ManagementFrames_4.host.fwdMsgs = (7, 1, 2, 65535) :: []) := by decide +kernel

def w_LineAccess_1 : State := { memLine with memq := [rdQ 3] }

def w_LineAccess_2b : State := { memOn with memq := [({ rdQ 3 with res := some (.domainOff, []) } : MemReq)] }

def w_LineAccess_3 : State := { memLine with memq := [wrQ] }

theorem witness_LineAccess :
    (w_LineAccess_1.memNext (47 : BitVec 6).toNat (0 : BitVec 8).toNat = some ((rdQ 3)) ∧
      w_LineAccess_1.domOn (memDom (47 : BitVec 6).toNat) = true ∧ w_LineAccess_1.en .mem (47 : BitVec 6).toNat = true ∧
      ((rdQ 3)).res = none ∧ ((rdQ 3)).data = none ∧ w_LineAccess_1.lineGood (47 : BitVec 6).toNat ((rdQ 3)).line = true ∧
      w_LineAccess_1.roomFor (mgwRouter ((47 : BitVec 6).toNat / 6)) .gw (.readRsp (rspOf ((rdQ 3)).head .ok) (byteFlits 32 (slice (lineBytes (w_LineAccess_1.line (47 : BitVec 6).toNat ((rdQ 3)).line).data) (reqAt ((rdQ 3)).head % 64) 32))) = true) ∧
    (((rdQ 3)).data = none ∧
      w_LineAccess_1.roomFor (mgwRouter ((47 : BitVec 6).toNat / 6)) .gw (.readRsp (rspOf ((rdQ 3)).head .dataFail) []) = true) ∧
    (w_LineAccess_2b.memNext (47 : BitVec 6).toNat (0 : BitVec 8).toNat = some (({ rdQ 3 with res := some (.domainOff, []) } : MemReq)) ∧
      (({ rdQ 3 with res := some (.domainOff, []) } : MemReq)).res = some (.domainOff, []) ∧
      w_LineAccess_2b.roomFor (mgwRouter ((47 : BitVec 6).toNat / 6)) .gw (.readRsp (rspOf (({ rdQ 3 with res := some (.domainOff, []) } : MemReq)).head .domainOff) []) = true) := by decide +kernel

theorem witness_LineAccess_2 :
    (w_LineAccess_3.memNext (47 : BitVec 6).toNat (0 : BitVec 8).toNat = some wrQ ∧
      w_LineAccess_3.domOn (memDom (47 : BitVec 6).toNat) = true ∧ w_LineAccess_3.en .mem (47 : BitVec 6).toNat = true ∧
      wrQ.res = none ∧ wrQ.data = some (([0xFFFFFFFF01020304] : List (BitVec 64))) ∧
      w_LineAccess_3.lineGood (47 : BitVec 6).toNat wrQ.line = true ∧
      w_LineAccess_3.roomFor (mgwRouter ((47 : BitVec 6).toNat / 6)) .gw (.writeAck (rspOf wrQ.head .ok)) = true) := by decide +kernel

def w_FillEngine_1 : State := memOn.setF (MEM_FILL_START_LINE 47) 5

def w_FillEngine_2 : State := { memLine.setF (MEM_FILL_CTRL_BUSY 47) 1 with fills := [(47, (62, 2))] }

def crcUnit (mode src : Nat) : State := (((live.setF (PAGE_EN .crc 3) 1).setF (CRC_SRC_SRC 3) src).setF (CRC_SRC_MODE 3) mode).setF (CRC_SEQ 3) (2 ^ 32 - 1)

theorem witness_FillEngine :
    ((47 : BitVec 6).toNat < 48 ∧ w_FillEngine_1.domOn (memDom (47 : BitVec 6).toNat) = true ∧
      bitAt (0x80000002 : BitVec 32).toNat 31 = true ∧ w_FillEngine_1.b (MEM_FILL_CTRL_BUSY (47 : BitVec 6).toNat) = false ∧
      w_FillEngine_1.en .mem (47 : BitVec 6).toNat = true) ∧
    ((47 : BitVec 6).toNat < 48 ∧ w_FillEngine_2.b (MEM_FILL_CTRL_BUSY (47 : BitVec 6).toNat) = true ∧
      (w_FillEngine_2.fillOf (47 : BitVec 6).toNat).1 ≤ 63 ∧
      63 < (w_FillEngine_2.fillOf (47 : BitVec 6).toNat).1 + (w_FillEngine_2.fillOf (47 : BitVec 6).toNat).2 ∧
      63 < w_FillEngine_2.chanLines (47 : BitVec 6).toNat) := by decide +kernel

def w_CheckUnits_1 : State := ((crcUnit 1 2).setF (CRC_FMT_WIDTH 3) 16).setF (CRC_POLY 3) 0x1021 |>.setF (CRC_INIT 3) 0xFFFF

def w_CheckUnits_2 : State := crcUnit 3 0x10

def w_CheckUnits_3 : State := ((live.setF (CRC_SRC_SRC 3) 0x52).setF (CRC_SRC_SRC 0) 0x51).setF (PAGE_EN .crc 0) 1

def w_CheckUnits_4 : State := (crcUnit 3 0x13).setF (CRC_SRC_SRC 0) 0x13

def fwHold : Hold := { mem := 0, word := 100, mask := 1, waits := [(1, .nullDesc 100)], fw := true }

def hwHold : Hold := { mem := 0, word := 32767, mask := 1, waits := [(1, .none)], fw := false, issued := true, rsp := some (0, [0xFF07060504030201]) }

def parSt (h : Hold) : State := (live.setF (TILE_PAR_PEND_VALID 31) 1).modTile 31 fun x => { x with holds := [h, fwHold], bad := [(100, 1), (32767, 1)] }

theorem witness_CheckUnits :
    (w_CheckUnits_1.en .crc (3 : BitVec 2).toNat = true ∧ w_CheckUnits_1.b (PAGE_FAULT .crc (3 : BitVec 2).toNat) = false ∧
      w_CheckUnits_1.f (CRC_SRC_SRC (3 : BitVec 2).toNat) ≠ 0 ∧
      (w_CheckUnits_1.crcMode (3 : BitVec 2).toNat = 1 ∨ w_CheckUnits_1.crcMode (3 : BitVec 2).toNat = 2)) ∧
    (w_CheckUnits_2.en .crc (3 : BitVec 2).toNat = true ∧ w_CheckUnits_2.b (PAGE_FAULT .crc (3 : BitVec 2).toNat) = false ∧
      w_CheckUnits_2.f (CRC_SRC_SRC (3 : BitVec 2).toNat) ≠ 0 ∧ w_CheckUnits_2.crcMode (3 : BitVec 2).toNat = 3 ∧
      w_CheckUnits_2.f (CRC_FMT_FOLD (3 : BitVec 2).toNat) ≠ 1 ∧
      w_CheckUnits_2.crcBytes (3 : BitVec 2).toNat (w_CheckUnits_2.crcOver (3 : BitVec 2).toNat (w_CheckUnits_2.crcFold (3 : BitVec 2).toNat 0) [1]) ≠ [9, 0, 0, 0] ∧
      ceilDiv (w_CheckUnits_2.crcWidth (3 : BitVec 2).toNat) 8 = 4) ∧
    (w_CheckUnits_3.en .crc (3 : BitVec 2).toNat = false ∧
      (∀ j, j < 4 → j ≠ (3 : BitVec 2).toNat → w_CheckUnits_3.en .crc j = true → w_CheckUnits_3.f (CRC_SRC_SRC j) ≠ w_CheckUnits_3.f (CRC_SRC_SRC (3 : BitVec 2).toNat))) := by decide +kernel

theorem witness_CheckUnits_2 :
    (w_CheckUnits_4.en .crc (0 : BitVec 2).toNat = false ∧ w_CheckUnits_4.en .crc 3 = true ∧
      w_CheckUnits_4.f (CRC_SRC_SRC 3) = w_CheckUnits_4.f (CRC_SRC_SRC (0 : BitVec 2).toNat) ∧
      w_CheckUnits_4.f (CRC_SRC_SRC (0 : BitVec 2).toNat) ≠ 0 ∧ 2 ≤ w_CheckUnits_4.crcMode 3) := by decide +kernel

def w_HeldWords_1 : State := parSt hwHold

def progHold : Hold := { hwHold with mem := 3, word := 8191 }

def w_HeldWords_2b : State := parSt progHold

def lostHold : Hold := { hwHold with rsp := some (2, []) }

def w_HeldWords_2c : State := parSt lostHold

def w_HeldWords_3 : State := live.modTile 31 fun x => { x with log := [⟨5, 7⟩, ⟨6, 8⟩] }

theorem witness_HeldWords :
    (w_HeldWords_1.tileUp (31 : BitVec 10).toNat = true ∧ w_HeldWords_1.holdOf (31 : BitVec 10).toNat true = some fwHold ∧
      (w_HeldWords_1.tile (31 : BitVec 10).toNat).rebasing = none ∧
      (w_HeldWords_1.badMask (31 : BitVec 10).toNat fwHold.mem fwHold.word = 0 ∨ w_HeldWords_1.cluRuns (clusterOf (31 : BitVec 10).toNat) = false)) ∧
    (w_HeldWords_1.tileServes (31 : BitVec 10).toNat = true ∧ w_HeldWords_1.holdOf (31 : BitVec 10).toNat false = some hwHold ∧
      hwHold.rsp = some (0, [0xFF07060504030201]) ∧ (w_HeldWords_1.tile (31 : BitVec 10).toNat).rebasing = none ∧ hwHold.mem = 0 ∧
      w_HeldWords_1.retiredWord (31 : BitVec 10).toNat 0 hwHold.word = false ∧ hwHold.word < 32768) := by decide +kernel

theorem witness_HeldWords_2 :
    (w_HeldWords_2b.tileServes (31 : BitVec 10).toNat = true ∧ w_HeldWords_2b.holdOf (31 : BitVec 10).toNat false = some progHold ∧
      progHold.rsp = some (0, [0xFF07060504030201]) ∧ progHold.mem = 3 ∧
      w_HeldWords_2b.retiredWord (31 : BitVec 10).toNat 3 progHold.word = false ∧ progHold.word < 8192) ∧
    (w_HeldWords_2c.tileServes (31 : BitVec 10).toNat = true ∧ w_HeldWords_2c.holdOf (31 : BitVec 10).toNat false = some lostHold ∧
      lostHold.rsp = some (2, []) ∧ (2 : Nat) ≠ 0) ∧
    (w_HeldWords_3.tileUp (31 : BitVec 10).toNat = true ∧ (w_HeldWords_3.tile (31 : BitVec 10).toNat).log = ⟨5, 7⟩ :: [⟨6, 8⟩]) ∧
    (live.domOn (dCLU (15 : BitVec 4).toNat) = true) := by decide +kernel

def w_RepairAndRetire_1 : State := ((live.setF (TILE_PAR_CFG_REP_EN 31) 1).setF (PAGE_EN .tile 31) 1).modTile 31 fun x => { x with repNext := 1023, marchFail := [1024] }

def w_RepairAndRetire_2 : State := (live.stN 8 (synBase 31 + 8 * 32767) 77).stN 8 (synBase 31) 78

def w_RepairAndRetire_3 : State := ((live.setF (PWR_RET_STOP (clusterOf 31)) 1).setF (PWR_RET_SYN (clusterOf 31)) 0x80).stN 8 (synBase 31 + 8 * 32767) 77

def w_RepairAndRetire_4 : State := live.modTile 31 fun x => { x with asleep := true }

def w_RepairAndRetire_6 : State := live.setF (CLU_SEC_WIN_LOCK 0) 1

def csiOn : State := (((live.setF (PAGE_EN .csi 3) 1).setF (CSI_CFG_VC 3) 15).setF (CSI_CFG_DT 3) 0x37).setF (CSI_FMT0 3) 2 |>.setF (CSI_FMT1 3) 0 |>.setF (CSI_BUCKET_RATE 3) 0

theorem witness_RepairAndRetire :
    (w_RepairAndRetire_1.tileServes (31 : BitVec 10).toNat = true ∧
      w_RepairAndRetire_1.b (TILE_PAR_CFG_REP_EN (31 : BitVec 10).toNat) = true ∧
      (w_RepairAndRetire_1.tile (31 : BitVec 10).toNat).bad = [] ∧
      w_RepairAndRetire_1.nextRegion (31 : BitVec 10).toNat (w_RepairAndRetire_1.tile (31 : BitVec 10).toNat).repNext = some 1023 ∧
      w_RepairAndRetire_1.nextRegion (31 : BitVec 10).toNat (1023 + 1) = some 1025) ∧
    (((BitVec.ofNat 26 (Block.tile.base 31 + 0x368))).toNat = Block.tile.base (31 : BitVec 10).toNat + 0x368 ∧
      w_RepairAndRetire_2.fwAllows iDEBUG ((BitVec.ofNat 26 (Block.tile.base 31 + 0x368))).toNat true = true ∧
      w_RepairAndRetire_2.pageShut iDEBUG ((BitVec.ofNat 26 (Block.tile.base 31 + 0x368))).toNat = none ∧
      w_RepairAndRetire_2.pageServes .tile (31 : BitVec 10).toNat = true ∧
      w_RepairAndRetire_2.en .tile (31 : BitVec 10).toNat = false) ∧
    (w_RepairAndRetire_3.tileUp (31 : BitVec 10).toNat = true ∧
      w_RepairAndRetire_3.b (PWR_RET_STOP (clusterOf (31 : BitVec 10).toNat)) = true ∧
      w_RepairAndRetire_3.en .tile (31 : BitVec 10).toNat = false ∧
      (w_RepairAndRetire_3.tile (31 : BitVec 10).toNat).asleep = false) := by decide +kernel

theorem witness_RepairAndRetire_2 :
    (w_RepairAndRetire_4.tileUp (31 : BitVec 10).toNat = true ∧
      w_RepairAndRetire_4.b (PWR_RET_STOP (clusterOf (31 : BitVec 10).toNat)) = false ∧
      (w_RepairAndRetire_4.tile (31 : BitVec 10).toNat).asleep = true) ∧
    (live.fwAllows iSEC (CLU_SEC_WIN 0).addr true = true ∧ live.domOn (dCLU 0) = true ∧ live.b (CLU_SEC_WIN_LOCK 0) = false) ∧
    (w_RepairAndRetire_6.fwAllows iSEC (CLU_SEC_WIN 0).addr true = true ∧ w_RepairAndRetire_6.b (CLU_SEC_WIN_LOCK 0) = true) ∧
    (iTHREAD ≠ iSEC ∧ (∀ w, w < 32 → live.fwHolds w (CLU_SEC_WIN 0).addr = false) ∧
      live.fwAllows iTHREAD (CLU_SEC_WIN 0).addr true = false) := by decide +kernel

def w_SensorInput_2 : State := csiOn.setF (CSI_CFG_DT 3) 0x38

def w_SensorInput_3 : State := (((csiOn.setF (CSI_FMT0_XPOS 3) 0).setF (CSI_FMT0_XW 3) 8).setF (CSI_FMT0_YPOS 3) 8).setF (CSI_FMT0_YW 3) 4 |>.modSport 3 fun x => { x with map := [(3, BitVec.ofNat 32 0xB3FF0000)] }

def w_SensorInput_5 : State := (live.setF (PAGE_EN .t1s 3) 1).modSport 9 fun x => { x with tokens := 5, rate := 0xFFFF, depth := 1 }

def w_SensorInput_6 : State := { live.setF (PAGE_EN .host 0) 1 with host := { itokens := 0, irate := 7, idepth := 0xFFFF } }

def w_SensorInput_7 : State := ((((((live.setF (PAGE_EN .aer 0) 1).setF (AER_CFG_PEN 1) 1).setF (AER_CFG_PAYLOAD 1) 9).setF (AER_FMT_XPOS 1) 0).setF (AER_FMT_XW 1) 8).setF (AER_FMT_YPOS 1) 8).setF (AER_FMT_YW 1) 8 |>.setF (AER_BUCKET_RATE 1) 0 |>.setF (AER_FMT_POLEN 1) 0 |>.modSport 5 fun x => { x with map := [(0, BitVec.ofNat 32 0x83FF0000)] }

def t1sOn : State := (((live.setF (PAGE_EN .t1s 3) 1).setF (T1S_MAC_HI_MAC 3) 0xFFFF).setF (T1S_MAC_LO 3) 0xFFFFFFFE).setF (T1S_SRC_HI_VALID 3 7) 1 |>.setF (T1S_SRC_LO 3 7) 5 |>.setF (T1S_BUCKET_RATE 3) 0 |>.setF (T1S_RULE_SEL 3 15) 0

def w_SensorInput_12 : State := ((((((t1sOn.setF (T1S_RULE_SEL_EN 3 15) 1).setF (T1S_RULE_SEL_SRC 3 15) 7).setF (T1S_RULE_SEL_WIDTH 3 15) 1).setF (T1S_RULE_SEL_SIGNED 3 15) 1).setF (T1S_RULE_SCALE_M 3 15) 181).setF (T1S_RULE_SCALE_S 3 15) 14).setF (T1S_RULE_TGT 3 15) 0x33FFFFFF

def pev : PEvent := { tile := 1023, axon := 65535, payload := 15, prio := 3 }

def w_SensorInput_13 : State := { (live.modSport 9 fun x => { x with fifo := [pev] }).modSport 8 fun x => { x with fifo := [pev, pev] } with portTurn := [(0x60, 8)] }

def oldEv : PEvent := { pev with rec? := some 0 }

def w_SensorInput_13b : State := { (live.modSport 3 fun x => { x with fifo := [oldEv, pev] }).setF (CSI_SPILL_AGE 3) 1 with ctl := { live.ctl with step := 9 } }

def w_SensorInput_14 : State := { live with host := { fifo := [(1, pev)] } }

def spillOn : State := ((memOn.setF (PAGE_EN .csi 3) 1).setF (CSI_SPILL_BASE 3) 448).setF (CSI_CFG_SPILL_EN 3) 1 |>.setF (CSI_SPILL_AGE 3) 0 |>.storeLine 47 1 7

def w_SensorInput_15 : State := spillOn.modSport 3 fun x => { x with head := 8, buf := [(pev, 7), (pev, 8), (pev, 9), (pev, 10), (pev, 11)] }

def w_SensorInput_15b : State := (((live.setF (PAGE_EN .csi 3) 1).setF (CSI_SPILL_BASE 3) 128).setF (CSI_CFG_SPILL_EN 3) 1).modSport 3 fun x => { x with head := 0x7FFFC, buf := [(pev, 7), (pev, 8), (pev, 9), (pev, 10), (pev, 11)] }

def w_SensorInput_16 : State := (spillOn.modSport 3 fun x => { x with tail := 8, ring := [(pev, 7), (pev, 8), (pev, 9), (pev, 10)] })

def w_SensorInput_16b : State := (spillOn.modSport 3 fun x => { x with buf := [(pev, 7), (pev, 8)], fifo := [pev] })

def w_SensorInput_17 : State := (live.setF (PAGE_EN .aer 0) 1).modSport 4 fun x => { x with fifo := [pev] }

def w_SensorInput_18 : State := live.setF (PAGE_EN .t1s 3) 1

def w_SensorInput_19 : State := ((live.setF (AER_MAP_IDX_AUTO 1) 1).setF (AER_MAP_IDX_IDX 1) 4095)

def w_SensorInput_20 : State := live.setF (PAGE_EN .csi 0) 1

def w_SensorInput_21 : State := live.setF (CSI_MAP_IDX_AUTO 0) 1

def actOn : State := (((((live.setF (PAGE_EN .t1s 3) 1).setF (T1S_ACT_CTRL_EN 3 3) 1).setF (T1S_ACT_CTRL_PERIOD 3 3) 1).setF (T1S_CFG_TX_EN 3) 1).setF (T1S_ACT_CTRL_LEN 3 3) 64).modSport 9 fun x => { (x.setAct 3 ⟨5, 255, some ⟨1, 2, [1]⟩⟩) with step := 255 }

theorem witness_SensorInput :
    (csiOn.domOn dCSI = true ∧ csiOn.en .csi (3 : BitVec 2).toNat = true ∧ 2 ≤ (2 : BitVec 2).toNat) ∧
    (w_SensorInput_2.domOn dCSI = true ∧ w_SensorInput_2.en .csi (3 : BitVec 2).toNat = true ∧
      (0x38 : BitVec 6).toNat = w_SensorInput_2.f (CSI_CFG_DT (3 : BitVec 2).toNat) ∧
      0x37 < (0x38 : BitVec 6).toNat) := by decide +kernel

theorem witness_SensorInput_2 :
    (w_SensorInput_3.domOn dCSI = true ∧ w_SensorInput_3.en .csi (3 : BitVec 2).toNat = true ∧
      15 = w_SensorInput_3.f (CSI_CFG_VC (3 : BitVec 2).toNat) ∧ 0x37 = w_SensorInput_3.f (CSI_CFG_DT (3 : BitVec 2).toNat) ∧
      (∀ j, j < 4 → w_SensorInput_3.crcTakes j (0x10 + (3 : BitVec 2).toNat) = false) ∧
      (([0x34, 0x12] : List (BitVec 8))).length = w_SensorInput_3.csiEW (3 : BitVec 2).toNat ∧
      ofLE ((([0x34, 0x12] : List (BitVec 8))).map BitVec.toNat) = 0x1234 ∧
      w_SensorInput_3.csiEvent (3 : BitVec 2).toNat 0x1234 = true ∧ w_SensorInput_3.draining .csi (3 : BitVec 2).toNat = false ∧
      w_SensorInput_3.f (CSI_FMT1_TMODE (3 : BitVec 2).toNat) = 0 ∧ w_SensorInput_3.b (CSI_FMT0_PEN (3 : BitVec 2).toNat) = false ∧
      w_SensorInput_3.b (CSI_CFG_SPILL_EN (3 : BitVec 2).toNat) = false ∧
      w_SensorInput_3.f (CSI_BUCKET_RATE (3 : BitVec 2).toNat) = 0 ∧ (w_SensorInput_3.sport (3 : BitVec 2).toNat).fifo.length < 256 ∧
      field 0x1234 (w_SensorInput_3.f (CSI_FMT0_XPOS (3 : BitVec 2).toNat)) (pixWidth (w_SensorInput_3.f (CSI_FMT0_XW (3 : BitVec 2).toNat))) = 0x34 ∧
      field 0x1234 (w_SensorInput_3.f (CSI_FMT0_YPOS (3 : BitVec 2).toNat)) (pixWidth (w_SensorInput_3.f (CSI_FMT0_YW (3 : BitVec 2).toNat))) = 2 ∧
      w_SensorInput_3.mapPixel (3 : BitVec 2).toNat 0x34 2 0 = some (({ tile := 1023, axon := 0x1234 % 16 + 32, payload := 1, prio := 3 } : PEvent)) ∧
      (w_SensorInput_3.mapAt (3 : BitVec 2).toNat 0x34 2).any (fun j => (w_SensorInput_3.sport (3 : BitVec 2).toNat).mapBad.contains j) = false) := by decide +kernel

theorem witness_SensorInput_3 :
    (csiOn.domOn dCSI = true ∧ csiOn.en .csi (3 : BitVec 2).toNat = true) ∧
    ((9 : BitVec 4).toNat < 10 ∧ w_SensorInput_5.portUp (9 : BitVec 4).toNat = true) ∧
    (w_SensorInput_6.domOn dHOST = true ∧ w_SensorInput_6.actv .host 0 = true) ∧
    (w_SensorInput_7.domOn dCSI = true ∧ w_SensorInput_7.actv .aer 0 = true ∧
      w_SensorInput_7.b (AER_CFG_PEN (1 : BitVec 1).toNat) = true ∧ w_SensorInput_7.f (AER_BUCKET_RATE (1 : BitVec 1).toNat) = 0 ∧
      (w_SensorInput_7.sport (4 + (1 : BitVec 1).toNat)).fifo.length < 64 ∧
      w_SensorInput_7.b (AER_FMT_POLEN (1 : BitVec 1).toNat) = false ∧
      field 0x000F (w_SensorInput_7.f (AER_FMT_XPOS (1 : BitVec 1).toNat)) (pixWidth (w_SensorInput_7.f (AER_FMT_XW (1 : BitVec 1).toNat))) = 15 ∧
      field 0x000F (w_SensorInput_7.f (AER_FMT_YPOS (1 : BitVec 1).toNat)) (pixWidth (w_SensorInput_7.f (AER_FMT_YW (1 : BitVec 1).toNat))) = 0 ∧
      w_SensorInput_7.mapPixel (4 + (1 : BitVec 1).toNat) 15 0 0 = some (({ tile := 1023, axon := 0xF, payload := 9, prio := 0 } : PEvent)) ∧
      (w_SensorInput_7.mapAt (4 + (1 : BitVec 1).toNat) 15 0).any (fun j => (w_SensorInput_7.sport (4 + (1 : BitVec 1).toNat)).mapBad.contains j) = false) := by decide +kernel

theorem witness_SensorInput_4 :
    (live.domOn dT1S = true) ∧
    (live.en .t1s 3 = false) ∧
    (t1sOn.en .t1s 3 = true ∧ (0xFFFFFFFFFFFE : BitVec 48).toNat = t1sOn.f (T1S_MAC_HI_MAC 3) * 2 ^ 32 + t1sOn.f (T1S_MAC_LO 3) ∧
      t1sOn.t1sSource 3 6 = none) ∧
    (w_SensorInput_12.t1sSource 3 5 = some 7 ∧ w_SensorInput_12.f (T1S_SRC_TYPE_ETYPE 3 7) = 0 ∧
      w_SensorInput_12.f (T1S_RXCFG_FRAME_RATE 3) = 0 ∧ w_SensorInput_12.draining .t1s 3 = false ∧
      ((List.range 16).filter fun r => w_SensorInput_12.b (T1S_RULE_SEL_EN 3 r) && w_SensorInput_12.f (T1S_RULE_SEL_SRC 3 r) == 7) = [15] ∧
      w_SensorInput_12.ruleField 3 15 ((([0xD2, 0x04] : List (BitVec 8))).map BitVec.toNat) = some 1234 ∧
      w_SensorInput_12.b (T1S_RULE_SEL_NEG 3 15) = false ∧ w_SensorInput_12.b (T1S_RULE_SEL_TBL 3 15) = false ∧
      (rescale 1234 (w_SensorInput_12.f (T1S_RULE_SCALE_M 3 15)) (w_SensorInput_12.f (T1S_RULE_SCALE_S 3 15)) 0 15).y = 14 ∧
      w_SensorInput_12.f (T1S_BUCKET_RATE 3) = 0 ∧ (w_SensorInput_12.sport 9).fifo.length < 64) := by decide +kernel

theorem witness_SensorInput_5 :
    ((8 : BitVec 4).toNat < 10 ∧ (w_SensorInput_13.sport (8 : BitVec 4).toNat).fifo ≠ [] ∧
      w_SensorInput_13.domOn (portDom (8 : BitVec 4).toNat) = true ∧ w_SensorInput_13.portNext (8 : BitVec 4).toNat = some 9 ∧
      (w_SensorInput_13.sport 9).fifo = pev :: [] ∧ w_SensorInput_13.portHeld 9 = false ∧ w_SensorInput_13.domOn (portDom 9) = true ∧
      pev.rec? = none ∧ w_SensorInput_13.roomFor (portRouter 9) .gw (w_SensorInput_13.eventPacket pev) = true) ∧
    (w_SensorInput_13b.portNext (3 : BitVec 4).toNat = some 3 ∧ (w_SensorInput_13b.sport 3).fifo = oldEv :: [pev] ∧
      w_SensorInput_13b.portHeld 3 = false ∧ oldEv.rec? = some 0 ∧ w_SensorInput_13b.staleEvent 3 0 = true) := by decide +kernel

theorem witness_SensorInput_6 :
    (w_SensorInput_14.host.fifo = (1, pev) :: [] ∧ w_SensorInput_14.hostOn = true ∧ w_SensorInput_14.b MTR_INJ_HOLD_HOST = false ∧
      w_SensorInput_14.roomFor 0x000 .gw (.spikeUC (BitVec.ofNat 10 pev.tile) 1 (BitVec.ofNat 16 pev.axon) (BitVec.ofNat 4 pev.payload) (BitVec.ofNat 2 pev.prio) (BitVec.ofNat 8 w_SensorInput_14.stampStep.toNat)) = true) ∧
    (w_SensorInput_15.domOn dCSI = true ∧ 4 ≤ (w_SensorInput_15.sport (3 : BitVec 2).toNat).buf.length ∧
      w_SensorInput_15.stores iENGINE (w_SensorInput_15.ringEntry (3 : BitVec 2).toNat (w_SensorInput_15.sport (3 : BitVec 2).toNat).head) 32 (portRouter (3 : BitVec 2).toNat) = true) ∧
    (4 ≤ (w_SensorInput_15b.sport (3 : BitVec 2).toNat).buf.length ∧
      w_SensorInput_15b.stores iENGINE (w_SensorInput_15b.ringEntry (3 : BitVec 2).toNat (w_SensorInput_15b.sport (3 : BitVec 2).toNat).head) 32 (portRouter (3 : BitVec 2).toNat) = true) ∧
    (w_SensorInput_16.domOn dCSI = true ∧ (w_SensorInput_16.sport (3 : BitVec 2).toNat).ring ≠ [] ∧
      w_SensorInput_16.spillNow (3 : BitVec 2).toNat = false ∧ (w_SensorInput_16.sport (3 : BitVec 2).toNat).fifo.length + 4 ≤ 256 ∧
      w_SensorInput_16.reads iENGINE (w_SensorInput_16.ringEntry (3 : BitVec 2).toNat (w_SensorInput_16.sport (3 : BitVec 2).toNat).tail) 32 (portRouter (3 : BitVec 2).toNat) = true) := by decide +kernel

theorem witness_SensorInput_7 :
    (w_SensorInput_16b.spillNow (3 : BitVec 2).toNat = false ∧ (w_SensorInput_16b.sport (3 : BitVec 2).toNat).ring = [] ∧
      (w_SensorInput_16b.sport (3 : BitVec 2).toNat).buf.length < 4 ∧
      (w_SensorInput_16b.sport (3 : BitVec 2).toNat).fifo.length + (w_SensorInput_16b.sport (3 : BitVec 2).toNat).buf.length ≤ 256) ∧
    ((5 : BitVec 4).toNat < 10 ∧ portPage (5 : BitVec 4).toNat = (.aer, 0) ∧
      w_SensorInput_17.domOn (portDom (5 : BitVec 4).toNat) = true ∧ w_SensorInput_17.actv .aer 0 = true ∧
      w_SensorInput_17.portsIdle .aer 0 = false) ∧
    (portPage (9 : BitVec 4).toNat = (.t1s, 3) ∧ w_SensorInput_18.actv .t1s 3 = true ∧
      w_SensorInput_18.portsIdle .t1s 3 = true) := by decide +kernel

theorem witness_SensorInput_8 :
    ((5 : BitVec 4).toNat < 6 ∧ ((BitVec.ofNat 26 (mapData 5).addr)).toNat = (mapData (5 : BitVec 4).toNat).addr ∧
      w_SensorInput_19.pageServes (portPage (5 : BitVec 4).toNat).1 (portPage (5 : BitVec 4).toNat).2 = true ∧
      w_SensorInput_19.pageShut iDEBUG (mapData (5 : BitVec 4).toNat).addr = none ∧
      w_SensorInput_19.fwAllows iDEBUG (mapData (5 : BitVec 4).toNat).addr true = true ∧
      w_SensorInput_19.tableOpen (5 : BitVec 4).toNat = true) ∧
    (((BitVec.ofNat 26 (mapData 0).addr)).toNat = (mapData (0 : BitVec 4).toNat).addr ∧
      w_SensorInput_20.pageServes (portPage (0 : BitVec 4).toNat).1 (portPage (0 : BitVec 4).toNat).2 = true ∧
      w_SensorInput_20.pageShut iDEBUG (mapData (0 : BitVec 4).toNat).addr = none ∧
      w_SensorInput_20.fwAllows iDEBUG (mapData (0 : BitVec 4).toNat).addr true = true ∧
      w_SensorInput_20.tableOpen (0 : BitVec 4).toNat = false ∧ w_SensorInput_20.mapEntry (0 : BitVec 4).toNat ≠ 7) ∧
    (w_SensorInput_21.pageServes (portPage (0 : BitVec 4).toNat).1 (portPage (0 : BitVec 4).toNat).2 = true ∧
      w_SensorInput_21.pageShut iDEBUG (mapData (0 : BitVec 4).toNat).addr = none ∧
      w_SensorInput_21.fwAllows iDEBUG (mapData (0 : BitVec 4).toNat).addr false = true) := by decide +kernel

theorem witness_SensorInput_9 :
    (actOn.portUp (6 + (3 : BitVec 2).toNat) = true ∧ actOn.b (T1S_ACT_CTRL_EN 3 3) = true ∧ actOn.f (T1S_ACT_CTRL_PERIOD 3 3) = 1) ∧
    (actOn.b (T1S_CFG_TX_EN 3) = true ∧ ((actOn.sport 9).act 3).waiting = some ⟨1, 2, [1]⟩) ∧
    (live.domOn dT1S = true) := by decide +kernel

def w_PinsAndTimers_1 : State := live.setF GPIO_EDGE 0x40000000

def w_PinsAndTimers_2 : State := { (live.setF GPIO_EDGE 0x80000000).setF GPIO_IN_IN 0xFFFF with pins := 0xFFFF }

def w_PinsAndTimers_3 : State := live.setF GPIO_OUT_OUT 0x8001

def w_PinsAndTimers_8 : State := { ((live.setF (TMRCH_CTRL_MODE 15) 1).setF (TMRCH_PHASE 15) 0xFFFFFFFF).setF (TMRCH_STAT_MISSED 15) 9 with tb := 2 }

def w_PinsAndTimers_11 : State := live.setF TMR_STEP_CTRL_RUN 1

def w_PinsAndTimers_12 : State := live.setF (TMRCH_CTRL_MODE 15) 3

def w_PinsAndTimers_13 : State := live.setF (TMRCH_STAT_ARMED 15) 1

def w_PinsAndTimers_16 : State := { (((live.setF (TMRCH_STAT_ARMED 15) 1).setF (TMRCH_COMPARE 15) 5).setF (TMRCH_INTERVAL 15) 0).setF (TMRCH_SEQ 15) 0xFFFFFFFF with tb := 0xFFFFFFFFFFFFFFFE, tmr := [(15, { mode := 0, src := 0 })] }

def w_PinsAndTimers_17 : State := { (live.setF (TMRCH_STAT_ARMED 15) 1).setF (TMRCH_COMPARE 15) 5 with tb := 4, tmr := [(15, { mode := 1, src := 0 })] }

def w_PinsAndTimers_18 : State := { (live.setF (TMRCH_STAT_ARMED 15) 1).setF (TMRCH_STAT_NEW 15) 1 with tb := 1, tmr := [(15, { mode := 2, src := 0x41 })] }

def stepOpen : State := (({ live with tb := 1000 } : State).setF TMR_STEP_CTRL_RUN 1).openStep false

def stepSealed : State := { stepOpen.setF TMR_STEP_STAT_SEALED 1 with ctl := { stepOpen.ctl with confirmed := true, periodOver := true } }

theorem witness_PinsAndTimers :
    (w_PinsAndTimers_1.domOn dT1S = true ∧ bitAt (w_PinsAndTimers_1.f GPIO_IN_IN) (15 : BitVec 4).toNat ≠ true ∧
      w_PinsAndTimers_1.pinDrive (15 : BitVec 4).toNat = none ∧
      bitAt (w_PinsAndTimers_1.rd GPIO_EDGE.addr).toNat (2 * (15 : BitVec 4).toNat + (if true then 0 else 1)) = true) ∧
    (bitAt (w_PinsAndTimers_2.f GPIO_IN_IN) (15 : BitVec 4).toNat ≠ false ∧
      bitAt (w_PinsAndTimers_2.rd GPIO_EDGE.addr).toNat (2 * (15 : BitVec 4).toNat + (if false then 0 else 1)) = true) ∧
    (w_PinsAndTimers_3.en .gpio 0 = false ∧ (∀ m, m < 16 → bitAt (w_PinsAndTimers_3.f GPIO_IN_IN) m = w_PinsAndTimers_3.pinLevel m)) ∧
    (w_PinsAndTimers_3.en .gpio 0 = false ∧ (∀ m, m < 16 → bitAt (w_PinsAndTimers_3.f GPIO_IN_IN) m = w_PinsAndTimers_3.pinLevel m)) ∧
    (0 ≤ (0x7FFFFFFF : BitVec 32).toInt) ∧
    ((0xFFFFFFFF : BitVec 32).toInt < 0) ∧
    (w_PinsAndTimers_8.stepOwns (15 : BitVec 4).toNat = false ∧ w_PinsAndTimers_8.f (TMRCH_CTRL_MODE (15 : BitVec 4).toNat) ≠ 3) ∧
    (bitAt (0x8001 : BitVec 16).toNat (15 : BitVec 4).toNat = true) ∧
    (bitAt (0x7FFF : BitVec 16).toNat (15 : BitVec 4).toNat = false) := by decide +kernel

theorem witness_PinsAndTimers_2 :
    (w_PinsAndTimers_11.stepOwns (0 : BitVec 4).toNat = true) ∧
    (w_PinsAndTimers_12.f (TMRCH_CTRL_MODE (15 : BitVec 4).toNat) = 3) ∧
    (w_PinsAndTimers_13.stepOwns (15 : BitVec 4).toNat = false) ∧
    (w_PinsAndTimers_16.stepOwns (15 : BitVec 4).toNat = false ∧ w_PinsAndTimers_16.tmrCompares (15 : BitVec 4).toNat = true ∧
      ((15 : BitVec 4).toNat ≠ 1 ∨ w_PinsAndTimers_16.f HOST_LEASE_STATE ≠ 1) ∧
      (Map.get ({} : TmrLatch) w_PinsAndTimers_16.tmr (15 : BitVec 4).toNat).mode = 0 ∧
      0 < w_PinsAndTimers_16.tmrAhead (15 : BitVec 4).toNat) ∧
    (w_PinsAndTimers_17.tmrCompares (15 : BitVec 4).toNat = true ∧
      (Map.get ({} : TmrLatch) w_PinsAndTimers_17.tmr (15 : BitVec 4).toNat).mode = 1) ∧
    (captureSrc (0x41 : BitVec 8).toNat = true ∧ w_PinsAndTimers_18.b (TMRCH_STAT_ARMED (15 : BitVec 4).toNat) = true ∧
      (Map.get ({} : TmrLatch) w_PinsAndTimers_18.tmr (15 : BitVec 4).toNat) = { mode := 2, src := 0x41 } ∧
      w_PinsAndTimers_18.b (TMRCH_STAT_NEW (15 : BitVec 4).toNat) = true ∧
      bitAt (0x7FFF : BitVec 16).toNat (15 : BitVec 4).toNat = false) := by decide +kernel

theorem witness_PinsAndTimers_3 :
    (captureSrc (0x10 : BitVec 8).toNat = true ∧ ¬ (w_PinsAndTimers_18.b (TMRCH_STAT_ARMED (15 : BitVec 4).toNat) = true ∧
      (Map.get ({} : TmrLatch) w_PinsAndTimers_18.tmr (15 : BitVec 4).toNat) = { mode := 2, src := 0x10 })) := by decide +kernel

def w_StepRun_1 : State := { stepOpen.setF TMR_STEP_CTRL_RUN 0 with ctl := { stepOpen.ctl with holdNext := true } }

def w_StepRun_2 : State := ((live.setF TMR_STEP_STAT_LOAD_ARMED 1).setF TMR_STEP_START_HI 0xFFFFFFFF).setF TMR_STEP_START_LO 0xFFFFFFFF

def w_StepRun_3 : State := live.setF TMR_STEP_STAT_LOAD_ARMED 0

def w_StepRun_5 : State := ((live.setF (PAGE_EN .csi 3) 1).setF (CSI_TS_LAST 3) 77).openStep true

def w_StepRun_6 : State := { stepSealed with ctl := { stepSealed.ctl with holdNext := true, last := some { inj := 3, con := 1, clean := false } } }

def w_StepRun_10 : State := { stepOpen with ctl := { stepOpen.ctl with confirmed := true, gap := true } }

def w_StepRun_12 : State := { stepOpen with ctl := { stepOpen.ctl with periodOver := true } }

def worker : State := { live.setF TMR_STEP_STAT_RELAY 1 with ctl := { live.ctl with step := 0x1FF } }

def w_StepRun_15 : State := worker.setF (CSI_TS_LAST 3) 77

theorem witness_StepRun :
    (w_StepRun_1.relay = false ∧ w_StepRun_1.b TMR_STEP_CTRL_RUN = false ∧ w_StepRun_1.running = true ∧ w_StepRun_1.ctl.held = false) ∧
    (w_StepRun_2.relay = false ∧ w_StepRun_2.b TMR_STEP_CTRL_RUN = false ∧ w_StepRun_2.running = false ∧
      w_StepRun_2.b TMR_STEP_STAT_LOAD_ARMED = true) ∧
    (w_StepRun_3.b TMR_STEP_CTRL_RUN = false ∧ w_StepRun_3.running = false ∧ w_StepRun_3.b TMR_STEP_STAT_LOAD_ARMED = false) ∧
    (stepOpen.b TMR_STEP_CTRL_RUN = true ∧ stepOpen.running = true) := by decide +kernel

theorem witness_StepRun_2 :
    (w_StepRun_5.relay = false ∧ w_StepRun_5.b TMR_STEP_CTRL_RUN = false ∧ w_StepRun_5.ctl.held = true ∧ w_StepRun_5.ctl.forced = false) ∧
    (w_StepRun_6.running = true ∧ w_StepRun_6.b TMR_STEP_STAT_SEALED = true) ∧
    (stepOpen.running = true ∧ stepOpen.b TMR_STEP_STAT_SEALED = false) ∧
    (stepOpen.ctl.periodOver = false ∧ stepOpen.ctl.stepped = false ∧ stepOpen.ctl.confirmed = false ∧
      stepOpen.b TMR_STEP_CTRL_RUN = true) ∧
    (w_StepRun_10.ctl.confirmed = true ∧ w_StepRun_10.ctl.forced = false ∧ w_StepRun_10.ctl.overdue = false ∧
      w_StepRun_10.b TMR_STEP_CTRL_RUN = true) := by decide +kernel

theorem witness_StepRun_3 :
    (stepSealed.relay = false ∧ stepSealed.running = true ∧ stepSealed.ctl.overdue = false ∧ stepSealed.ctl.periodOver = true ∧
      stepSealed.b TMR_STEP_STAT_SEALED = true) ∧
    (w_StepRun_12.ctl.overdue = false ∧ w_StepRun_12.ctl.periodOver = true ∧ w_StepRun_12.b TMR_STEP_STAT_SEALED = false) ∧
    (worker.relay = true) ∧
    (w_StepRun_15.relay = true ∧ w_StepRun_15.domOn dCSI = true) ∧
    ((255 : BitVec 8).toNat = worker.ctl.step.toNat % 256) ∧
    ((0 : BitVec 8).toNat ≠ worker.ctl.step.toNat % 256) := by decide +kernel

def w_RoundsCount_2 : State := { live with counts := [(991, { valid := true, step := 255, round := 15 })] }

def w_RoundsCount_3 : State := { live with counts := [(991, { valid := true, step := 255, round := 15, left := 2, inj := 0xFFFFFFFF }), (1023, { valid := true, step := 255, round := 15, inj := 2, con := 3, notEmitted := 2097151, missing := true })] }

def roundUp (b : CountBuf) (c : StepCtl) : State := { stepOpen with ctl := c, counts := [(sysRouter, b)] }

def w_RoundsCount_4 : State := roundUp { valid := true, inj := 5 } { stepOpen.ctl with active := true }

def roundAgain (l : Option Round) : State := { stepSealed with counts := [(sysRouter, { valid := true, inj := 5, con := 5 })], ctl := { stepSealed.ctl with active := true, activeSealed := true, last := l } }

def w_RoundsCount_5 : State := roundAgain none

def w_RoundsCount_6 : State := roundAgain (some { inj := 5, con := 5, clean := true })

def w_RoundsCount_7 : State := roundUp {} { stepOpen.ctl with active := true, round := 15 }

def w_RoundsCount_8 : State := roundUp {} { stepOpen.ctl with gap := true }

def w_RoundsCount_9 : State := (((live.setF (rtInj 1023 0) 5).setF (rtInj 1023 1) 6).setF (rtCon 1023 1) 7)

def w_RoundsCount_10 : State := (live.setF (collarInj 255) 5).setF (collarCon 255) 5

def w_RoundsCount_11 : State := (live.setF (hostInj 255) 5).setF (hostCon 255) 5

def w_RoundsCount_12 : State := live.modSport 9 fun x => { x with inj0 := 5, inj1 := 6 }

def w_RoundsCount_13 : State := live.setF (tieCon 3 255) 5

def hostLive : State := ((live.setF SYS_CHIP_ID_ASSIGNED 1).setF HOST_RLIMIT_RATE 0).setF (PAGE_EN .host 0) 1 |>.setF HOST_IBUCKET_RATE 0

def hostBound : State := ((hostLive.setF HOST_BIND_BOUND 1).setF HOST_BIND_PEER_HI 0xFFFF).setF HOST_PEER_LO 0xFFFFFFFE

def hfr (kind : BitVec 8) (src : BitVec 48) (body : List (BitVec 8)) : HFrame :=
  { fcs := true, sec := none, dst := BitVec.ofNat 48 hostLive.macAddr, src := src, vid := none, etype := BitVec.ofNat 16 (hostLive.f HOST_CFG_ETYPE),
    kind := kind, ver := 1, seq := 0xFFFF, len := BitVec.ofNat 16 body.length, chip := 0x8000, body := body }

def rqBody : List (BitVec 8) := [0, 0, 0, 1, 0, 0, 0, 0, 0x40, 0]

theorem witness_RoundsCount :
    (stepOpen.roundDue = true ∧ stepOpen.routerOn sysRouter = true) ∧
    ((1023 : BitVec 10).toNat ≠ sysRouter ∧ treeParent (1023 : BitVec 10).toNat = some 991 ∧
      w_RoundsCount_2.routerOn (1023 : BitVec 10).toNat = true ∧ (w_RoundsCount_2.countBuf 991).valid = true ∧
      (w_RoundsCount_2.countBuf (1023 : BitVec 10).toNat).valid = false) ∧
    (treeParent (1023 : BitVec 10).toNat = some 991 ∧ (w_RoundsCount_3.countBuf (1023 : BitVec 10).toNat).valid = true ∧
      (w_RoundsCount_3.countBuf (1023 : BitVec 10).toNat).done = false ∧
      (w_RoundsCount_3.countBuf (1023 : BitVec 10).toNat).left = 0 ∧ (w_RoundsCount_3.countBuf 991).valid = true ∧
      (w_RoundsCount_3.countBuf 991).step = (w_RoundsCount_3.countBuf (1023 : BitVec 10).toNat).step ∧
      (w_RoundsCount_3.countBuf 991).round = (w_RoundsCount_3.countBuf (1023 : BitVec 10).toNat).round ∧
      0 < (w_RoundsCount_3.countBuf 991).left) := by decide +kernel

theorem witness_RoundsCount_2 :
    (w_RoundsCount_4.relay = false ∧ w_RoundsCount_4.ctl.active = true ∧ (w_RoundsCount_4.countBuf sysRouter).valid = true ∧
      (w_RoundsCount_4.countBuf sysRouter).done = false ∧ (w_RoundsCount_4.countBuf sysRouter).left = 0 ∧
      (w_RoundsCount_4.countBuf sysRouter).step = BitVec.ofNat 8 w_RoundsCount_4.ctl.step.toNat ∧
      (w_RoundsCount_4.countBuf sysRouter).round = w_RoundsCount_4.ctl.round ∧ w_RoundsCount_4.ctl.activeSealed = false ∧
      w_RoundsCount_4.ctl.periodOver = false ∧
      ((w_RoundsCount_4.countBuf sysRouter).notEmitted = 0 ∨ (w_RoundsCount_4.countBuf sysRouter).missing = true)) ∧
    (w_RoundsCount_5.ctl.active = true ∧ (w_RoundsCount_5.countBuf sysRouter).step = BitVec.ofNat 8 w_RoundsCount_5.ctl.step.toNat ∧
      (w_RoundsCount_5.countBuf sysRouter).round = w_RoundsCount_5.ctl.round ∧ w_RoundsCount_5.ctl.activeSealed = true ∧
      w_RoundsCount_5.ctl.last = none) := by decide +kernel

theorem witness_RoundsCount_3 :
    (w_RoundsCount_6.ctl.activeSealed = true ∧ w_RoundsCount_6.ctl.last = some { inj := 5, con := 5, clean := true } ∧
      (5 : BitVec 32) = (w_RoundsCount_6.countBuf sysRouter).inj ∧ (w_RoundsCount_6.countBuf sysRouter).notEmitted = 0 ∧
      (w_RoundsCount_6.countBuf sysRouter).notPassive = 0 ∧ (w_RoundsCount_6.countBuf sysRouter).missing = false) ∧
    (w_RoundsCount_7.relay = false ∧ w_RoundsCount_7.ctl.active = true) ∧
    (w_RoundsCount_8.ctl.gap = true) ∧
    (w_RoundsCount_9.routerOn (1023 : BitVec 10).toNat = true) ∧
    (w_RoundsCount_10.domOn dMTW = true) ∧
    (w_RoundsCount_11.domOn dHOST = true) ∧
    ((9 : BitVec 4).toNat < 10 ∧ w_RoundsCount_12.domOn (portDom (9 : BitVec 4).toNat) = true) ∧
    (w_RoundsCount_13.domOn dTIE = true) := by decide +kernel

def w_HostPortServes_6 : State := { (live.setF (TMRCH_STAT_ARMED 15) 1) with tmr := [(15, { mode := 2, src := 0x30 })] }

def anyJob : RegJob := { seq := 1, chip := 0x8000, body := [], wait := true }

def w_HostPortServes_9 : State := { hostBound with host := { jobs := List.replicate 8 anyJob } }

def shmRead : List (BitVec 8) := [0, 0, 0, 1, 0x02, 0, 0, 0x01, 0, 0]

def hostWord : State := { hostBound.setF (BOOT_LOG_RESULT 5) 1 with mem := [⟨0x200000100, 0x78⟩, ⟨0x200000103, 0x12⟩] }

def w_HostPortServes_12 : State := (live.setF HOST_RLIMIT_RATE 0xFFFF)

def msg16 : List (BitVec 8) := [2, 3, 0, 1, 0, 9, 0, 16, 0, 0, 0, 0, 0, 0, 0, 0]

def w_HostPortServes_15 : State := { hostBound with host := { msgs := List.replicate 4 { via := none, bytes := msg16.map BitVec.toNat } } }

def w_HostPortServes_17 : State := { hostLive with host := { step := 7 } }

def w_HostPortServes_18 : State := { hostLive with host := { step := 255 } }

def strLive : State := (((hostBound.setF (HOST_OSTR_CFG_EN 7) 1).setF (HOST_OSTR_CFG_FIRST 7) 0).setF (HOST_OSTR_CFG_COUNTM1 7) 0xFFFF)

def w_HostPortServes_19 : State := { strLive.setF (HOST_OSTR_CFG_FIRST 7) (65535 - strLive.f (RT_GWIN_BASE 0)) with host := { step := 255 } }

def listLive : State := { strLive with ctl := { step := 255, confirmed := true }, host := { step := 255, loss := [7], list := [⟨7, 255, 0x12345678⟩, ⟨7, 256, 9⟩] } }

def w_HostPortServes_22 : State := hostBound.setF HOST_LEASE_STATE 2

def w_HostPortServes_23 : State := { (hostBound.setF HOST_LEASE_STATE 1).setF (TMRCH_STAT_ARMED 1) 1 |>.setF (TMRCH_COMPARE 1) 9 with tmr := [(1, { mode := 1, src := 0 })] }

def w_HostPortServes_24 : State := ({ hostBound with host := { ring := [{ dst := 5, kind := 6, seq := 0, chip := 0, body := [] }] } } : State).setF HOST_LEASE_STATE 2 |>.setF (BOOT_LOG_RESULT 10) 1 |>.setF (FWC_CORE_STAT_STATE 2) cRUN |>.setF HOST_LEASE_AUTONOMOUS 0

def w_HostPortServes_26 : State := hostBound.setF HOST_PHY_LINK 1

def w_HostPortServes_29 : State := ({ hostLive with host := { txOn := true, txa := [{ an := 0, sci := 1, pn := 2 ^ 32 - 2 ^ 30, ssci := 0, salt := 0, key := 0 }] } } : State).setF HOST_SEC_XPN 0 |>.setF HOST_SEC_TX_AN 0

def mkMsg (major t : Nat) (body : List Nat) : Msg := { via := none, bytes := [major, 0] ++ bytesBE 2 t ++ bytesBE 2 9 ++ bytesBE 2 (16 + body.length) ++ bytesBE 8 0 ++ body }

def fwRun : State := ((hostBound.setF (FWC_CORE_STAT_STATE 2) cRUN).setF (FWC_CORE_STAT_STATE 0) cRUN).setF SYS_CHIP_ID_MANAGER 1

def oneMsg (s : State) (m : Msg) : State := { s with host := { s.host with msgs := [m] } }

def tookAll (s : State) : State := { s with host := { s.host with msgs := [] } }

def alone (s : State) (m : Msg) (t : Nat) : Prop := s.schedRuns = true ∧ s.host.msgs = [m] ∧ m.type = t ∧ (t = 1 ∨ m.major = 2) ∧
    ofBE (slice m.bytes 6 2) = m.bytes.length ∧ s.host.long = none

theorem witness_HostPortServes :
    (hostLive.hostOn = true ∧ (({ hfr 1 5 [] with fcs := false } : HFrame)).fcs = false) ∧
    (((hfr 1 5 [1, 2, 3, 4, 5, 6, 7, 8])).fcs = true ∧ isGptp ((hfr 1 5 [1, 2, 3, 4, 5, 6, 7, 8])) = false ∧
      ((hfr 1 5 [1, 2, 3, 4, 5, 6, 7, 8])).sec = none ∧ hostLive.b HOST_SEC_REQUIRE = false ∧
      ((hfr 1 5 [1, 2, 3, 4, 5, 6, 7, 8])).dst.toNat = hostLive.macAddr ∧ hostLive.tagOk ((hfr 1 5 [1, 2, 3, 4, 5, 6, 7, 8])) = true ∧
      headOk ((hfr 1 5 [1, 2, 3, 4, 5, 6, 7, 8])) = true ∧ hostLive.f HOST_RLIMIT_RATE = 0 ∧
      ((hfr 1 5 [1, 2, 3, 4, 5, 6, 7, 8])).kind = 1 ∧ hostLive.bound = false) := by decide +kernel

theorem witness_HostPortServes_2 :
    (isGptp ((hfr 3 0xFFFFFFFFFFFE rqBody)) = false ∧ ((hfr 3 0xFFFFFFFFFFFE rqBody)).dst.toNat = hostBound.macAddr ∧
      hostBound.tagOk ((hfr 3 0xFFFFFFFFFFFE rqBody)) = true ∧ headOk ((hfr 3 0xFFFFFFFFFFFE rqBody)) = true ∧
      hostBound.f HOST_RLIMIT_RATE = 0 ∧ hostBound.bound = true ∧ hostBound.peer = ((hfr 3 0xFFFFFFFFFFFE rqBody)).src.toNat ∧
      ((hfr 3 0xFFFFFFFFFFFE rqBody)).kind = 3 ∧
      rqBad ((((hfr 3 0xFFFFFFFFFFFE rqBody)).body.take ((hfr 3 0xFFFFFFFFFFFE rqBody)).len.toNat).map BitVec.toNat) = false) ∧
    (headOk ((hfr 5 0xFFFFFFFFFFFE [9, 0, 0, 0, 7])) = true ∧ hostBound.tagOk ((hfr 5 0xFFFFFFFFFFFE [9, 0, 0, 0, 7])) = true ∧
      ((hfr 5 0xFFFFFFFFFFFE [9, 0, 0, 0, 7])).kind = 5) ∧
    (headOk ((hfr 7 0xFFFFFFFFFFFE [9, 0, 0, 0])) = true ∧ hostBound.tagOk ((hfr 7 0xFFFFFFFFFFFE [9, 0, 0, 0])) = true ∧
      ((hfr 7 0xFFFFFFFFFFFE [9, 0, 0, 0])).kind = 7) ∧
    (w_HostPortServes_6.hostOn = true) := by decide +kernel

theorem witness_HostPortServes_3 :
    (hostLive.hostOn = true ∧ hostLive.txAssoc = none ∧ hostLive.b HOST_SEC_REQUIRE = false ∧ hostLive.bound = false) ∧
    (hostBound.bound = true ∧ hostBound.peer ≠ (5 : BitVec 48).toNat) ∧
    (w_HostPortServes_9.hostOn = true ∧ 8 ≤ w_HostPortServes_9.host.jobs.length) ∧
    (hostBound.host.jobs = [] ∧ hostBound.host.last = none ∧
      rqBad ((([4, 0, 0, 1, 0, 0, 0, 0, 0x40, 0] : List (BitVec 8))).map BitVec.toNat) = true) := by decide +kernel

theorem witness_HostPortServes_4 :
    (hostWord.bound = true ∧ hostWord.hostOn = true ∧ hostWord.b SYS_CHIP_ID_ASSIGNED = true ∧ hostWord.txAssoc = none ∧
      hostWord.b HOST_SEC_REQUIRE = false ∧ hostWord.host.jobs = [] ∧ hostWord.host.last = none ∧
      rqBad (shmRead.map BitVec.toNat) = false ∧ chipLocal (0x8000 : BitVec 16).toNat = true ∧
      rqWrite (shmRead.map BitVec.toNat) = false ∧ rqWords (shmRead.map BitVec.toNat) = 1 ∧ hostWord.mortarInit = true ∧
      pageOf (rqAt (shmRead.map BitVec.toNat) 0) = none ∧
      hostWord.reads iHOST (hostWord.mine (rqAt (shmRead.map BitVec.toNat) 0)) 4 sysRouter = true) ∧
    (w_HostPortServes_12.hostOn = true ∧ w_HostPortServes_12.host.jobs = []) := by decide +kernel

theorem witness_HostPortServes_5 :
    (hostBound.host.asm = none) ∧
    (16 ≤ msg16.length ∧ chipLocal (0x8000 : BitVec 16).toNat = true ∧ ofBE (slice (msg16.map BitVec.toNat) 2 2) ≠ 2 ∧
      hostBound.host.msgs.length < 4 ∧ hostBound.schedRuns = false) ∧
    (4 ≤ w_HostPortServes_15.host.msgs.length ∧ w_HostPortServes_15.host.asm = none) ∧
    (hostBound.actv .host 0 = true ∧ (∀ k, k < 4 → hostBound.crcTakes k 1 = false) ∧ hostBound.f HOST_IBUCKET_RATE = 0 ∧
      hostBound.host.fifo.length < 256) ∧
    (stepClass (6 : BitVec 8).toNat w_HostPortServes_17.host.step = .late) ∧
    ((stepClass (255 : BitVec 8).toNat w_HostPortServes_18.host.step).counted = true ∧ w_HostPortServes_18.b FOOT_STAT_ACTIVE = false ∧
      w_HostPortServes_18.streamOf (65535 - w_HostPortServes_18.f (RT_GWIN_BASE 0)) = none) := by decide +kernel

theorem witness_HostPortServes_6 :
    (w_HostPortServes_19.streamOf (65535 - w_HostPortServes_19.f (RT_GWIN_BASE 0)) = some 7 ∧ w_HostPortServes_19.strDense 7 = false ∧
      w_HostPortServes_19.host.list.length < 16384) ∧
    (listLive.hostOn = true ∧ listLive.txAssoc = none ∧ listLive.b HOST_SEC_REQUIRE = false ∧ listLive.actv .host 0 = true ∧
      listLive.bound = true ∧ listLive.f HOST_LEASE_STATE < 2 ∧ (∀ j, j < 4 → listLive.crcTakes j 2 = false) ∧
      ((List.range 8).filter fun j => listLive.strOn j) = [7] ∧ listLive.strDense 7 = false ∧ listLive.ctl.confirmed = true ∧
      (listLive.host.list.filter fun e => e.stream == 7 && e.step == listLive.ctl.step.toNat).length = 1) ∧
    (closedStep listLive.host.step (255 : BitVec 8).toNat = 255) := by decide +kernel

theorem witness_HostPortServes_7 :
    (w_HostPortServes_22.bound = true ∧ (w_HostPortServes_22.f HOST_LEASE_STATE = 1 ∨ (w_HostPortServes_22.f HOST_LEASE_STATE = 2 ∧
      w_HostPortServes_22.host.ring = []))) ∧
    (w_HostPortServes_23.f HOST_LEASE_STATE = 1 ∧ w_HostPortServes_23.tmrCompares 1 = true) ∧
    (w_HostPortServes_24.f HOST_LEASE_STATE = 2 ∧ w_HostPortServes_24.b HOST_LEASE_AUTONOMOUS = false ∧
      w_HostPortServes_24.schedRuns = true ∧ w_HostPortServes_24.step10Done = true ∧ w_HostPortServes_24.b FOOT_STAT_ACTIVE = false) ∧
    (w_HostPortServes_26.b HOST_PHY_LINK ≠ false) ∧
    (listLive.actv .host 0 = true ∧ listLive.hostIdle = false) ∧
    (hostLive.txAssoc = none) ∧
    (w_HostPortServes_29.txAssoc = some { an := 0, sci := 1, pn := 2 ^ 32 - 2 ^ 30, ssci := 0, salt := 0, key := 0 } ∧
      w_HostPortServes_29.pnEnd ≤ 2 ^ 32 - 2 ^ 30 + 2 ^ 30) := by decide +kernel

def w_MessagesServed_1 : State := hostBound.setF SYS_CHIP_ID_MANAGER 1

def w_MessagesServed_2 : State := oneMsg fwRun ((mkMsg 0 1 []))

def w_MessagesServed_3 : State := oneMsg fwRun ((mkMsg 2 2 []))

def w_MessagesServed_4 : State := oneMsg fwRun ((mkMsg 2 3 [0, 0, 0, 0, 0, 0, 0, 0, 0, 0, 0, 0]))

def w_MessagesServed_5 : State := oneMsg fwRun ((mkMsg 2 4 []))

def w_MessagesServed_6 : State := oneMsg (fwRun.setF FOOT_STAT_ACTIVE 1) ((mkMsg 2 0x10 [0, 0, 0, 1, 0, 0, 0, 0, 0, 0, 0, 4, 0, 0, 0, 64]))

def w_MessagesServed_7 : State := oneMsg fwRun ((mkMsg 2 0x10 [0, 0, 0, 1, 0, 0, 0, 0, 0, 0, 0, 4, 0, 0, 0, 64]))

def fwStep : State := { (fwRun.setF TMR_STEP_CTRL_RUN 1).openStep false with tb := 1000 }

def w_MessagesServed_8 : State := oneMsg fwStep ((mkMsg 2 0x10 [0, 0, 0, 1, 0, 0, 0, 0, 0, 0, 0, 0, 0, 0, 0, 64]))

theorem foldl_same {α : Type} (f : State → α → State) (s : State) (l : List α) (h : ∀ a ∈ l, f s a = s) : l.foldl f s = s := by
  induction l with
  | nil => rfl
  | cons a r ih => rw [List.foldl_cons, h a (by simp)]; exact ih fun b hb => h b (by simp [hb])

def stopRest (s : State) : State :=
  let s := (List.range 4).foldl (fun s k => if s.domOn dCSI then s.portDisable .csi k else s) s
  let s := if s.domOn dCSI then s.portDisable .aer 0 else s
  let s := (List.range 4).foldl (fun s k => if s.domOn dT1S then s.portDisable .t1s k else s) s
  if s.hostOn then s.hostDisable else s

def tilesOff (s : State) (t : Nat) : State := if s.en .tile t && s.tileUp t then s.tileDisable t else s

theorem no_tile_on : ((List.range 1024).all fun t => !(tookAll w_MessagesServed_8).runStop.en .tile t) = true := by decide +kernel

theorem witness_MessagesServed_8b : (((tookAll w_MessagesServed_8).stopAll).setLong (some { msg := mkMsg 2 0x10 [] })).allStopped = false := by
  have e : (tookAll w_MessagesServed_8).stopAll = stopRest ((List.range 1024).foldl tilesOff (tookAll w_MessagesServed_8).runStop) := by
    have m : (tookAll w_MessagesServed_8).isManager = true := by decide +kernel
    unfold State.stopAll
    rw [if_pos m]
    rfl
  rw [e, foldl_same]
  · decide +kernel
  · intro t ht
    have h := List.all_eq_true.mp no_tile_on t ht
    simp only [Bool.not_eq_true'] at h
    simp only [tilesOff, h, Bool.false_and, Bool.false_eq_true, if_false]

def w_MessagesServed_9 : State := { oneMsg fwRun ((mkMsg 2 0x11 [])) with net := { ready := true, firstStep := 2 ^ 40 } }

def w_MessagesServed_10 : State := oneMsg fwRun ((mkMsg 2 0x11 []))

def w_MessagesServed_11 : State := oneMsg (fwRun.setF TMR_STEP_STAT_RELAY 1) ((mkMsg 2 0x12 []))

def w_MessagesServed_12 : State := oneMsg fwRun ((mkMsg 2 0x12 []))

def w_MessagesServed_13 : State := oneMsg fwStep ((mkMsg 2 0x12 []))

def w_MessagesServed_14 : State := oneMsg fwStep ((mkMsg 2 0x13 (List.replicate 17 0)))

def w_MessagesServed_15 : State := fwRun.setLong (some { msg := mkMsg 2 0x13 (List.replicate 17 0), stage := 2, tiles := [31] })

def tuBody (n : Nat) : List Nat := bytesBE 4 0x3FFFFF ++ bytesBE 2 n ++ [0, 0] ++ (List.range n).flatMap fun i => bytesBE 6 (0x40 + 4 * i) ++ bytesBE 6 5

def w_MessagesServed_16 : State := fwRun.setLong (some { msg := mkMsg 2 0x14 (tuBody 2), stage := 5, ndone := 1, code := 3 })

def w_MessagesServed_17 : State := oneMsg (fwRun.setF SYS_CHIP_ID_MANAGER 0) ((mkMsg 2 0x14 (tuBody 2)))

def w_MessagesServed_18 : State := oneMsg fwStep ((mkMsg 2 0x14 (tuBody 1)))

def w_MessagesServed_19 : State := oneMsg (fwRun.setF (BOOT_LOG_RESULT 10) 1) ((mkMsg 2 0x20 []))

def w_MessagesServed_20 : State := oneMsg fwRun ((mkMsg 2 0x20 []))

def w_MessagesServed_21 : State := oneMsg fwRun ((mkMsg 2 0x21 (List.replicate 12 0)))

def w_MessagesServed_22 : State := oneMsg ({ fwRun.setF FOOT_STAT_ACTIVE 1 with host := { hello := true } }) ((mkMsg 2 0x21 (List.replicate 12 0)))

def w_MessagesServed_22b : State := oneMsg ({ (fwRun.setF FOOT_STAT_ACTIVE 1).setF MTR_INJ_HOLD_SYS 1 with host := { hello := true } }) ((mkMsg 2 0x21 (List.replicate 12 0)))

def w_MessagesServed_23 : State := oneMsg fwRun ((mkMsg 2 0x30 (List.replicate 32 7 ++ bytesBE 8 0 ++ bytesBE 4 50240)))

def atShm : State := fwRun.setF FWC_FW_LOCK_LOCK 0

def w_MessagesServed_23b : State := oneMsg atShm ((mkMsg 2 0x30 (List.replicate 32 7 ++ bytesBE 8 0x200000100 ++ bytesBE 4 50240)))

def keyMsg (op an : Nat) : Msg := mkMsg 2 0x31 ([op, an, 0, 0] ++ List.replicate 72 9)

def w_MessagesServed_24 : State := { oneMsg fwRun ((keyMsg 1 0)) with fuse := { lc := 2 } }

def w_MessagesServed_25 : State := { oneMsg fwRun ((keyMsg 1 0)) with fuse := { lc := 2, pair := some 5 } }

def paired : State := { fwRun with fuse := { lc := 2, pair := some 5 } }

def w_MessagesServed_26 : State := oneMsg paired ((keyMsg 2 3))

def w_MessagesServed_29 : State := oneMsg { paired with host := { rx := [⟨3, 0x0909090909090909, 0, 0, 0, 0⟩, ⟨2, 5, 0, 0, 0, 0⟩], txa := [⟨3, 0x0909090909090909, 0, 0, 0, 0⟩, ⟨3, 5, 0, 0, 0, 0⟩], txOn := true } } ((keyMsg 4 3))

def w_MessagesServed_30 : State := oneMsg paired ((keyMsg 5 0))

def w_MessagesServed_31 : State := oneMsg fwRun ((mkMsg 2 0x40 []))

def coreLive (k : Nat) : State := live.setF (FWC_CORE_STAT_STATE k) cRUN

theorem witness_MessagesServed :
    (w_MessagesServed_1.isManager = true ∧ w_MessagesServed_1.bound = true ∧ w_MessagesServed_1.hostOn = true ∧
      w_MessagesServed_1.txAssoc = none ∧ w_MessagesServed_1.b HOST_SEC_REQUIRE = false) ∧
    (w_MessagesServed_2.schedRuns = true ∧ w_MessagesServed_2.host.msgs = [((mkMsg 0 1 []))] ∧ ((mkMsg 0 1 [])).type = 1 ∧
      ofBE (slice ((mkMsg 0 1 [])).bytes 6 2) = ((mkMsg 0 1 [])).bytes.length ∧ w_MessagesServed_2.host.long = none ∧
      ((mkMsg 0 1 [])).body.length = 0 ∧ w_MessagesServed_2.isManager = true ∧ w_MessagesServed_2.hostOn = true) ∧
    (w_MessagesServed_3.host.msgs = [((mkMsg 2 2 []))] ∧ ((mkMsg 2 2 [])).type = 2 ∧ ((mkMsg 2 2 [])).major = 2 ∧
      ofBE (slice ((mkMsg 2 2 [])).bytes 6 2) = ((mkMsg 2 2 [])).bytes.length) ∧
    (w_MessagesServed_4.host.msgs = [((mkMsg 2 3 [0, 0, 0, 0, 0, 0, 0, 0, 0, 0, 0, 0]))] ∧
      ((mkMsg 2 3 [0, 0, 0, 0, 0, 0, 0, 0, 0, 0, 0, 0])).type = 3 ∧ ((mkMsg 2 3 [0, 0, 0, 0, 0, 0, 0, 0, 0, 0, 0, 0])).major = 2 ∧
      ofBE (slice ((mkMsg 2 3 [0, 0, 0, 0, 0, 0, 0, 0, 0, 0, 0, 0])).bytes 6 2) = ((mkMsg 2 3 [0, 0, 0, 0, 0, 0, 0, 0, 0, 0, 0, 0])).bytes.length) ∧
    (w_MessagesServed_5.host.msgs = [((mkMsg 2 4 []))] ∧ ((mkMsg 2 4 [])).type = 4 ∧ ((mkMsg 2 4 [])).major = 2 ∧
      ofBE (slice ((mkMsg 2 4 [])).bytes 6 2) = ((mkMsg 2 4 [])).bytes.length ∧ w_MessagesServed_5.isManager = true) ∧
    (w_MessagesServed_6.host.msgs = [((mkMsg 2 0x10 [0, 0, 0, 1, 0, 0, 0, 0, 0, 0, 0, 4, 0, 0, 0, 64]))] ∧
      ((mkMsg 2 0x10 [0, 0, 0, 1, 0, 0, 0, 0, 0, 0, 0, 4, 0, 0, 0, 64])).type = 0x10 ∧
      ((mkMsg 2 0x10 [0, 0, 0, 1, 0, 0, 0, 0, 0, 0, 0, 4, 0, 0, 0, 64])).major = 2 ∧
      ofBE (slice ((mkMsg 2 0x10 [0, 0, 0, 1, 0, 0, 0, 0, 0, 0, 0, 4, 0, 0, 0, 64])).bytes 6 2) = ((mkMsg 2 0x10 [0, 0, 0, 1, 0, 0, 0, 0, 0, 0, 0, 4, 0, 0, 0, 64])).bytes.length ∧
      ((mkMsg 2 0x10 [0, 0, 0, 1, 0, 0, 0, 0, 0, 0, 0, 4, 0, 0, 0, 64])).body.length = 16 ∧
      (w_MessagesServed_6.secRuns = false ∨ w_MessagesServed_6.b FOOT_STAT_ACTIVE = true)) := by decide +kernel

theorem witness_MessagesServed_2 :
    (w_MessagesServed_7.secRuns = true ∧ w_MessagesServed_7.b FOOT_STAT_ACTIVE = false ∧
      bitAt (ofBE (slice ((mkMsg 2 0x10 [0, 0, 0, 1, 0, 0, 0, 0, 0, 0, 0, 4, 0, 0, 0, 64])).body 8 4)) 2 = true ∧
      ofBE (slice ((mkMsg 2 0x10 [0, 0, 0, 1, 0, 0, 0, 0, 0, 0, 0, 4, 0, 0, 0, 64])).bytes 6 2) = ((mkMsg 2 0x10 [0, 0, 0, 1, 0, 0, 0, 0, 0, 0, 0, 4, 0, 0, 0, 64])).bytes.length) ∧
    (w_MessagesServed_8.secRuns = true ∧ w_MessagesServed_8.b FOOT_STAT_ACTIVE = false ∧
      bitAt (ofBE (slice ((mkMsg 2 0x10 [0, 0, 0, 1, 0, 0, 0, 0, 0, 0, 0, 0, 0, 0, 0, 64])).body 8 4)) 2 = false) ∧
    (w_MessagesServed_9.host.msgs = [((mkMsg 2 0x11 []))] ∧ ((mkMsg 2 0x11 [])).type = 0x11 ∧ ((mkMsg 2 0x11 [])).major = 2 ∧
      ofBE (slice ((mkMsg 2 0x11 [])).bytes 6 2) = ((mkMsg 2 0x11 [])).bytes.length ∧ w_MessagesServed_9.net.ready = true ∧
      w_MessagesServed_9.net.ran = false ∧ w_MessagesServed_9.running = false ∧ w_MessagesServed_9.relay = false ∧
      w_MessagesServed_9.b TMR_STEP_CTRL_RUN = false) ∧
    (w_MessagesServed_10.net.ready = false ∧ w_MessagesServed_10.ctl.held = false) := by decide +kernel

theorem witness_MessagesServed_3 :
    (w_MessagesServed_11.host.msgs = [((mkMsg 2 0x12 []))] ∧ ((mkMsg 2 0x12 [])).type = 0x12 ∧ ((mkMsg 2 0x12 [])).major = 2 ∧
      ofBE (slice ((mkMsg 2 0x12 [])).bytes 6 2) = ((mkMsg 2 0x12 [])).bytes.length ∧ w_MessagesServed_11.relay = true) ∧
    (w_MessagesServed_12.relay = false ∧ w_MessagesServed_12.running = false) ∧
    (w_MessagesServed_13.host.msgs = [((mkMsg 2 0x12 []))] ∧ ((mkMsg 2 0x12 [])).type = 0x12 ∧ w_MessagesServed_13.relay = false ∧
      w_MessagesServed_13.running = true ∧ w_MessagesServed_13.b TMR_STEP_CTRL_RUN = true) ∧
    (w_MessagesServed_14.host.msgs = [((mkMsg 2 0x13 (List.replicate 17 0)))] ∧ ((mkMsg 2 0x13 (List.replicate 17 0))).type = 0x13 ∧
      ((mkMsg 2 0x13 (List.replicate 17 0))).major = 2 ∧
      ofBE (slice ((mkMsg 2 0x13 (List.replicate 17 0))).bytes 6 2) = ((mkMsg 2 0x13 (List.replicate 17 0))).bytes.length ∧
      17 ≤ ((mkMsg 2 0x13 (List.replicate 17 0))).body.length) ∧
    (w_MessagesServed_15.schedRuns = true ∧ w_MessagesServed_15.host.msgs = [] ∧
      w_MessagesServed_15.host.long = some (({ msg := ((mkMsg 2 0x13 (List.replicate 17 0))), stage := 2, tiles := [31] } : LongOp)) ∧
      (({ msg := ((mkMsg 2 0x13 (List.replicate 17 0))), stage := 2, tiles := [31] } : LongOp)).msg.type = 0x13 ∧
      (∀ t ∈ (({ msg := ((mkMsg 2 0x13 (List.replicate 17 0))), stage := 2, tiles := [31] } : LongOp)).tiles, w_MessagesServed_15.en .tile t = false)) := by decide +kernel

theorem witness_MessagesServed_4 :
    (w_MessagesServed_16.host.long = some (({ msg := ((mkMsg 2 0x14 (tuBody 2))), stage := 5, ndone := 1, code := 3 } : LongOp)) ∧
      (({ msg := ((mkMsg 2 0x14 (tuBody 2))), stage := 5, ndone := 1, code := 3 } : LongOp)).msg.type = 0x14) ∧
    (w_MessagesServed_17.host.msgs = [((mkMsg 2 0x14 (tuBody 2)))] ∧ ((mkMsg 2 0x14 (tuBody 2))).type = 0x14 ∧
      ((mkMsg 2 0x14 (tuBody 2))).major = 2 ∧
      ofBE (slice ((mkMsg 2 0x14 (tuBody 2))).bytes 6 2) = ((mkMsg 2 0x14 (tuBody 2))).bytes.length ∧
      ((mkMsg 2 0x14 (tuBody 2))).body.length = 8 + 12 * tuCount ((mkMsg 2 0x14 (tuBody 2))).body ∧
      tuCount ((mkMsg 2 0x14 (tuBody 2))).body = 2 ∧ w_MessagesServed_17.isManager = false) ∧
    (w_MessagesServed_18.host.msgs = [((mkMsg 2 0x14 (tuBody 1)))] ∧ ((mkMsg 2 0x14 (tuBody 1))).type = 0x14 ∧
      ((mkMsg 2 0x14 (tuBody 1))).major = 2 ∧
      ofBE (slice ((mkMsg 2 0x14 (tuBody 1))).bytes 6 2) = ((mkMsg 2 0x14 (tuBody 1))).bytes.length ∧
      ((mkMsg 2 0x14 (tuBody 1))).body.length = 8 + 12 * tuCount ((mkMsg 2 0x14 (tuBody 1))).body ∧
      tuCount ((mkMsg 2 0x14 (tuBody 1))).body = 1 ∧ w_MessagesServed_18.isManager = true ∧ w_MessagesServed_18.relay = false ∧
      w_MessagesServed_18.running = true ∧ w_MessagesServed_18.b TMR_STEP_CTRL_RUN = true) ∧
    (w_MessagesServed_19.host.msgs = [((mkMsg 2 0x20 []))] ∧ ((mkMsg 2 0x20 [])).type = 0x20 ∧ ((mkMsg 2 0x20 [])).major = 2 ∧
      ofBE (slice ((mkMsg 2 0x20 [])).bytes 6 2) = ((mkMsg 2 0x20 [])).bytes.length ∧ w_MessagesServed_19.step10Done = true ∧
      w_MessagesServed_19.b FOOT_STAT_ACTIVE = false) ∧
    (w_MessagesServed_20.step10Done = false) := by decide +kernel

theorem witness_MessagesServed_5 :
    (w_MessagesServed_21.host.msgs = [((mkMsg 2 0x21 (List.replicate 12 0)))] ∧ ((mkMsg 2 0x21 (List.replicate 12 0))).type = 0x21 ∧
      ((mkMsg 2 0x21 (List.replicate 12 0))).major = 2 ∧
      ofBE (slice ((mkMsg 2 0x21 (List.replicate 12 0))).bytes 6 2) = ((mkMsg 2 0x21 (List.replicate 12 0))).bytes.length ∧
      12 ≤ ((mkMsg 2 0x21 (List.replicate 12 0))).body.length ∧ (tookAll w_MessagesServed_21).footExitOk true false = false) ∧
    ((tookAll w_MessagesServed_22).footExitOk false false = true ∧
      (tookAll w_MessagesServed_22).bcastHeld ((tookAll w_MessagesServed_22).recMethod 9) = false ∧
      ofBE (slice ((mkMsg 2 0x21 (List.replicate 12 0))).body 0 8) = 0) ∧
    (w_MessagesServed_22b.host.msgs = [((mkMsg 2 0x21 (List.replicate 12 0)))] ∧ ((mkMsg 2 0x21 (List.replicate 12 0))).type = 0x21 ∧
      ((mkMsg 2 0x21 (List.replicate 12 0))).major = 2 ∧
      ofBE (slice ((mkMsg 2 0x21 (List.replicate 12 0))).bytes 6 2) = ((mkMsg 2 0x21 (List.replicate 12 0))).bytes.length ∧
      (tookAll w_MessagesServed_22b).footExitOk false false = true ∧
      (tookAll w_MessagesServed_22b).bcastHeld ((tookAll w_MessagesServed_22b).recMethod 9) = true) ∧
    (w_MessagesServed_23.host.msgs = [((mkMsg 2 0x30 (List.replicate 32 7 ++ bytesBE 8 0 ++ bytesBE 4 50240)))] ∧
      ((mkMsg 2 0x30 (List.replicate 32 7 ++ bytesBE 8 0 ++ bytesBE 4 50240))).type = 0x30 ∧
      ((mkMsg 2 0x30 (List.replicate 32 7 ++ bytesBE 8 0 ++ bytesBE 4 50240))).major = 2 ∧
      ofBE (slice ((mkMsg 2 0x30 (List.replicate 32 7 ++ bytesBE 8 0 ++ bytesBE 4 50240))).bytes 6 2) = ((mkMsg 2 0x30 (List.replicate 32 7 ++ bytesBE 8 0 ++ bytesBE 4 50240))).bytes.length ∧
      ((mkMsg 2 0x30 (List.replicate 32 7 ++ bytesBE 8 0 ++ bytesBE 4 50240))).body.length = 44 ∧ w_MessagesServed_23.secRuns = true ∧
      50240 ≤ ofBE (slice ((mkMsg 2 0x30 (List.replicate 32 7 ++ bytesBE 8 0 ++ bytesBE 4 50240))).body 40 4)) := by decide +kernel

theorem witness_MessagesServed_6 :
    (w_MessagesServed_23b.host.msgs = [((mkMsg 2 0x30 (List.replicate 32 7 ++ bytesBE 8 0x200000100 ++ bytesBE 4 50240)))] ∧
      ((mkMsg 2 0x30 (List.replicate 32 7 ++ bytesBE 8 0x200000100 ++ bytesBE 4 50240))).type = 0x30 ∧
      ((mkMsg 2 0x30 (List.replicate 32 7 ++ bytesBE 8 0x200000100 ++ bytesBE 4 50240))).major = 2 ∧
      ofBE (slice ((mkMsg 2 0x30 (List.replicate 32 7 ++ bytesBE 8 0x200000100 ++ bytesBE 4 50240))).bytes 6 2) = ((mkMsg 2 0x30 (List.replicate 32 7 ++ bytesBE 8 0x200000100 ++ bytesBE 4 50240))).bytes.length ∧
      w_MessagesServed_23b.secRuns = true ∧
      50240 ≤ ofBE (slice ((mkMsg 2 0x30 (List.replicate 32 7 ++ bytesBE 8 0x200000100 ++ bytesBE 4 50240))).body 40 4) ∧
      w_MessagesServed_23b.stores iSEC (ofBE (slice ((mkMsg 2 0x30 (List.replicate 32 7 ++ bytesBE 8 0x200000100 ++ bytesBE 4 50240))).body 32 8) % 2 ^ 48) 50240 sysRouter = true ∧
      w_MessagesServed_23b.writes iSEC (ofBE (slice ((mkMsg 2 0x30 (List.replicate 32 7 ++ bytesBE 8 0x200000100 ++ bytesBE 4 50240))).body 32 8) % 2 ^ 48) 50240 sysRouter = true) ∧
    (w_MessagesServed_24.host.msgs = [((keyMsg 1 0))] ∧ ((keyMsg 1 0)).type = 0x31 ∧ ((keyMsg 1 0)).major = 2 ∧
      ofBE (slice ((keyMsg 1 0)).bytes 6 2) = ((keyMsg 1 0)).bytes.length ∧ ((keyMsg 1 0)).body.length = 76 ∧ ((keyMsg 1 0)).op = 1 ∧
      w_MessagesServed_24.secRuns = true ∧ w_MessagesServed_24.fuse.lc = 2 ∧ w_MessagesServed_24.fuse.pair = none) ∧
    ((w_MessagesServed_25.secRuns = false ∨ w_MessagesServed_25.fuse.lc ≠ 2 ∨ w_MessagesServed_25.fuse.pair ≠ none)) ∧
    (w_MessagesServed_26.keysOk = true ∧ keyAn ((keyMsg 2 3)) < 4 ∧ w_MessagesServed_26.host.msgs = [((keyMsg 2 3))] ∧
      ((keyMsg 2 3)).type = 0x31 ∧ ((keyMsg 2 3)).major = 2 ∧ ofBE (slice ((keyMsg 2 3)).bytes 6 2) = ((keyMsg 2 3)).bytes.length ∧
      ((keyMsg 2 3)).body.length = 76 ∧ ((keyMsg 2 3)).op = 2) ∧
    (keyAn ((keyMsg 3 0x83)) < 4 ∧ bitAt (((keyMsg 3 0x83)).body.getD 1 0) 7 = true ∧ ((keyMsg 3 0x83)).op = 3) := by decide +kernel

theorem witness_MessagesServed_7 :
    (bitAt (((keyMsg 3 3)).body.getD 1 0) 7 = false ∧ ((keyMsg 3 3)).op = 3) ∧
    (((keyMsg 4 3)).op = 4 ∧ keyAn ((keyMsg 4 3)) < 4 ∧ w_MessagesServed_29.keysOk = true) ∧
    (((keyMsg 5 0)).op = 5 ∧ w_MessagesServed_30.hostOn = true) ∧
    (w_MessagesServed_31.host.msgs = [((mkMsg 2 0x40 []))] ∧ ((mkMsg 2 0x40 [])).type = 0x40 ∧ ((mkMsg 2 0x40 [])).major = 2 ∧
      ofBE (slice ((mkMsg 2 0x40 [])).bytes 6 2) = ((mkMsg 2 0x40 [])).bytes.length) := by decide +kernel

def w_CoresAndHods_1 : State := (coreLive 18).setF (FWC_WDOG_EN 18) 1

def w_CoresAndHods_2 : State := coreLive 0

def w_CoresAndHods_3 : State := coreLive 1

def w_CoresAndHods_4 : State := (({ coreLive 18 with tb := 1000000005 } : State).setCore 18 { crash1 := some 7, crash2 := some 5, busy := true }).setF (FWC_CORE_STAT_STATE 2) cRUN

def w_CoresAndHods_5 : State := ({ coreLive 18 with tb := 1000000004 } : State).setCore 18 { crash1 := some 7, crash2 := some 5 }

def w_CoresAndHods_6 : State := (({ coreLive 2 with tb := 1000000004 } : State).setCore 2 { crash1 := some 7, crash2 := some 5 }).setF (BOOT_LOG_RESULT 10) 1

def w_CoresAndHods_8 : State := ({ live with tb := 9 } : State).setF (FWC_CORE_STAT_STATE 18) cLOAD

def w_CoresAndHods_9 : State := coreLive 18

def hodHead : ReqHead := { dtile := BitVec.ofNat 10 (tileOf 15 27), dchip := 0, dgw := false, stile := 5, schip := 1, sgw := true, tag := 9, size := 0, addr := 0 }

def slotAt (n : Nat) (es : List (BitVec 256)) : HodSlot := { opened := true, used := true, gen := 255, svc := 65535, kind := n, chip := 1, tile := 5, gw := true, depth := 4, entries := es }

def hodLive (n : Nat) (es : List (BitVec 256)) : State := live.modCluster 15 fun x => x.setSlot 127 (slotAt n es)

def w_CoresAndHods_12 : State := hodLive 2 []

def w_CoresAndHods_14 : State := hodLive 2 [1, 2, 3]

def w_CoresAndHods_15 : State := hodLive 2 [1, 2, 3, 4]

def w_CoresAndHods_16 : State := hodLive 2 [1, 2]

def w_CoresAndHods_18 : State := (hodLive 0 [1]).setF (FWC_CORE_STAT_STATE 18) cRUN

def w_CoresAndHods_22 : State := (coreLive 2).setCore 2 { busy := true, retry := true, hpcmd := BitVec.ofNat 32 (2 ^ 30 + 2 ^ 28 + 0xFF7F), hptgt := 15 }

def w_CoresAndHods_24 : State := (coreLive 18).setCore 18 { busy := true, rsp := some (hsOk, [0xFF7F]), hpcmd := BitVec.ofNat 32 (2 ^ 29 + 5) }

def w_CoresAndHods_25 : State := (coreLive 18).setCore 18 { busy := true, rsp := some (hsFull, []), hpcmd := BitVec.ofNat 32 (2 ^ 30 + 2 ^ 28 + 5) }

def w_CoresAndHods_26 : State := ((coreLive 18).setCore 18 { busy := true, rsp := some (hsOk, [1, 2, 3, 0xFF00000000000000]), hpcmd := BitVec.ofNat 32 (2 ^ 30 + 2 ^ 29 + 5), hpbuf := 0x3FFE0 }).stBytes (shmBase 15 + 0x3FFDF) [77]

def w_CoresAndHods_27 : State := hodLive 0 []

def w_CoresAndHods_29 : State := hodLive 1 [1, 2]

def w_CoresAndHods_30 : State := (hodLive 0 [1, 2]).modCluster 15 fun x => x.setSlot 3 (slotAt 2 [])

def w_CoresAndHods_32 : State := (hodLive 0 [1]).wr (CLU_HOD_WSET_B 15 3).addr 0xFF000000

def booting (n m : Nat) : State := { live.setF BOOT_STATUS_BUSY 1 with boot := { run := some n, method := m, last := 12 } }

theorem witness_CoresAndHods :
    ((18 : BitVec 5).toNat < 19 ∧ w_CoresAndHods_1.coreState (18 : BitVec 5).toNat = cRUN ∧
      w_CoresAndHods_1.b (FWC_WDOG_EN (18 : BitVec 5).toNat) = true) ∧
    (w_CoresAndHods_2.coreState (0 : BitVec 5).toNat = cRUN) ∧
    (w_CoresAndHods_3.coreState (1 : BitVec 5).toNat = cRUN) ∧
    (w_CoresAndHods_4.coreState (18 : BitVec 5).toNat = cRUN ∧ (18 : BitVec 5).toNat ≠ 0 ∧
      w_CoresAndHods_4.crashRepeats (18 : BitVec 5).toNat = false) ∧
    (w_CoresAndHods_5.crashRepeats (18 : BitVec 5).toNat = true ∧ (18 : BitVec 5).toNat ≠ 2) ∧
    (w_CoresAndHods_6.coreState (2 : BitVec 5).toNat = cRUN ∧ w_CoresAndHods_6.crashRepeats (2 : BitVec 5).toNat = true ∧
      w_CoresAndHods_6.step10Done = true ∧ w_CoresAndHods_6.b FOOT_STAT_ACTIVE = false) ∧
    (w_CoresAndHods_8.coreState (18 : BitVec 5).toNat = cLOAD) ∧
    (w_CoresAndHods_9.coreState (18 : BitVec 5).toNat ≠ cLOAD) := by decide +kernel

theorem witness_CoresAndHods_2 :
    (live.fwAllows iSEC FWC_FW_LOCK.addr true = true) ∧
    (live.fwAllows iTHREAD FWC_FW_LOCK.addr true = false) ∧
    (clusterOf (hodHead).dtile.toNat = 15 ∧ w_CoresAndHods_12.domOn (dCLU 15) = true ∧
      ((w_CoresAndHods_12.cluster 15).openSlots.find? fun p => p.2.svc == (65535 : BitVec 16).toNat) = some (127, slotAt 2 []) ∧
      w_CoresAndHods_12.roomFor (hodHead).dtile.toNat .loc (Packet.readRsp (rspOf (hodHead) .ok 0) [BitVec.ofNat 64 ((slotAt 2 []).handle 127)]) = true) ∧
    (((live.cluster 15).openSlots.find? fun p => p.2.svc == (65535 : BitVec 16).toNat) = none ∧
      live.roomFor (hodHead).dtile.toNat .loc (Packet.readRsp (rspOf (hodHead) .ok hsNoService) [0]) = true) ∧
    ((w_CoresAndHods_14.cluster 15).lookup (0xFF7F : BitVec 16).toNat = (hsOk, some 127) ∧ bitAt (hodHead).tag.toNat 7 = false ∧
      ((w_CoresAndHods_14.cluster 15).slot 127).entries.length < ((w_CoresAndHods_14.cluster 15).slot 127).depth ∧
      w_CoresAndHods_14.roomFor (hodHead).dtile.toNat .loc (Packet.writeAck (rspOf (hodHead) .ok hsOk)) = true) ∧
    (((w_CoresAndHods_15.cluster 15).slot 127).depth ≤ ((w_CoresAndHods_15.cluster 15).slot 127).entries.length ∧
      w_CoresAndHods_15.roomFor (hodHead).dtile.toNat .loc (Packet.writeAck (rspOf (hodHead) .ok hsFull)) = true) := by decide +kernel

theorem witness_CoresAndHods_3 :
    ((w_CoresAndHods_16.cluster 15).lookup (0xFF7F : BitVec 16).toNat = (hsOk, some 127) ∧
      ((w_CoresAndHods_16.cluster 15).slot 127).entries = 1 :: [2] ∧
      w_CoresAndHods_16.hodOwns 15 ((w_CoresAndHods_16.cluster 15).slot 127) (.remote (hodHead).schip.toNat (hodHead).stile.toNat (hodHead).sgw) = true ∧
      w_CoresAndHods_16.roomFor (hodHead).dtile.toNat .loc (Packet.readRsp (rspOf (hodHead) .ok hsOk) (hodFlits 1)) = true) ∧
    (w_CoresAndHods_18.coreState (18 : BitVec 5).toNat = cRUN ∧ (w_CoresAndHods_18.core (18 : BitVec 5).toNat).busy = false ∧
      (18 : BitVec 5).toNat = 15 + 3 ∧ (15 : BitVec 32).toNat % 16 = 15 ∧
      w_CoresAndHods_18.hpChip (15 : BitVec 32).toNat = w_CoresAndHods_18.chipId) ∧
    ((w_CoresAndHods_18.cluster 15).lookup (0xFF7F : BitVec 16).toNat = (hsOk, some 127) ∧
      ((w_CoresAndHods_18.cluster 15).slot 127).entries.length < ((w_CoresAndHods_18.cluster 15).slot 127).depth) ∧
    (((w_CoresAndHods_18.cluster 15).slot 127).kind = 0 ∧ ((w_CoresAndHods_18.cluster 15).slot 127).entries = 1 :: []) ∧
    (w_CoresAndHods_3.coreState (1 : BitVec 5).toNat = cRUN ∧ (w_CoresAndHods_3.core (1 : BitVec 5).toNat).busy = false ∧
      (1 : BitVec 5).toNat < 2) := by decide +kernel

theorem witness_CoresAndHods_4 :
    ((w_CoresAndHods_22.core (2 : BitVec 5).toNat).busy = true ∧ (w_CoresAndHods_22.core (2 : BitVec 5).toNat).retry = true ∧
      (2 : BitVec 5).toNat < 3 ∧
      w_CoresAndHods_22.roomFor (corePlace (2 : BitVec 5).toNat).1 (if (corePlace (2 : BitVec 5).toNat).2 then .gw else .loc) (w_CoresAndHods_22.hpPacket (2 : BitVec 5).toNat 1 0xFF7F true (hodFlits (BitVec.ofNat 256 (w_CoresAndHods_22.ldN 32 (w_CoresAndHods_22.hpBufAddr (2 : BitVec 5).toNat))))) = true) ∧
    (bitAt (w_CoresAndHods_22.core (2 : BitVec 5).toNat).hpcmd.toNat 28 = true) ∧
    ((w_CoresAndHods_24.core (18 : BitVec 5).toNat).rsp = some (hsOk, [0xFF7F]) ∧
      bits (w_CoresAndHods_24.core (18 : BitVec 5).toNat).hpcmd.toNat 30 29 = 1) ∧
    ((w_CoresAndHods_25.core (18 : BitVec 5).toNat).rsp = some (hsFull, []) ∧
      bits (w_CoresAndHods_25.core (18 : BitVec 5).toNat).hpcmd.toNat 30 29 = 2 ∧
      bitAt (w_CoresAndHods_25.core (18 : BitVec 5).toNat).hpcmd.toNat 28 = true) ∧
    ((w_CoresAndHods_26.core (18 : BitVec 5).toNat).rsp = some (hsOk, [1, 2, 3, 0xFF00000000000000]) ∧
      bits (w_CoresAndHods_26.core (18 : BitVec 5).toNat).hpcmd.toNat 30 29 = 3 ∧
      w_CoresAndHods_26.shmRetired ((18 : BitVec 5).toNat - 3) (w_CoresAndHods_26.hpBufAddr (18 : BitVec 5).toNat - shmBase ((18 : BitVec 5).toNat - 3)) = false ∧
      (w_CoresAndHods_26.cluster ((18 : BitVec 5).toNat - 3)).bad = []) ∧
    (w_CoresAndHods_27.f (CLU_HOD_REG_OWNER_KIND 15) ≠ 3 ∧ 4 ≤ (32 : BitVec 6).toNat ∧ (32 : BitVec 6).toNat ≤ 32 ∧
      ((w_CoresAndHods_27.cluster 15).openSlots.any fun p => p.2.svc == (65535 : BitVec 16).toNat) = true) := by decide +kernel

theorem witness_CoresAndHods_5 :
    (((w_CoresAndHods_27.cluster 15).openSlots.any fun p => p.2.svc == (65534 : BitVec 16).toNat) = false ∧
      (32 : BitVec 6).toNat ≤ (w_CoresAndHods_27.cluster 15).freeEntries ∧ (w_CoresAndHods_27.cluster 15).freeSlot = some 0) ∧
    ((w_CoresAndHods_29.cluster 15).lookup (0xFF7F : BitVec 16).toNat = (hsOk, some 127)) ∧
    (w_CoresAndHods_30.f (CLU_HOD_REG_OWNER_KIND 15) = 0) ∧
    (live.wsetReady 15 3 = []) ∧
    (w_CoresAndHods_32.wsetReady 15 3 = 7 :: [] ∧ w_CoresAndHods_32.b (CLU_HOD_WSET_CTRL_ROT 15 3) = false ∧
      (w_CoresAndHods_32.wsetSlots 15 3)[7]?.join = some 127) := by decide +kernel

def w_BootSequence_1 : State := booting 5 1

def w_BootSequence_3 : State := live.setF BOOT_STATUS_NEXT 5

def w_BootSequence_4 : State := (live.setF BOOT_STATUS_RESULT rFAILED).setF BOOT_STATUS_STEP 12 |>.setF BOOT_STATUS_ERR 4

def w_BootSequence_5 : State := booting 0 1

def w_BootSequence_6 : State := booting 1 1

def w_BootSequence_7 : State := booting 2 1

def w_BootSequence_9 : State := booting 3 1 |>.setF PWR_ON 1 |>.setF CLK_STAT_PLL 127

def w_BootSequence_11 : State := booting 4 2

def w_BootSequence_12 : State := { booting 5 1 with flights := [hopFlight], psums := [psB], counts := [(5, { valid := true })] }

def w_BootSequence_13 : State := booting 6 2

def w_BootSequence_14 : State := booting 7 4

def w_BootSequence_15 : State := (booting 7 1).setF (TIE_ENUM_CHIPS 0) 4

def w_BootSequence_16 : State := (booting 7 3).wr (BOOT_REC 7).addr 0x0202 |>.setF (TIE_ENUM_CHIPS 0) 0

def w_BootSequence_17 : State := booting 12 3

def w_BootSequence_18 : State := booting 8 1

def w_BootSequence_19 : State := (booting 9 3).setF (FWC_CORE_STAT_STATE 2) cRUN |>.setF (FWC_CORE_STAT_STATE 0) cRUN |>.setF FWC_FW_LOCK_LOCK 1

def w_BootSequence_19b : State := ((booting 9 1).setF (FWC_CORE_STAT_STATE 2) cRUN |>.setF (FWC_CORE_STAT_STATE 0) cRUN |>.setF FWC_FW_LOCK_LOCK 1).setF MTR_INJ_HOLD_SYS 1

def bootSched (n m : Nat) : State := ((booting n m).setF (FWC_CORE_STAT_STATE 2) cRUN).setF (FWC_CORE_STAT_STATE 0) cRUN

def w_BootSequence_20 : State := bootSched 10 4

def w_BootSequence_21 : State := bootSched 10 1

def w_BootSequence_22 : State := (bootSched 10 1).setF PWR_ON 1

def w_BootSequence_23 : State := (bootSched 11 1).setF FOOT_STAT_ACTIVE 1

def w_BootSequence_24 : State := bootSched 11 4

def w_BootSequence_25 : State := bootSched 11 1

def w_BootSequence_26 : State := bootSched 12 1

def w_BootSequence_27 : State := { live with boot := { mirror := true }, kparts := { mirrorNext := true } }

def w_BootSequence_30 : State := live.wr (BOOT_REC 5).addr 7

def footReady : State := ({ live with tb := 100500, ready := true } : State).setF (BOOT_LOG_RESULT 10) 1 |>.setF GPIO_FOOT_FOOT_EN 0xF |>.setF FOOT_CFG_SAFE 9 |>.setF FOOT_STAT_SEEN 0x3F |>.setF FOOT_STAT_CMD_CAUSE 1 |>.setF TMR_STEP_STAT_RUNNING 1

def footOn : State := footReady.setF FOOT_STAT_ACTIVE 1 |>.setF FOOT_STAT_SEEN 1 |>.setF FOOT_STAT_TRIGGER 1

theorem witness_BootSequence :
    (w_BootSequence_1.b BOOT_STATUS_BUSY = true) ∧
    (live.b BOOT_STATUS_BUSY = false ∧ 13 ≤ bits (13 : BitVec 32).toNat 3 0) ∧
    (bits (0x205 : BitVec 32).toNat 3 0 = w_BootSequence_3.f BOOT_STATUS_NEXT ∧ bits (0x205 : BitVec 32).toNat 11 8 ≠ 0 ∧
      permitted 5 2 = false) ∧
    (w_BootSequence_4.f BOOT_STATUS_RESULT = rFAILED ∧ bits (0xF0C : BitVec 32).toNat 3 0 = w_BootSequence_4.f BOOT_STATUS_STEP ∧
      w_BootSequence_4.b FOOT_STAT_ACTIVE = false) ∧
    (w_BootSequence_5.stepIs 0 = true ∧ w_BootSequence_5.boot.spi = false) ∧
    (w_BootSequence_6.stepIs 1 = true) ∧
    (w_BootSequence_7.stepIs 2 = true) ∧
    (w_BootSequence_9.stepIs 3 = true) ∧
    ((true && false) = false) := by decide +kernel

theorem witness_BootSequence_2 :
    (w_BootSequence_11.stepIs 4 = true ∧ w_BootSequence_11.keptClusters ≠ [] ∧ w_BootSequence_11.kparts.retired = []) ∧
    (w_BootSequence_12.stepIs 5 = true) ∧
    (w_BootSequence_13.stepIs 6 = true) ∧
    (w_BootSequence_14.stepIs 7 = true ∧ w_BootSequence_14.boot.method = mSKIP) ∧
    (w_BootSequence_15.boot.method ≠ mSKIP ∧ w_BootSequence_15.torusW * w_BootSequence_15.torusH ≤ w_BootSequence_15.f (TIE_ENUM_CHIPS 0)) ∧
    (w_BootSequence_16.f (TIE_ENUM_CHIPS 0) = 0 ∧
      w_BootSequence_16.f (TIE_ENUM_CHIPS 0) < w_BootSequence_16.torusW * w_BootSequence_16.torusH) ∧
    (w_BootSequence_17.boot.run = some 12) ∧
    (w_BootSequence_18.stepIs 8 = true ∧ w_BootSequence_18.secure.stuck = false) := by decide +kernel

theorem witness_BootSequence_3 :
    (w_BootSequence_19.stepIs 9 = true ∧ w_BootSequence_19.bcastReady = true ∧
      w_BootSequence_19.bcastHeld w_BootSequence_19.boot.method = false) ∧
    (w_BootSequence_19b.stepIs 9 = true ∧ w_BootSequence_19b.bcastReady = true ∧
      w_BootSequence_19b.bcastHeld w_BootSequence_19b.boot.method = true) ∧
    (w_BootSequence_20.stepIs 10 = true ∧ w_BootSequence_20.schedRuns = true ∧ w_BootSequence_20.foot.held = [] ∧
      w_BootSequence_20.boot.method = mSKIP) ∧
    (w_BootSequence_21.boot.method ≠ mSKIP ∧ w_BootSequence_21.domOn dKILN = true) ∧
    (w_BootSequence_22.domOn dKILN = false) ∧
    (w_BootSequence_23.stepIs 11 = true ∧ w_BootSequence_23.schedRuns = true ∧
      w_BootSequence_23.b FOOT_STAT_ACTIVE = true) := by decide +kernel

theorem witness_BootSequence_4 :
    (w_BootSequence_24.boot.method = mSKIP) ∧
    (w_BootSequence_25.boot.method ≠ mSKIP ∧ w_BootSequence_25.boot.method ≠ mALT ∧ w_BootSequence_25.secRuns = true) ∧
    (w_BootSequence_26.stepIs 12 = true ∧ w_BootSequence_26.b FOOT_STAT_ACTIVE = false) ∧
    (w_BootSequence_27.boot.mirror = true ∧ w_BootSequence_27.domOn dKILN = true ∧ w_BootSequence_27.kparts.mirrorNext = true) ∧
    ((62 : BitVec 6).toNat < 63) ∧
    (bits (0xB0C10001 : BitVec 32).toNat 31 16 = 0xB0C1 ∧ bitAt (0xB0C10001 : BitVec 32).toNat 0 = true ∧
      w_BootSequence_30.domOn dKILN = true) := by decide +kernel

def w_FootingMode_9 : State := footOn.setF TMR_STEP_STAT_RELAY 0 |>.setF (PWR_VOTE_CLIENTS 29) 0xFF

def w_FootingMode_11 : State := { footOn with foot := { entering := true } }

def w_FootingMode_13 : State := { footOn with foot := { hits1 := 6, hits0 := 1 } } |>.setF FOOT_CFG_INV 3

def w_FootingMode_14 : State := { footOn with foot := { hits1 := 6, spikes1 := 77, since := 500 }, host := { step := 255 } }

def powered : State := (live.setF (PAGE_EN .pwr 0) 1)

theorem witness_FootingMode :
    (footReady.b FOOT_STAT_ACTIVE = false ∧ footReady.step10Done = true) ∧
    (footReady.b FOOT_STAT_CMD_CAUSE = true) ∧
    (footOn.b FOOT_STAT_ACTIVE = true) ∧
    (live.b FOOT_STAT_ACTIVE = false ∧ live.step10Done = false) ∧
    (w_FootingMode_9.b FOOT_STAT_ACTIVE = true) ∧
    (live.b FOOT_STAT_ACTIVE = false) ∧
    (w_FootingMode_11.foot.entering = true ∧ w_FootingMode_11.footBad true = true) ∧
    (w_FootingMode_11.footBad false = false) ∧
    (w_FootingMode_13.b FOOT_STAT_UNAVAIL = false ∧ w_FootingMode_13.rd GPIO_EDGE.addr = 0 ∧ w_FootingMode_13.domOn dT1S = true ∧
      w_FootingMode_13.foot.entering = false) := by decide +kernel

theorem witness_FootingMode_2 :
    (w_FootingMode_14.hostOn = true ∧ w_FootingMode_14.txAssoc = none ∧ w_FootingMode_14.b HOST_SEC_REQUIRE = false) := by decide +kernel

def w_PowerAndClocks_1 : State := powered.setF (PWR_VOTE_CLIENTS 29) 0x8001

def w_PowerAndClocks_2 : State := powered.setF FOOT_STAT_ACTIVE 1

def w_PowerAndClocks_3 : State := { (powered.setF PWR_ON (2 ^ 29 - 1)).setF (PWR_VOTE_CLIENTS 29) 1 with ctl := { powered.ctl with step := 99 } }

def w_PowerAndClocks_3c : State := (powered.setF PWR_ON (2 ^ 30 - 9)).setF CLK_STAT_REF_OK 0

def w_PowerAndClocks_3d : State := powered.setF PWR_ON (2 ^ 30 - 9)

def w_PowerAndClocks_3b : State := (powered.setF PWR_ON 0).setF (PWR_VOTE_CLIENTS 0) 1

def w_PowerAndClocks_5 : State := (powered.setF PWR_ON 16).setF PWR_LEVEL_CLAMP 0

def w_PowerAndClocks_5b : State := powered.setF PWR_ON 32

def w_PowerAndClocks_6 : State := { powered with tb := 0x1234567890 }

def w_PowerAndClocks_8 : State := powered.setF PWR_LEVEL_REQ_E 3 |>.setF PWR_LEVEL_CLAMP 0

def w_PowerAndClocks_9 : State := { powered.setF PWR_LEVEL_REQ_W 3 |>.setF PWR_LEVEL_CLAMP 0 with power := { toW := some 3, toE := some 2 } }

def w_PowerAndClocks_10 : State := { powered.setF PWR_GOV_CAP_E 3 with power := { quiet := 5 } }

def w_PowerAndClocks_12 : State := { powered with power := { quiet := 8 } }

def w_PowerAndClocks_13 : State := { powered.setF PWR_GOV_PSTRETCH 1 with power := { quiet := 9 } }

def w_PowerAndClocks_14 : State := powered.setF PWR_THERM_TJ_MAX 0xFFFF |>.setF PWR_GOV_TCAP 0

def secured : State := (((live.setF (PAGE_EN .recd 0) 1).setF (PAGE_EN .spi 0) 1).setF (PAGE_EN .sec 0) 1).setCoreState 0 cRUN

def hashing : State := ((((State.stN 1 (State.stN 6 (State.stN 8 secured (jobArea false + 16) 2) (jobArea false + 8) (0xFFC000000000 + shmBase 1 + 0x80)) (shmBase 1 + 0x81) 9 : State))))
def jobbing : State := { hashing with secure := { secured.secure with jobs := [false], vault := some 5 } }

theorem witness_PowerAndClocks :
    ((29 : BitVec 5).toNat < 30 ∧ w_PowerAndClocks_1.frozen = false) ∧
    (w_PowerAndClocks_2.frozen = true) ∧
    (w_PowerAndClocks_3.domOn (29 : BitVec 5).toNat = false ∧ w_PowerAndClocks_3.heldDom (29 : BitVec 5).toNat = true ∧
      w_PowerAndClocks_3.en .pwr 0 = true ∧
      ((29 : BitVec 5).toNat < 14 ∨ bitAt (w_PowerAndClocks_3.f (BOOT_REC 23)) ((29 : BitVec 5).toNat - 14) = false)) ∧
    ((3 : BitVec 5).toNat = dPLL ∧ w_PowerAndClocks_3c.domOn dPLL = false ∧ w_PowerAndClocks_3c.heldDom dPLL = true ∧
      w_PowerAndClocks_3c.en .pwr 0 = true ∧ w_PowerAndClocks_3c.b CLK_STAT_REF_OK = false) ∧
    (w_PowerAndClocks_3d.domOn (3 : BitVec 5).toNat = false ∧ w_PowerAndClocks_3d.heldDom (3 : BitVec 5).toNat = true ∧
      w_PowerAndClocks_3d.b CLK_STAT_REF_OK = true) := by decide +kernel

theorem witness_PowerAndClocks_2 :
    (w_PowerAndClocks_3b.domOn (0 : BitVec 5).toNat = false ∧ w_PowerAndClocks_3b.heldDom (0 : BitVec 5).toNat = true) ∧
    (powered.domOn (29 : BitVec 5).toNat = true ∧ powered.heldDom (29 : BitVec 5).toNat = false ∧ powered.frozen = false) ∧
    (w_PowerAndClocks_5.domOn (4 : BitVec 5).toNat = true ∧ w_PowerAndClocks_5.heldDom (4 : BitVec 5).toNat = false ∧
      w_PowerAndClocks_5.mortarQuiet false = true) ∧
    (w_PowerAndClocks_5b.domOn (5 : BitVec 5).toNat = true ∧ w_PowerAndClocks_5b.heldDom (5 : BitVec 5).toNat = false ∧
      w_PowerAndClocks_5b.mortarQuiet true = true) ∧
    (w_PowerAndClocks_6.wakeOn 6 15 = true) ∧
    (live.wakeOn 15 0 = false) ∧
    (w_PowerAndClocks_8.power.toE = none ∧ w_PowerAndClocks_8.levelTarget true ≠ w_PowerAndClocks_8.f (levelApp true)) := by decide +kernel

theorem witness_PowerAndClocks_3 :
    (w_PowerAndClocks_9.power.toW = some 3 ∧ w_PowerAndClocks_9.levelTarget false = 3) ∧
    (w_PowerAndClocks_10.powerLimit < (511 : BitVec 9).toNat) ∧
    ((0 : BitVec 9).toNat * 16 ≤ w_PowerAndClocks_12.powerLimit * 15 ∧ w_PowerAndClocks_12.power.quiet < 9) ∧
    (9 ≤ w_PowerAndClocks_13.power.quiet ∧ 0 < w_PowerAndClocks_13.f PWR_GOV_PSTRETCH) ∧
    (w_PowerAndClocks_14.f PWR_GOV_TCAP < w_PowerAndClocks_14.thermalCap (0x7FFF : BitVec 16).toInt) ∧
    ((6 : BitVec 3).toNat < 7 ∧ powered.domOn dPLL = true ∧
      bitAt (powered.f CLK_STAT_PLL) (6 : BitVec 3).toNat = true) := by decide +kernel

def w_SecurityAndRecords_1b : State := { secured with fuse := { secured.fuse with lc := 3 } }

def w_SecurityAndRecords_4 : State := jobbing.setF SEC_TAMPER_CFG_PIN_EN 1

def w_SecurityAndRecords_5 : State := jobbing.setF SEC_TAMPER_CFG_PIN_EN 0

def w_SecurityAndRecords_6 : State := { secured with tb := 77 }

def w_SecurityAndRecords_7 : State := (secured.setF (REC_THR_EN 2) 1).setF (REC_THR_ID 2) 33

def w_SecurityAndRecords_8 : State := secured.setF (PAGE_EN .recd 0) 0

def w_SecurityAndRecords_9 : State := { secured with recWin := [(2, 5), (8, 3)] }

def w_SecurityAndRecords_10 : State := secured.setF REC_CFG_PERSIST 1

def w_SecurityAndRecords_12 : State := { secured.setF REC_CFG_PERSIST 1 with kparts := { secured.kparts with copyA := some ⟨65535, 3, 0, []⟩ } }

def w_SecurityAndRecords_14 : State := { secured with recs := [(3, {})], recWin := [(2, 5)], kparts := { secured.kparts with copyA := some ⟨65535, 3, 0, []⟩ } }

def spiLive : State := { (secured.setF SYS_CHIP_ID_ASSIGNED 1).setF (BOOT_LOG_RESULT 5) 1 with mem := [⟨0x200000100, 0x78⟩, ⟨0x200000103, 0x12⟩] }

theorem witness_canonical : State.reset.canonical = true ∧ Machine.step State.reset = .next State.reset.idle := by
  refine ⟨by decide +kernel, rfl⟩

theorem witness_canonical_live : live.canonical = true ∧ (after .secWdogKick live).canonical = true := by decide +kernel

/-- `BR` with an offset, and an instruction that carries a predicate. -/
theorem witness_NeuronWordsRoundTrip :
    (∀ m p o, (⟨.br 1 2 0x7FFFF, 0, false⟩ : NInstr).op = .br m p o → (⟨.br 1 2 0x7FFFF, 0, false⟩ : NInstr).pr = 0 ∧
      (⟨.br 1 2 0x7FFFF, 0, false⟩ : NInstr).pn = false) ∧
    (∀ m p o, (⟨.pend, 3, true⟩ : NInstr).op = .br m p o → (⟨.pend, 3, true⟩ : NInstr).pr = 0 ∧ (⟨.pend, 3, true⟩ : NInstr).pn = false) :=
  ⟨fun _ _ _ _ => ⟨rfl, rfl⟩, fun _ _ _ h => nomatch h⟩

def readHead : RspHead := { dtile := 1023, dchip := 5, dgw := true, status := 0, hstat := 0, tag := 255, size := 3 }
def writeHead (n : BitVec 2) : ReqHead := { dtile := 1023, dchip := 5, dgw := false, stile := 7, schip := 9, sgw := true, tag := 255, size := n, addr := 0x3FFFFFFFFF }

/-- One packet of each type whose data the statement measures, alone and in one frame, and their reading. -/
theorem witness_PacketsRoundTrip :
    dataFlits 3 = 4 ∧ dataFlits (writeHead 0).size.toNat = 1 ∧
    Packet.ofFlits (Packet.writeReq (writeHead 0) [0xFF]).flits = .writeReq (writeHead 0) [0xFF] ∧
    Packet.ofFlits (Packet.readRsp readHead [1, 2, 3, 4]).flits = .readRsp readHead [1, 2, 3, 4] ∧
    Packet.ofFlits (Packet.readRsp { readHead with hstat := 9 } []).flits = .readRsp { readHead with hstat := 9 } [] ∧
    Packet.ofFlits (Packet.mgmt 15 1 2 3 []).flits = .mgmt 15 1 2 3 [] ∧
    Packet.ofFlits (Packet.bcast 1 0x3FF 0xFFFFFF [1, 2, 3, 4, 5, 6, 7]).flits = .bcast 1 0x3FF 0xFFFFFF [1, 2, 3, 4, 5, 6, 7] ∧
    Packet.ofFlits (Packet.hodMsg (writeHead 3) 1 0xFFFF [1, 2, 3, 4]).flits = .hodMsg (writeHead 3) 1 0xFFFF [1, 2, 3, 4] ∧
    Packet.ofFlits (Packet.hodMsg (writeHead 3) 2 0xFFFF []).flits = .hodMsg (writeHead 3) 2 0xFFFF [] ∧
    Packet.split 2 ([Packet.start 77, .mgmt 15 1 2 3 [9]].flatMap Packet.flits) = ([.start 77, .mgmt 15 1 2 3 [9]], false) := by
  decide +kernel

theorem witness_SecurityAndRecords :
    (secured.secRuns = true ∧ secured.b FWC_FW_LOCK_LOCK = false) ∧
    (w_SecurityAndRecords_1b.secRuns = true ∧ w_SecurityAndRecords_1b.b FWC_FW_LOCK_LOCK = false ∧
      w_SecurityAndRecords_1b.debugOk = false) ∧
    (secured.domOn dSEC = true ∧ secured.domOn (jobDom true) = true ∧ secured.secure.jobs.contains true = false) ∧
    (secured.domOn dSEC = true ∧ secured.domOn (jobDom false) = true) ∧
    (jobbing.secure.jobs.contains false = true ∧ bitAt (jobbing.ldN 4 (jobArea false + 24)) 4 = false ∧
      jobbing.reads iENGINE (jobbing.ldN 6 (jobArea false + 8)) (jobbing.ldN 8 (jobArea false + 16)) sysRouter = true) ∧
    ((0 : BitVec 3).toNat < 4 ∧ w_SecurityAndRecords_4.b SEC_TAMPER_CFG_PIN_EN = true ∧ w_SecurityAndRecords_4.domOn dSEC = true) ∧
    ((3 : BitVec 3).toNat < 4 ∧ (3 : BitVec 3).toNat ≠ 0) ∧
    ((0 : BitVec 3).toNat = 0 ∧ w_SecurityAndRecords_5.b SEC_TAMPER_CFG_PIN_EN = false ∧ 4 ≤ (4 : BitVec 3).toNat) := by decide +kernel

theorem witness_SecurityAndRecords_2 :
    (w_SecurityAndRecords_6.domOn dSEC = true) ∧
    (w_SecurityAndRecords_7.recActive = true ∧ (33 : BitVec 6).toNat < 34) ∧
    (w_SecurityAndRecords_8.recActive = false) ∧
    (w_SecurityAndRecords_9.recActive = true) ∧
    (w_SecurityAndRecords_10.domOn dREC = true ∧ w_SecurityAndRecords_10.en .recd 0 = true ∧
      w_SecurityAndRecords_10.f REC_CFG_PERSIST ≠ 0 ∧ w_SecurityAndRecords_10.domOn dKILN = true ∧
      w_SecurityAndRecords_10.kparts.copyA = none) ∧
    (w_SecurityAndRecords_12.domOn dREC = true ∧ w_SecurityAndRecords_12.en .recd 0 = true ∧
      w_SecurityAndRecords_12.f REC_CFG_PERSIST ≠ 0 ∧ w_SecurityAndRecords_12.domOn dKILN = true ∧
      w_SecurityAndRecords_12.kparts.copyA = some ⟨65535, 3, 0, []⟩ ∧ w_SecurityAndRecords_12.kparts.copyB = none) := by decide +kernel

theorem witness_SecurityAndRecords_3 :
    (w_SecurityAndRecords_14.domOn dREC = true ∧ bits (0xC1EA0001 : BitVec 32).toNat 31 16 = 0xC1EA ∧
      bitAt (0xC1EA0001 : BitVec 32).toNat 0 = true) ∧
    (¬ (bits (0xC1EA0000 : BitVec 32).toNat 31 16 = 0xC1EA ∧ bitAt (0xC1EA0000 : BitVec 32).toNat 0 = true)) ∧
    (secured.actv .spi 0 = true ∧ secured.spi.queue = []) ∧
    (spiLive.actv .spi 0 = true ∧ spiLive.spi.queue = [] ∧ spiLive.spi.await = none ∧ spiLive.b SYS_CHIP_ID_ASSIGNED = true ∧
      ((BitVec.ofNat 48 (0x3FF * 2 ^ 38 + 0x2000FF000))).toNat / 2 ^ 38 = 0x3FF ∧
      pageOf (((BitVec.ofNat 48 (0x3FF * 2 ^ 38 + 0x2000FF000))).toNat % 2 ^ 38 / 4 * 4) = none ∧ spiLive.mortarInit = true ∧
      spiLive.writes iHOST (spiLive.mine (((BitVec.ofNat 48 (0x3FF * 2 ^ 38 + 0x2000FF000))).toNat % 2 ^ 38 / 4 * 4)) 4 sysRouter = true) := by decide +kernel

theorem witness_SecurityAndRecords_4 :
    (secured.b SYS_CHIP_ID_ASSIGNED = false ∧ secured.actv .spi 0 = true ∧ secured.spi.queue = [] ∧ secured.spi.await = none) ∧
    (spiLive.reads iHOST (spiLive.mine (((BitVec.ofNat 48 (0x3FF * 2 ^ 38 + 0x200000100))).toNat % 2 ^ 38 / 4 * 4)) 4 sysRouter = true) ∧
    ((7 : BitVec 8) ≠ 0x02 ∧ (7 : BitVec 8) ≠ 0x0B ∧ (7 : BitVec 8) ≠ 0x05 ∧ (7 : BitVec 8) ≠ 0x9F) := by decide +kernel

/-! ## Ill-formed commands are refused -/

def anyReq (z : BitVec 2) : ReqHead := ⟨0, 0, false, 0, 0, false, 0, z, 0⟩
def anyRsp (st : BitVec 4) (hs : BitVec 16) : RspHead := ⟨0, 0, false, st, hs, 0, 3⟩
def anyFrame (n : Nat) : HFrame := ⟨true, none, 0, 0, none, 0, 0, 0, 0, 0, 0, List.replicate n 0⟩

theorem test_wf_initiator :
    (Instr.registerWrite 24 0 0).wf = false ∧ (Instr.rcRead 24 0).wf = false ∧ (Instr.w1cWrite 24 0 0).wf = false ∧
    (Instr.readReq 24 (anyReq 0)).wf = false ∧ (Instr.writeReq 24 (anyReq 0) [0]).wf = false ∧
    (Instr.retirementWrite 24 0 0).wf = false ∧ (Instr.cluSecWinWrite 24 0).wf = false ∧ (Instr.mapTableWrite 24 0 0).wf = false ∧
    (Instr.mapDataAccess 24 0 none).wf = false ∧ (Instr.fwcFwLock 24).wf = false ∧ (Instr.tbLoRead 24).wf = false := by decide
theorem test_wf_unaligned :
    (Instr.registerWrite 0 2 0).wf = false ∧ (Instr.rcRead 0 1).wf = false ∧ (Instr.w1cWrite 0 3 0).wf = false ∧
    (Instr.retirementWrite 0 2 0).wf = false ∧ (Instr.mapTableWrite 0 2 0).wf = false ∧ (Instr.spiWrite 2 [] false).wf = false ∧
    (Instr.spiRead 1 1).wf = false := by decide
theorem test_wf_supply : (Instr.supplyMonitorReset 0).wf = false ∧ (Instr.supplyMonitorReset 7).wf = false := by decide
theorem test_wf_data_length :
    (Instr.writeReq 0 (anyReq 3) [0, 0, 0]).wf = false ∧ (Instr.readRsp (anyRsp 0 0) [0]).wf = false ∧
    (Instr.readRsp (anyRsp 1 0) [0, 0, 0, 0]).wf = false ∧ (Instr.readRsp (anyRsp 0 1) [0, 0, 0, 0]).wf = false ∧
    (Instr.readRsp (anyRsp 0 1) []).wf = true ∧ (Instr.hodSend (anyReq 3) 0 [0, 0, 0]).wf = false := by decide
theorem test_wf_frame_length :
    (Instr.bcastLoadDeliver 0 0 []).wf = false ∧ (Instr.tieDataFrame 0 0 0 []).wf = false ∧
    (Instr.tieDataFrame 0 0 0 (List.replicate 9 0)).wf = false ∧ (Instr.tieTreeFrame 0 0 0 [0, 0, 0]).wf = false ∧
    (Instr.mgmtRegisterFrame 0 0 []).wf = false ∧ (Instr.mgmtMailboxFrame 0 0 (List.replicate 8 0)).wf = false ∧
    (Instr.t1sFrame 0 true true 0 0 0 (List.replicate 45 0)).wf = false := by decide
theorem test_wf_long_body :
    (Instr.regReq 0 0 (List.replicate 1493 0)).wf = false ∧ (Instr.mbox 0 0 (List.replicate 1493 0)).wf = false ∧
    (Instr.streamIn 0 0 (List.replicate 1493 0)).wf = false ∧ (Instr.hostFrameReceive (anyFrame 1493)).wf = false := by
  decide +kernel
theorem test_wf_unit_numbers :
    (Instr.psumWindowExpire 0 31).wf = false ∧ (Instr.memLineRead 48 0 false false).wf = false ∧
    (Instr.memLineWrite 48 0 false false).wf = false ∧ (Instr.memFillGo 48 0).wf = false ∧ (Instr.memFillDone 48).wf = false ∧
    (Instr.repointRegion true 16 false).wf = false ∧ (Instr.tokenBucketRefill 11).wf = false ∧ (Instr.portInject 11).wf = false ∧
    (Instr.portDisable 10).wf = false ∧ (Instr.mapDataAccess 0 6 none).wf = false ∧
    (Instr.reporterClose (.port 10) 0).wf = false := by decide
theorem test_wf_cores :
    (Instr.coreCrash 19 1).wf = false ∧ (Instr.coreCrash 0 0).wf = false ∧ (Instr.coreCrash 0 4).wf = false ∧
    (Instr.watchdogExpire 19).wf = false ∧ (Instr.fatalTrap 19).wf = false ∧ (Instr.panic 19).wf = false ∧ (Instr.kick 19).wf = false ∧
    (Instr.coreRelease 19).wf = false ∧ (Instr.hodSendRetry 19).wf = false ∧ (Instr.hodSendTimeout 19).wf = false ∧
    (Instr.hodPortComplete 19).wf = false := by decide
theorem test_wf_domains :
    (Instr.pwrVset 30 0).wf = false ∧ (Instr.pwrVclr 30 0).wf = false ∧ (Instr.domainRise 30).wf = false ∧
    (Instr.domainHoldExpire 30).wf = false := by decide
theorem test_wf_codes :
    (Instr.footingTrigger 0).wf = false ∧ (Instr.footingTrigger 7).wf = false ∧ (Instr.pllLoss 7).wf = false ∧
    (Instr.tamperEvent 4).wf = false ∧ (Instr.recorderSample 34 0 0).wf = false := by decide

/-! ## The spec's worked examples -/

/-- Tile windows and clusters (the examples of chapters 0 and 1). -/
theorem test_example_addresses :
    winBase 0x041 = 0x102080000 ∧ neuBase 0x041 = 0x1020C0000 ∧ clusterOf 0x18A = 5 ∧ localIdx 0x18A = 4 * 8 + 2 ∧
    0x045 * 2 ^ 38 + shmBase 9 = 0x114202400000 := by decide
/-- The stochastic rounding of 6.3125 (chapter 2). -/
theorem test_example_rounding : srnd 1616 8 176 = 7 ∧ srnd 1616 8 175 = 6 := by decide
/-- Three conversions with m = 181 and s = 14, and their errors (chapter 2). -/
theorem test_example_conversions :
    rescale 1234 181 14 0 15 = ⟨14, false, 1234⟩ ∧ rescale 1400 181 14 0 15 = ⟨15, false, 1400⟩ ∧
    rescale 1500 181 14 0 15 = ⟨15, true, 1500⟩ ∧ convError ⟨14, false, 1234⟩ 181 14 = -95 ∧
    convError ⟨15, false, 1400⟩ 181 14 = 119 ∧ convError ⟨15, true, 1500⟩ 181 14 = 402 := by decide
/-- The built-in LIF model's leak and fire over three steps, binary and graded (chapter 3). -/
theorem test_example_lif :
    fireOn false false 1000 3700 = ⟨2700, 1, true, true⟩ ∧ rnd15 (2700 * 0x7800) = 2531 ∧
    fireOn false false 1000 2531 = ⟨1531, 1, true, true⟩ ∧ rnd15 (1531 * 0x7800) = 1435 ∧
    fireOn false false 1000 1435 = ⟨435, 1, false, false⟩ ∧ fireOn false true 1000 3700 = ⟨700, 3, false, false⟩ := by decide
/-- The taps of the kernel event at x = 3, y = 2, c = 1 (chapter 4), and those of an event at (0, 0). -/
theorem test_example_kernel :
    (kernelHits 3 3 1 1 14 14 3 2 1).length = 9 ∧ (9, 3, 2) ∈ kernelHits 3 3 1 1 14 14 3 2 1 ∧
    (10, 2, 2) ∈ kernelHits 3 3 1 1 14 14 3 2 1 ∧ (17, 1, 0) ∈ kernelHits 3 3 1 1 14 14 3 2 1 ∧
    kernelHits 3 3 1 1 14 14 0 0 1 = [(9, 0, 0)] := by decide
/-- The words of the program of chapter 5. -/
theorem test_example_program_words :
    ninstrEncode ⟨.ldn 1 0, 0, false⟩ = 0x28400000 ∧ ninstrEncode ⟨.ldn 2 1, 0, false⟩ = 0x28800008 ∧
    ninstrEncode ⟨.decay 1 1, 0, false⟩ = 0x38440000 ∧ ninstrEncode ⟨.decayx 2 2 6, 0, false⟩ = 0x3C880030 ∧
    ninstrEncode ⟨.fold 1 1, 0, false⟩ = 0x34440000 ∧ ninstrEncode ⟨.alu 1 1 2 13, 0, false⟩ = 0x08448068 ∧
    ninstrEncode ⟨.fire 1 1, 0, false⟩ = 0x40440000 ∧ ninstrEncode ⟨.alu 1 1 2 12, 0, false⟩ = 0x08448060 ∧
    ninstrEncode ⟨.ldih 4 0x40, 0, false⟩ = 0x1D000200 ∧ ninstrEncode ⟨.alu 2 2 4 12, 1, false⟩ = 0x08890062 ∧
    ninstrEncode ⟨.stn 1 0, 0, false⟩ = 0x2C040000 ∧ ninstrEncode ⟨.stn 2 1, 0, false⟩ = 0x2C080008 ∧
    ninstrEncode ⟨.endTouch, 0, false⟩ = 0x04000000 := by decide
/-- The same words decode to those instructions. -/
theorem test_example_program_decodes :
    [0x28800008, 0x38440000, 0x3C880030, 0x34440000, 0x08448068, 0x40440000, 0x1D000200, 0x08890062, 0x2C080008, 0x04000000].map
      ninstrDecode =
    [some ⟨.ldn 2 1, 0, false⟩, some ⟨.decay 1 1, 0, false⟩, some ⟨.decayx 2 2 6, 0, false⟩, some ⟨.fold 1 1, 0, false⟩,
      some ⟨.alu 1 1 2 13, 0, false⟩, some ⟨.fire 1 1, 0, false⟩, some ⟨.ldih 4 0x40, 0, false⟩, some ⟨.alu 2 2 4 12, 1, false⟩,
      some ⟨.stn 2 1, 0, false⟩, some ⟨.endTouch, 0, false⟩] := by decide +kernel
/-- A SPIKE_MC for two clusters and two members adds 4 to INJ (chapter 7). -/
theorem test_example_multicast : (Packet.spikeMC 0x60 0 0 1 0 0 (2 ^ 9 + 2 ^ 49)).injWeight = 4 := by decide
/-- "123456789" under the reset configurations of a channel's check and of a check-value unit (chapter 10). -/
theorem test_example_checks :
    crcMsb 16 0x1021 0xFFFF [49, 50, 51, 52, 53, 54, 55, 56, 57] = 0x29B1 ∧
    crcModel [49, 50, 51, 52, 53, 54, 55, 56, 57] 32 0x04C11DB7 0xFFFFFFFF true true 0xFFFFFFFF = 0xCBF43926 := by decide +kernel
/-- Line 5 of MEM2 and of MEM3: the initial values of its check, and its place in a channel of two devices (chapter 10). -/
theorem test_example_line : lineInit 2 5 = 0xFEFA ∧ lineInit 3 5 = 0xFE7A ∧ devLine 2 5 = (1, 1) ∧ lineAddr 2 5 = 66 := by decide
/-- Local address 0x04_0000_1A40 with all 24 west channels active, and after MEM5 is retired (chapter 10). -/
def interleaved (l : List Nat) : State := { live with memW := { act := l, cw := 1000 } }
theorem test_example_interleave :
    (interleaved (List.range 24)).extMap 0x400001A40 = some (2, 5, 0) ∧
    (interleaved ((List.range 24).filter (· != 5))).extMap 0x400001A40 = some (3, 5, 0) := by decide +kernel
/-- The event word of the CSI example and the axon it maps to (chapter 12). -/
def camera : State :=
  (((((live.setF (CSI_FMT0_EW 0) 8).setF (CSI_GEOM_BW 0) 80).setF (CSI_GEOM_BH 0) 45).setF (CSI_GEOM_YSTRIDE 0) 16).setF
    (CSI_GEOM_PSTRIDE 0) 0x10).modSport 0 fun x => { x with map := [(1480, 2 ^ 31 + 2 ^ 28 + 0x18A * 2 ^ 16 + 0xC000)] }
theorem test_example_camera :
    camera.csiWords 0 [0x85, 0xD2, 0x12, 0x01, 0xA0, 0x86, 0x01, 0x00] = [0x000186A00112D285] ∧
    (camera.mapPixel 0 645 301 1).map (fun e => (e.tile, e.axon, e.prio)) = some (0x18A, 0xC1D5, 1) := by decide +kernel
/-- TMR_ARM_MULTI of four phases at time base 4,096, and channel 2's second match (chapter 16). -/
def phased : State :=
  { ((((([2, 3, 4, 5].foldl (fun s k => (s.setF (TMRCH_INTERVAL k) 25000).setF (TMRCH_CTRL_MODE k) 0) live).setF (TMRCH_PHASE 2)
    0).setF (TMRCH_PHASE 3) 6250).setF (TMRCH_PHASE 4) 12500).setF (TMRCH_PHASE 5) 18750) with tb := 4096 }
theorem test_example_phases :
    [2, 3, 4, 5].map (fun k => (after (.tmrArmMulti 0x3C) phased).f (TMRCH_COMPARE k)) = [4096, 10346, 16596, 22846] ∧
    (after (.timerMatch 2) (after (.tmrArmMulti 0x3C) phased)).f (TMRCH_COMPARE 2) = 29096 := by decide +kernel
/-- The captures of channel 6 from GPIO3, the second in the count of a read of CAP (chapter 16). -/
def capturing : State := ((live.setF (TMRCH_CTRL_MODE 6) 2).setF (TMRCH_CTRL_SRC 6) 0x13).tmrArm 6
def captured : State := State.capture { capturing with tb := 50002 } 0x13 0
def twice : State := State.capture { captured with tb := 70002 } 0x13 0x40
theorem test_example_capture :
    (after (.timerCapture 0x13 0) { capturing with tb := 50002 }).f (TMRCH_CAP 6) = 50000 ∧ captured.f (TMRCH_CAP 6) = 50000 ∧ twice.f (TMRCH_CAP 6) = 70000 ∧
    twice.f (TMRCH_STAT_NEW 6) = 1 ∧ twice.f (TMRCH_STAT_OVR 6) = 0 ∧ twice.f (TMRCH_SEQ 6) = 2 := by decide +kernel
/-- CSI0 decodes offset 0x140 as 0x040 (chapter 18); a rejected write is counted with its word offset. -/
theorem test_example_reject :
    Block.decodeOff .csi 0x140 = 0x040 ∧ (live.cfgReject .csi 0 0x040).rd (CFG_REJECT_COUNT .csi 0).addr = 0x00100001 := by
  decide +kernel

end Sys2Proof.Tests
end

namespace Sys2Proof.Machine
open Sys2Proof

/-! ## Stochastic rounding (R49) -/

/-- The arithmetic shift is the floor of the division by `2 ^ n`. -/
theorem asr_floor (i : Int) (n : Nat) : asr i n * 2 ^ n ≤ i ∧ i < (asr i n + 1) * 2 ^ n := by
  have hpos : (0 : Int) < 2 ^ n := by positivity
  have hasr : asr i n = i / 2 ^ n := by simp [asr]
  rw [hasr]
  exact ⟨Int.ediv_mul_le i hpos.ne', Int.lt_ediv_add_one_mul_self i hpos⟩

theorem srnd_of_le (v : Int) {f : Nat} (byte : Nat) (hf : f ≤ 8) :
    srnd v f byte = asr (v + ((byte % 2 ^ f : Nat) : Int)) f := if_pos hf

theorem srnd_of_gt (v : Int) {f byte : Nat} (hf : 8 < f) (hb : byte < 256) :
    srnd v f byte = asr (asr v (f - 8) + (byte : Int)) 8 := by
  rw [srnd, if_neg (Nat.not_le.mpr hf), Nat.mod_eq_of_lt hb]

/-- Settles O9: both cases are the floor property of the arithmetic shift, with the truncated value as the witness above 8 bits. -/
theorem stochasticRounding : Obligations.StochasticRounding := by
  intro v f byte hb
  refine ⟨fun _ hf => ?_, fun hf => ?_⟩
  · rw [srnd_of_le v byte hf]
    exact asr_floor _ f
  · obtain ⟨hlo, hhi⟩ := asr_floor v (f - 8)
    rw [srnd_of_gt v hf hb]
    exact ⟨asr v (f - 8), hlo, hhi, asr_floor _ 8⟩

/-! ## The random register keeps off zero (R47, R50) -/

/-- The register holds a word that is not 0. -/
def lfsrLive (w : Nat) : Prop := 0 < w ∧ w < 2 ^ 32

/-- An odd word's step gains bit 31, which the halved word lacks and the feedback mask has; an even word's is its half. -/
theorem lfsrStep_live {w : Nat} (h : lfsrLive w) : lfsrLive (lfsrStep w) := by
  obtain ⟨hpos, hlt⟩ := h
  unfold lfsrStep
  split
  · have hhalf : w / 2 < 2 ^ 31 := by omega
    have htop : ((w / 2) ^^^ 0x80200003).testBit 31 = true := by
      rw [Nat.testBit_xor, Nat.testBit_lt_two_pow hhalf]
      decide
    exact ⟨Nat.pos_of_ne_zero fun h0 => by simp [h0] at htop,
      Nat.xor_lt_two_pow (by omega) (by decide)⟩
  · exact ⟨by omega, by omega⟩

/-- Any number of steps keeps the register off zero. -/
theorem foldl_lfsrStep_live (l : List Nat) {w : Nat} (h : lfsrLive w) : lfsrLive (l.foldl (fun a _ => lfsrStep a) w) := by
  induction l generalizing w with
  | nil => exact h
  | cons _ l ih => exact ih (lfsrStep_live h)

theorem lfsrCycle_live {w : Nat} (h : lfsrLive w) : lfsrLive (lfsrCycle w) := foldl_lfsrStep_live _ h

/-! ## Reset values of the TILE pages -/

theorem pageOf_tile {t o : Nat} (ht : t < 1024) (ho : o < 0x1000) : pageOf (Block.tile.base t + o) = some (.tile, t) := by
  have ha : Block.tile.base t + o = 0x100000 + 0x1000 * t + o := rfl
  have hbase : Block.tile.info.base = 0x100000 := rfl
  have hpages : Block.tile.info.pages = 1024 := rfl
  have hbelow : ∀ b ∈ Block.all.take 20, b.info.base + 0x1000 * b.info.pages ≤ 0x100000 := by decide
  have hfind : (Block.all.find? fun b => b.info.base ≤ 0x100000 + 0x1000 * t + o &&
      0x100000 + 0x1000 * t + o < b.info.base + 0x1000 * b.info.pages) = some .tile := by
    refine List.find?_eq_some_iff_append.mpr ⟨?_, Block.all.take 20, [.rt], rfl, fun b hb => ?_⟩
    · simp only [Bool.and_eq_true, decide_eq_true_eq]
      omega
    · have hend := hbelow b hb
      simp only [Bool.not_eq_true', Bool.and_eq_false_iff, decide_eq_false_iff_not]
      omega
  have hidx : (0x100000 + 0x1000 * t + o - Block.tile.info.base) / 0x1000 = t := by omega
  rw [ha, pageOf, if_pos (by omega), hfind, Option.map_some, hidx]

@[simp] theorem State.rd_reset (a : Nat) : State.reset.rd a = regReset a := rfl

theorem regReset_TILE_LFSR {t : Nat} (ht : t < 1024) : regReset (TILE_LFSR t).addr = BitVec.ofNat 32 (0x80000000 + t) := by
  have hoff : (Block.tile.base t + 0x484) % 0x1000 = 0x484 := by
    simp only [Block.base, Block.info]; omega
  simp [TILE_LFSR, regReset, pageOf_tile ht, hoff]

/-! ## Raised flags and rejected writes (R564, R569) -/

theorem bitAt_eq_testBit (n k : Nat) : bitAt n k = n.testBit k := by
  rw [bitAt, Nat.testBit_eq_decide_div_mod_eq]
  rfl

/-- Raising a flag keeps every field outside the page's INT_STATUS and its cluster's. -/
theorem State.f_raise_addr (s : State) (b : Block) (i k : Nat) {m : Loc} (hb : m.addr ≠ (INT_STATUS b i).addr)
    (hc : m.addr ≠ (INT_STATUS .clu (clusterOf i)).addr) : (s.raise b i k).f m = s.f m := by
  obtain ⟨-, hkeep⟩ := State.onlyRegs_raise s b i k
    (fun a => a = (INT_STATUS b i).addr ∨ a = (INT_STATUS .clu (clusterOf i)).addr) (.inl rfl) (.inr rfl)
  unfold State.f
  rw [hkeep m.addr (not_or.mpr ⟨hb, hc⟩)]

/-- A raised flag of a page that is not the cluster's own is put into INT_STATUS beside those that stand there. -/
theorem State.f_raise_status (s : State) (b : Block) (i : Nat) {k : Nat} (hk : k < 32)
    (hc : (INT_STATUS b i).addr ≠ (INT_STATUS .clu (clusterOf i)).addr) :
    (s.raise b i k).f (INT_STATUS b i) = s.f (INT_STATUS b i) ||| 2 ^ k := by
  have hset : (s.setF (INT_STATUS b i) (s.f (INT_STATUS b i) ||| 2 ^ k)).f (INT_STATUS b i) = s.f (INT_STATUS b i) ||| 2 ^ k := by
    rw [State.f_setF_same _ _ _ (Nat.le_refl 31) (Nat.zero_le 31)]
    exact Nat.mod_eq_of_lt (Nat.or_lt_two_pow (bits_lt _ 31 0) (Nat.pow_lt_pow_right (by decide) hk))
  unfold State.raise State.withLine
  simp only
  split
  · split
    · rw [State.f_setF_addr _ _ _ _ hc, hset]
    · exact hset
  · exact hset

/-- A counter that takes one more counts it, up to its largest value. -/
theorem State.counted_inc (s : State) (l : Loc) (hh : l.hi ≤ 31) (hl : l.lo ≤ l.hi) : s.counted (s.inc l) l := by
  have hmax : min (s.f l + 1) l.max < 2 ^ (l.hi + 1 - l.lo) :=
    Nat.lt_of_le_of_lt (Nat.min_le_right _ _) (Nat.sub_lt (Nat.two_pow_pos _) Nat.one_pos)
  unfold State.counted State.inc State.add
  rw [State.f_setF_same _ _ _ hh hl, Nat.mod_eq_of_lt hmax]

/-- The INT_STATUS of a cluster lies below every register of the TILE pages. -/
theorem clu_status_addr_ne_tile {t : Nat} (ht : t < 1024) (i o : Nat) :
    Block.tile.base i + o ≠ (INT_STATUS .clu (clusterOf t)).addr := by
  simp only [INT_STATUS, Block.base, Block.info, clusterOf, tileX, tileY]
  omega

section Reject
variable (s : State) {t : Nat} (o : Nat)

/-- A rejected write of a TILE page keeps every field outside INT_STATUS and the reject record. -/
theorem State.f_cfgReject_tile_other (ht : t < 1024) {k hi lo : Nat} (hk : k ≠ 0x10) (hk' : k ≠ 0x1C) :
    (s.cfgReject .tile t o).f ⟨Block.tile.base t + k, hi, lo⟩ = s.f ⟨Block.tile.base t + k, hi, lo⟩ := by
  have hne : ∀ j, k ≠ j → Block.tile.base t + k ≠ Block.tile.base t + j := fun j hj => by omega
  unfold State.cfgReject
  rw [State.f_raise_addr _ _ _ _ (hne _ hk) (clu_status_addr_ne_tile ht t k), State.f_setF_addr _ _ _ _ (hne _ hk')]
  exact State.f_setF_addr _ _ _ _ (hne _ hk')

/-- A rejected write of a TILE page is counted. -/
theorem State.counted_cfgReject_tile (ht : t < 1024) : s.counted (s.cfgReject .tile t o) (CFG_REJECT_COUNT .tile t) := by
  have hcount := State.counted_inc s (CFG_REJECT_COUNT .tile t) (by decide : (15 : Nat) ≤ 31) (Nat.zero_le 15)
  have hstatus : (CFG_REJECT_COUNT .tile t).addr ≠ (INT_STATUS .tile t).addr := by
    simp [CFG_REJECT_COUNT, INT_STATUS]
  unfold State.counted State.cfgReject at *
  rw [State.f_raise_addr _ _ _ _ hstatus (clu_status_addr_ne_tile ht t 0x01C),
    State.f_setF_apart _ _ _ _ (Nat.le_refl 31) (by decide : (16 : Nat) ≤ 31) (.inr (by decide : (15 : Nat) < 16)), hcount]

/-- A rejected write of a TILE page raises bit 31 of its INT_STATUS. -/
theorem State.flag_cfgReject_tile (ht : t < 1024) : bitAt ((s.cfgReject .tile t o).f (INT_STATUS .tile t)) 31 = true := by
  unfold State.cfgReject
  rw [State.f_raise_status _ _ _ (by decide) (clu_status_addr_ne_tile ht t 0x010), bitAt_eq_testBit, Nat.testBit_or,
    Nat.testBit_two_pow_self, Bool.or_true]

end Reject

/-! ## TILE_LFSR_WRITE (R50, R67) -/

theorem exec_tileLfsrWrite_of_up {s : State} {t : BitVec 10} (v : BitVec 32) (hup : s.tileUp t.toNat = true) :
    exec (.tileLfsrWrite t v) s = .next (s.lfsrWrite t.toNat v.toNat) := by
  have harm : exec (.tileLfsrWrite t v) s = execTileLfsrWrite t v s := rfl
  rw [harm, execTileLfsrWrite, if_pos hup]

theorem State.lfsrWrite_of_disabled {s : State} {t : Nat} (v : Nat) (hen : s.en .tile t = false) :
    s.lfsrWrite t v = s.setF (TILE_LFSR t) (if v = 0 then 1 else v) := by
  simp [State.lfsrWrite, hen]

theorem State.lfsrWrite_of_enabled_ne {s : State} {t v : Nat} (hen : s.en .tile t = true) (hv : v ≠ s.f (TILE_LFSR t)) :
    s.lfsrWrite t v = s.cfgReject .tile t 0x484 := by
  simp [State.lfsrWrite, hen, hv.symm]

/-- The register just written reads back whole. -/
theorem State.f_setF_TILE_LFSR (s : State) (t : Nat) {w : Nat} (hw : w < 2 ^ 32) : (s.setF (TILE_LFSR t) w).f (TILE_LFSR t) = w := by
  rw [State.f_setF_same _ _ _ (Nat.le_refl 31) (Nat.zero_le 31)]
  exact Nat.mod_eq_of_lt hw

theorem State.f_reset_TILE_LFSR {t : Nat} (ht : t < 1024) : State.reset.f (TILE_LFSR t) = 0x80000000 + t := by
  rw [State.f, State.rd_reset, regReset_TILE_LFSR ht, BitVec.toNat_ofNat]
  simp only [bits, TILE_LFSR]
  omega

/-- Settles O10: a write is a field write or a reject by EN, the reset value is the register's own, and a drawing cycle is 32 steps
that each keep the register off zero. -/
theorem lfsrNeverLocks : Obligations.LfsrNeverLocks := by
  refine ⟨fun t v s hup => ⟨fun hen => ?_, fun hen hv => ?_⟩, fun t ht => State.f_reset_TILE_LFSR ht,
    fun w hpos hlt => lfsrCycle_live ⟨hpos, hlt⟩⟩
  · have hload : (if v.toNat = 0 then 1 else v.toNat) = if v = 0 then 1 else v.toNat := by
      simp only [BitVec.toNat_eq, BitVec.ofNat_eq_ofNat, BitVec.toNat_ofNat, Nat.zero_mod]
    have hlt : (if v = 0 then 1 else v.toNat) < 2 ^ 32 := by
      split
      · decide
      · exact v.isLt
    refine ⟨_, exec_tileLfsrWrite_of_up v hup, ?_⟩
    rw [State.lfsrWrite_of_disabled _ hen, hload]
    exact ⟨State.f_setF_TILE_LFSR s _ hlt, State.onlyRegs_setF s _ _ _ rfl⟩
  · refine ⟨_, exec_tileLfsrWrite_of_up v hup, ?_⟩
    rw [State.lfsrWrite_of_enabled_ne hen hv]
    exact ⟨s.f_cfgReject_tile_other _ t.isLt (by decide) (by decide), s.counted_cfgReject_tile _ t.isLt,
      s.flag_cfgReject_tile _ t.isLt⟩

end Sys2Proof.Machine
